-- ==== Sys2Proof/Word.lean ====
section
/-! DEFINITION. The word types of the NK7240 (00_scope, Conventions; 12 R194). -/

namespace Sys2Proof

/-- One byte. -/
abbrev Byte := BitVec 8

/-- A 24-bit frame number, wrapping after 16,777,215 (00_scope, Conventions). -/
abbrev FrameNo := BitVec 24

/-- A 16-bit lighting level; 65535 is full level (00_scope, Conventions). -/
abbrev Level := BitVec 16

/-- A station number 0 to 31. -/
abbrev StationNo := BitVec 5

/-- One entry for each of the 128 channels; bit n is channel n. -/
abbrev ChannelSet := BitVec 128

/-- A lighting channel 0 to 127. -/
abbrev Channel := Fin 128

/-- A look L0 to L7. -/
abbrev LookNo := Fin 8

/-- A condition 0 to 23. -/
abbrev ConditionNo := Fin 24

/-- The time of an event in whole nanoseconds (DESIGN CHOICE, log 9): R3 asks whether edges are closer together
than one microsecond. -/
abbrev Nanos := Nat

/-- A time in whole microseconds, as the timebase record keeps it (R1). -/
abbrev Micros := Nat

end Sys2Proof
end

