-- ==== Sys2Proof/Syntax.lean ====
section
/-! DEFINITION. The commands of the NK7240: one constructor per row of spec/opcode_table.json, with the
operands its rules name. -/

namespace Sys2Proof

/-- A message as it completes on the cue line (R18): the source station of its header, the bytes between
header and check value (their number is the length field), and the check value received. The kind code is
the command's, or an operand beside the message. -/
structure Message where
  source : StationNo
  body   : List Byte
  check  : BitVec 16
deriving DecidableEq, Repr

/-- The straps sampled on entering LOADING (R180). -/
structure Straps where
  stn   : BitVec 5
  setup : Bool
deriving DecidableEq, Repr

/-- The levels of the input pins (12.5); `true` is high. -/
structure Pins where
  cin   : BitVec 4
  onAir : Bool
  stn   : BitVec 5
  setup : Bool
deriving DecidableEq, Repr

/-- A pixel's components, 10 bits each (R140). -/
structure Pixel where
  r : BitVec 10
  g : BitVec 10
  b : BitVec 10
deriving DecidableEq, Repr

/-- The two blocks that send fade start requests and profile requests (R46, R68). -/
inductive Origin where
  | cueList
  | lookMachine
deriving DecidableEq, Repr

/-- The commands. Times are in whole nanoseconds (log 9). -/
inductive Instr where
  -- supply, reset, start-up controller (10)
  | powerOn (pins : Pins)
  | resetPinAssertion
  | resetPinDeassertion (straps : Straps)
  | loadingEnd (now : Nanos)
  | stnEdge (strap : Fin 5) (level : Bool) (now : Nanos)
  | strapChange (strap : Fin 5)
  -- frame timebase (01)
  | genlockPulse (now : Nanos)
  | lossDeadline
  | internalTimerExpiry
  | seekEnd
  | time (m : Message)
  -- cue line (02)
  | lineIdle
  | synchronisingWaitEnd
  | framingError
  | checkValueMismatch (kind : BitVec 4) (m : Message)
  | unknownKind (kind : BitVec 4) (m : Message)
  | reportReceived (m : Message)
  | attemptStart
  | attemptLost
  | messageDiscard
  | attemptWon
  | backoffWaitEnd
  -- cue list (03)
  | take (m : Message)
  | cancel (m : Message)
  | cueListFrameStart
  | runNoticeCueList
  -- conditions and look machine (04)
  | cond (m : Message)
  | cinEdge (pin : Fin 4) (level : Bool) (now : Nanos)
  | debouncedChange (pin : Fin 4)
  | runNoticeLook
  | lookFrameStart
  | dwellExpiry
  | conditionChangeNotice
  | lookHome
  -- fade engine (05)
  | fadeStartRequest (origin : Origin)
  | contentAnswer
  | answerWithoutContent
  | fadeFrameStart
  | fadeCompletion
  | scaleArrivalFade
  | protectionNotice
  | runNoticeFade
  -- preset store (06)
  | preset (m : Message)
  | commit (m : Message)
  | presetReadRequest
  | arrayReadEnd
  | suspensionReached
  | eraseEnd
  | programEnd
  | verifyEnd (success : Bool)
  | mapEraseEnd
  | mapProgramEnd
  | startScanEnd
  | restartRequest
  -- protection unit (07)
  | onAirEdge (level : Bool) (now : Nanos)
  | onAirAssertion
  | onAirDeassertion
  | protectOn (m : Message)
  | protectOff (m : Message)
  | mapErase (m : Message)
  | mapProgram (m : Message)
  | mapCompletionNotice
  | startScanMap
  -- wall feed (08)
  | rasterFrameStart
  | lineMarker
  | rasterPixel (p : Pixel)
  | codeError
  | wallFrameStart
  | scaleArrivalWall
  | scanEnd
  | wallFreeze
  | wallRun
  | wallMute
  | wallUnmute
  | wallProfile (origin : Origin)
  | runNoticeWall
  -- supply budget unit (09)
  | demand (m : Message)
  | budgetFrameStart
  | joinNotice
  -- start-up controller (10)
  | scanEndNotice
  | controllerFrameStart
  | seekFramesEnd
  | joinFramesEnd
  | restart (m : Message)
  | arrayQuiet (straps : Straps)
  -- status reporter (11)
  | queryStatus (m : Message)
  | queryBudget (m : Message)
  | queryPeer (m : Message)
  | queryCues (m : Message)
  | queryLook (m : Message)
  | queryDirectory (m : Message)
  | queryCounters (m : Message)
  | queryChannel (m : Message)
  | queryWall (m : Message)
  | queryUnknownRecord (m : Message)
  -- setup port (10.7)
  | setupTargetAddress (b : Byte)
  | setupAddressByte (b : Byte)
  | setupDataByte (b : Byte)
  | setupWriteEnd
  | rowProgrammingEnd
  | setupReadByte
  | setupReadEnd
  -- cue line, supply, fixture links, code errors (02, 10, 05, 07)
  | startPattern (slots : Nat)
  | startPatternError
  | powerLoss
  | fixturePacketsSent
  | protectCodeError (m : Message)
  | mapCodeError (m : Message)
deriving DecidableEq, Repr

end Sys2Proof
end

