-- ==== Sys2Proof/Config.lean ====
section
/-! DEFINITION. What the spec leaves open, as constants with no body: nothing in Lean can evaluate one. -/

namespace Sys2Proof.Config

/-- FREE VALUE (DESIGN CHOICE, log 15; R188). When a power-on, a power loss or a RESET breaks off the
programming of a configuration store row, "each byte of that row then holds either its old or its new
value". `rowByteReachedNew i b` says whether byte `b` of the row holds its new value at the `i`-th such
event. -/
opaque rowByteReachedNew : Nat → Fin 64 → Bool

end Sys2Proof.Config
end

