-- ==== Sys2Proof/Machine/Frames.lean ====
section
/-! DEFINITION. Frame number comparisons (00_scope, Conventions; R12). -/

namespace Sys2Proof.Machine

/-- The distance from frame `a` to frame `b`, (b − a) mod 2^24 (R12). -/
def frameDistance (a b : FrameNo) : Nat := (b - a).toNat

/-- "`b` is after `a`": the distance from `a` to `b` is 1 to 8,388,607 (R12). -/
def isAfter (b a : FrameNo) : Bool :=
  decide (1 ≤ frameDistance a b) && decide (frameDistance a b ≤ 8388607)

/-- "`b` is before `a`": the distance from `a` to `b` is 8,388,608 to 16,777,215 (R12). At the half-way
point each of the two is before the other. -/
def isBefore (b a : FrameNo) : Bool := decide (8388608 ≤ frameDistance a b)

/-- The offset of a target measured from the current frame, a signed number of frames (R35). -/
def frameOffset (target current : FrameNo) : Int :=
  if frameDistance current target ≤ 8388607 then (frameDistance current target : Int)
  else (frameDistance current target : Int) - 16777216

end Sys2Proof.Machine
end

