-- ==== Sys2Proof/Machine/Bytes.lean ====
section
/-! DEFINITION. Byte order: every multi-byte field is most significant byte first (R194). -/

namespace Sys2Proof.Machine

/-- The low `n` bytes of `v`, most significant byte first (R194). -/
def toBytes : Nat → Nat → List Byte
  | 0, _ => []
  | n + 1, v => BitVec.ofNat 8 (v >>> (8 * n)) :: toBytes n v

/-- The number that bytes spell, most significant byte first (R194). -/
def ofBytes (bs : List Byte) : Nat := bs.foldl (fun acc b => acc * 256 + b.toNat) 0

/-- The `len` bytes at offset `off`, as a number; bytes beyond the end read as absent (R194). -/
def fieldAt (bs : List Byte) (off len : Nat) : Nat := ofBytes ((bs.drop off).take len)

/-- The byte at offset `off`, 0 beyond the end. -/
def byteAt (bs : List Byte) (off : Nat) : Byte := bs.getD off 0

/-- One byte for a mark: 1 for yes, present, open or set, 0 for no, absent, closed or clear. R194 says so of present
bytes; for the other one-byte marks of the records it is a DESIGN CHOICE (log 43). -/
def markByte (b : Bool) : Byte := if b then 1 else 0

/-- A byte from up to eight marks, the first in bit 0 (R194, "Flag bytes are numbered from bit 0"). -/
def flagByte (marks : List Bool) : Byte :=
  BitVec.ofNat 8 (marks.foldr (fun b acc => 2 * acc + b.toNat) 0)

/-- The code 255 for "none" (R194). -/
def noneByte : Byte := 255

/-- A field that may be none, coded 255 when it is (R194). -/
def orNone (o : Option Byte) : Byte := o.getD noneByte

end Sys2Proof.Machine
end

