-- ==== Sys2Proof/Machine/LineCode.lean ====
section
/-! DEFINITION. The check value of R20 and the stuff bits of R19. -/

namespace Sys2Proof.Machine

/-- One place of the division by x^16 + x^12 + x^5 + 1 (0x11021): shift left, and subtract the generator
when the place shifted out is 1 (R20). Matching on the value lets the kernel evaluate it at each place. -/
def checkPlace : Nat → Nat
  | 0 => 0
  | x + 1 => bif Nat.ble 32768 (x + 1) then (2 * (x + 1)) ^^^ 0x11021 else 2 * (x + 1)

/-- One byte of the check of R20, most significant bit first. -/
def checkByte (c : Nat) (b : Byte) : Nat :=
  checkPlace (checkPlace (checkPlace (checkPlace (checkPlace (checkPlace (checkPlace (checkPlace
    (c ^^^ (b.toNat <<< 8)))))))))

/-- The check of R20 over bytes, from a running value. The two arms for a byte say the same; matching on
the running value lets the kernel evaluate it before the next byte. -/
def checkFrom : Nat → List Byte → Nat
  | c, [] => c
  | 0, b :: bs => checkFrom (checkByte 0 b) bs
  | c + 1, b :: bs => checkFrom (checkByte (c + 1) b) bs

/-- The 16-bit check of R20: initial value 0xFFFF, no final inversion. -/
def checkValue (bs : List Byte) : BitVec 16 := BitVec.ofNat 16 (checkFrom 0xFFFF bs)

/-- The bits of a byte, most significant first (R18). -/
def byteBits (b : Byte) : List Bool :=
  [b.getLsbD 7, b.getLsbD 6, b.getLsbD 5, b.getLsbD 4, b.getLsbD 3, b.getLsbD 2, b.getLsbD 1, b.getLsbD 0]

/-- Stuffing (R19) after a last bit `last` that ends a run of `run` equal bits. -/
def stuffFrom (last : Bool) (run : Nat) : List Bool → List Bool
  | [] => if run = 7 then [!last] else []
  | b :: bs =>
    if run = 7 then (!last) :: b :: stuffFrom b (if b = !last then 2 else 1) bs
    else b :: stuffFrom b (if b = last then run + 1 else 1) bs

/-- The bits as the sender puts them on the line: a bit of the opposite level after every run of 7, the
stuff bit counting as the first bit of the following run; one that falls due at the end is sent (R19). -/
def stuff : List Bool → List Bool
  | [] => []
  | b :: bs => b :: stuffFrom b 1 bs

/-- Removal of stuff bits after a last bit `last` that ends a run of `run`; none when eight consecutive
bits have one level, which is a framing error (R19). -/
def unstuffFrom (last : Bool) (run : Nat) : List Bool → Option (List Bool)
  | [] => some []
  | b :: bs =>
    if run = 7 then (if b = last then none else unstuffFrom b 1 bs)
    else (unstuffFrom b (if b = last then run + 1 else 1) bs).map (b :: ·)

/-- The bits a receiver decodes from the bits on the line (R19). -/
def unstuff : List Bool → Option (List Bool)
  | [] => some []
  | b :: bs => (unstuffFrom b 1 bs).map (b :: ·)

/-- The longest run of equal bits, counting from a run of `run` bits equal to `last`. -/
def longestRunFrom (last : Bool) (run : Nat) : List Bool → Nat
  | [] => run
  | b :: bs => max run (longestRunFrom b (if b = last then run + 1 else 1) bs)

/-- The longest run of equal bits on the line. -/
def longestRun : List Bool → Nat
  | [] => 0
  | b :: bs => longestRunFrom b 1 bs

end Sys2Proof.Machine
end

