-- ==== Sys2Proof/Machine/Messages.lean ====
section
/-! DEFINITION. Messages on the cue line: kind codes, lengths, header, scope and payload layouts
(R18, R20, R21, R194). -/

namespace Sys2Proof.Machine

/-- The message kinds of R21. -/
inductive Kind where
  | time | take | demand | cond | protect | preset | commit | map | query | report | restart
deriving DecidableEq, Repr

/-- The kind of a kind code; none for code 0 and 12 to 15 (R21). -/
def kindOfCode (code : BitVec 4) : Option Kind :=
  match code.toNat with
  | 1 => some .time
  | 2 => some .take
  | 3 => some .demand
  | 4 => some .cond
  | 5 => some .protect
  | 6 => some .preset
  | 7 => some .commit
  | 8 => some .map
  | 9 => some .query
  | 10 => some .report
  | 11 => some .restart
  | _ => none

/-- The kind code of a kind (R21). -/
def kindCode : Kind → BitVec 4
  | .time => 1
  | .take => 2
  | .demand => 3
  | .cond => 4
  | .protect => 5
  | .preset => 6
  | .commit => 7
  | .map => 8
  | .query => 9
  | .report => 10
  | .restart => 11

/-- Whether a kind carries a scope (R21). -/
def isAddressed : Kind → Bool
  | .time | .demand | .cond | .report => false
  | .take | .protect | .preset | .commit | .map | .query | .restart => true

/-- Whether a length field is accepted for a kind (R21). -/
def lengthAccepted : Kind → Nat → Bool
  | .time, n => n == 3
  | .take, n => n == 14
  | .demand, n => n == 9
  | .cond, n => n == 2
  | .protect, n => n == 5
  | .preset, n => decide (12 ≤ n) && decide (n ≤ 58) && (n % 2 == 0)
  | .commit, n => n == 6
  | .map, n => n == 10
  | .query, n => n == 6
  | .report, n => decide (2 ≤ n) && decide (n ≤ 64)
  | .restart, n => n == 4

/-- The two header bytes: kind (4 bits), source station (5 bits), length (7 bits), in that order (R18). -/
def headerBytes (code : BitVec 4) (source : StationNo) (length : Nat) : List Byte :=
  toBytes 2 (code.toNat * 4096 + source.toNat * 128 + length % 128)

/-- The bytes the check value is computed over (R20). -/
def checkedBytes (code : BitVec 4) (m : Message) : List Byte :=
  headerBytes code m.source m.body.length ++ m.body

/-- The check value agrees with the bytes received (R20). -/
def checkAgrees (code : BitVec 4) (m : Message) : Bool :=
  checkValue (checkedBytes code m) == m.check

/-- The message of a source and body with the check value its sender computes (R20). -/
def sealMessage (code : BitVec 4) (source : StationNo) (body : List Byte) : Message where
  source := source
  body := body
  check := checkValue (headerBytes code source body.length ++ body)

/-- The scope of an addressed message: bit n is the entry of station n, since byte 0 bit 7 stands for
station 31 and byte 3 bit 0 for station 0 (R23, R194). -/
def messageScope (m : Message) : BitVec 32 := BitVec.ofNat 32 (fieldAt m.body 0 4)

/-- The payload of a message of a kind (R18). -/
def payload (k : Kind) (m : Message) : List Byte :=
  if isAddressed k then m.body.drop 4 else m.body

/-- Start pattern dominant, recessive, dominant; dominant is logic 0 (R16, R18). -/
def startPatternBits : List Bool := [false, true, false]

/-- The bits of a message before stuffing (R18). -/
def messageBits (code : BitVec 4) (m : Message) : List Bool :=
  startPatternBits ++ ((checkedBytes code m) ++ toBytes 2 m.check.toNat).flatMap byteBits

/-- The bits of a message on the line (R18, R19). -/
def lineBits (code : BitVec 4) (m : Message) : List Bool := stuff (messageBits code m)

/-- The number eight bits spell, most significant first. -/
def bitsToNat (bs : List Bool) : Nat := bs.foldl (fun acc b => 2 * acc + b.toNat) 0

/-- The bytes that bits spell, eight at a time; trailing bits short of a byte are left out. -/
def bitsToBytes : Nat → List Bool → List Byte
  | 0, _ => []
  | n + 1, bs =>
    if bs.length < 8 then [] else BitVec.ofNat 8 (bitsToNat (bs.take 8)) :: bitsToBytes n (bs.drop 8)

/-- What a receiver reads from the bits of one message on the line: stuff bits removed, start pattern
checked, the end found from the length field (R18, R19); none on a framing error, a wrong start pattern
or a message cut short. -/
def readLineBits (line : List Bool) : Option (BitVec 4 × Message) :=
  match unstuff line with
  | none => none
  | some bits =>
    if bits.take 3 ≠ startPatternBits then none
    else
      let bytes := bitsToBytes 72 (bits.drop 3)
      let header := fieldAt bytes 0 2
      let len := header % 128
      if 68 < len then none
      else if bytes.length < 2 + len + 2 then none
      else some (BitVec.ofNat 4 (header / 4096),
        { source := BitVec.ofNat 5 (header / 128)
          body := (bytes.drop 2).take len
          check := BitVec.ofNat 16 (fieldAt bytes (2 + len) 2) })

/-! ### Payload fields (R194) -/

/-- The fields of a TAKE payload (R194). -/
structure TakeFields where
  cueId   : BitVec 16
  target  : FrameNo
  action  : Byte
  airSafe : Bool
  arg     : Byte
  frames  : BitVec 16
deriving DecidableEq, Repr

/-- TAKE: cue id, target frame, action code, flags, preset or profile, fade frames (R194). -/
def takeFields (m : Message) : TakeFields :=
  let p := payload .take m
  { cueId := BitVec.ofNat 16 (fieldAt p 0 2)
    target := BitVec.ofNat 24 (fieldAt p 2 3)
    action := byteAt p 5
    airSafe := (byteAt p 6).getLsbD 0
    arg := byteAt p 7
    frames := BitVec.ofNat 16 (fieldAt p 8 2) }

/-- TIME: frame number (R194). -/
def timeFrame (m : Message) : FrameNo := BitVec.ofNat 24 (fieldAt (payload .time m) 0 3)

/-- COND: condition number and value code (R194). -/
def condNumber (m : Message) : Byte := byteAt (payload .cond m) 0
def condValueCode (m : Message) : Byte := byteAt (payload .cond m) 1

/-- PROTECT: code, 0 OFF, 1 ON (R194). -/
def protectCode (m : Message) : Byte := byteAt (payload .protect m) 0

/-- MAP: code, 0 ERASE, 1 PROGRAM; first channel; release mask (R194). -/
def mapCode (m : Message) : Byte := byteAt (payload .map m) 0
def mapFirstChannel (m : Message) : Byte := byteAt (payload .map m) 1
def mapReleaseMask (m : Message) : BitVec 32 := BitVec.ofNat 32 (fieldAt (payload .map m) 2 4)

/-- COMMIT: buffer code and preset number (R194). -/
def commitBuffer (m : Message) : Byte := byteAt (payload .commit m) 0
def commitPreset (m : Message) : Byte := byteAt (payload .commit m) 1

/-- QUERY: record id and index (R194). -/
def queryRecord (m : Message) : Byte := byteAt (payload .query m) 0
def queryIndex (m : Message) : Byte := byteAt (payload .query m) 1

/-- The fields of a PRESET payload (R194). -/
structure PresetFields where
  buffer       : Byte
  firstChannel : Byte
  continuation : Bool
  airSafe      : Bool
  mask         : BitVec 24
  levels       : List Level
deriving DecidableEq, Repr

/-- The 16-bit levels that bytes spell, `n` of them. -/
def levelsFrom : Nat → List Byte → List Level
  | 0, _ => []
  | n + 1, bs => BitVec.ofNat 16 (fieldAt bs 0 2) :: levelsFrom n (bs.drop 2)

/-- PRESET: buffer code, first channel, flags, mask with entry i for level i, levels; the number of
levels is (length − 10) / 2 (R21, R194). -/
def presetFields (m : Message) : PresetFields :=
  let p := payload .preset m
  { buffer := byteAt p 0
    firstChannel := byteAt p 1
    continuation := (byteAt p 2).getLsbD 0
    airSafe := (byteAt p 2).getLsbD 1
    mask := BitVec.ofNat 24 (fieldAt p 3 3)
    levels := levelsFrom ((m.body.length - 10) / 2) (p.drop 6) }

/-- The fields of a DEMAND payload; flags other than CLAMP are ignored (R162, R194). -/
structure DemandFields where
  group  : Byte
  target : FrameNo
  x      : BitVec 16
  s      : BitVec 16
  clamp  : Bool
deriving DecidableEq, Repr

/-- DEMAND: supply group, target frame, X, S, flags (R194). -/
def demandFields (m : Message) : DemandFields :=
  let p := payload .demand m
  { group := byteAt p 0
    target := BitVec.ofNat 24 (fieldAt p 1 3)
    x := BitVec.ofNat 16 (fieldAt p 4 2)
    s := BitVec.ofNat 16 (fieldAt p 6 2)
    clamp := (byteAt p 8).getLsbD 0 }

/-- The action code of CANCEL (R36). -/
def cancelCode : Byte := 8

end Sys2Proof.Machine
end

