-- ==== Sys2Proof/Machine/Blocks.lean ====
section
/-! DEFINITION. The records of the blocks, as plain data (block overview of 00_scope). -/

namespace Sys2Proof.Machine

/-! ### Addressed stores -/

/-- The bytes of the configuration store that differ from 0, in rising order of address (R181, log 11). -/
abbrev Memory := List Host.Cell

/-- The stored pixels of a wall bank that are not black, in rising order of key (R143). The key of the
pixel at segment column x and row y is 1024 y + x. -/
abbrev Bank := List (Nat × Pixel)

/-- Content of a preset: levels, mask and air-safe attribute (R98). -/
structure Content where
  levels  : Vector Level 128
  mask    : ChannelSet
  airSafe : Bool
deriving DecidableEq, Repr

/-- The fields of a page: erased with the blank page check, programmed with an agreeing page check, or any
other (half-erased, half-programmed, a disagreeing check). R98; DEDUCED, log 13. -/
inductive PageBody (α : Type) where
  | erased
  | programmed (content : α)
  | damaged
deriving DecidableEq, Repr

/-- A page of the array: its void mark and its other fields (R98). -/
structure Page (α : Type) where
  void : Bool
  body : PageBody α
deriving DecidableEq, Repr

/-- A page name: a preset page, or the map page (R99). -/
inductive PageName where
  | preset (n : Fin 64)
  | map
deriving DecidableEq, Repr

/-- The non-volatile array: preset pages, map page, journal (R98, R99). In a map, a set bit is RELEASED. -/
structure FlashArray where
  presets : Vector (Page Content) 64
  mapPage : Page ChannelSet
  journal : Option PageName
deriving DecidableEq, Repr

/-! ### Configuration image (R181, R197) -/

/-- How a channel's output is treated (R75). -/
inductive ChannelClass where
  | scaled | unscaled | pinned
deriving DecidableEq, Repr

/-- The configuration fields of a channel record (R74). -/
structure ChannelConfig where
  cls    : ChannelClass
  rated  : Byte
  pinned : Level
deriving DecidableEq, Repr

/-- A look record with its in-use mark (R59). -/
structure LookConfig where
  inUse   : Bool
  preset  : Option Byte
  frames  : BitVec 16
  profile : Option Byte
  airSafe : Bool
  dwell   : Nat
deriving DecidableEq, Repr

/-- An arc; no from-state is ANY (R60). -/
structure Arc where
  source    : Option LookNo
  target    : LookNo
  condition : ConditionNo
  required  : Bool
deriving DecidableEq, Repr

/-- A gain triple (R139). -/
structure Gains where
  r : BitVec 16
  g : BitVec 16
  b : BitVec 16
deriving DecidableEq, Repr

/-- The configuration image (R181, R197). -/
structure Image where
  -- supply budget (R159)
  group        : Byte
  limitC       : Nat
  kMin         : Nat
  riseStep     : Nat
  wallFullLoad : Nat
  peerHold     : Nat
  -- cue list, timebase, start-up (R37, R3, R181)
  lateWindow   : Nat
  period       : Nat
  seekFrames   : Nat
  joinFrames   : Nat
  protectAtStart : Bool
  startPreset  : Option Byte
  startFadeFrames : BitVec 16
  -- wall (R138, R139)
  rasterColumns : Nat
  rasterRows    : Nat
  columnStart   : Nat
  columnEnd     : Nat
  rowStart      : Nat
  rowEnd        : Nat
  profiles      : Vector (Vector Gains 144) 4
  -- channels (R74)
  channels      : Vector ChannelConfig 128
  -- conditions and looks (R55, R59, R60)
  pinMap        : Vector (Option ConditionNo) 4
  looks         : Vector LookConfig 8
  initialLook   : LookNo
  arcs          : List Arc
deriving DecidableEq, Repr

/-! ### Start-up controller (R179) -/

inductive StationState where
  | loading | scanning | seeking | joining | running | safe | setup
deriving DecidableEq, Repr

inductive RestartCause where
  | powerOn | resetPin | restartMessage
deriving DecidableEq, Repr

inductive SafeCause where
  | checkValue | inconsistent | strapChange
deriving DecidableEq, Repr

inductive SeekOutcome where
  | locked | flywheel
deriving DecidableEq, Repr

/-- The station record (R179), with the strap change candidates of R185 and the start-up controller's own
current frame (R12). -/
structure Station where
  state         : StationState
  number        : StationNo
  restartCause  : RestartCause
  restartSource : Option StationNo
  safeCause     : Option SafeCause
  failedCheck   : Option Nat
  seekOutcome   : Option SeekOutcome
  framesCounted : Nat
  entryFrame    : FrameNo
  restartWait   : Bool
  strapCandidates : Vector (Option Nanos) 5
  frame         : FrameNo
deriving DecidableEq, Repr

/-- Supply and RESET pin (R180). -/
structure Power where
  powered   : Bool
  resetHeld : Bool
deriving DecidableEq, Repr

/-! ### Frame timebase (R1) -/

inductive Genlock where
  | acquire | locked | flywheel
deriving DecidableEq, Repr

/-- The timebase record, its times in whole microseconds (R1). `lastEdge`, the last edge of the genlock reference
(R3), and `issued` are the model's own (log 9, log 5). -/
structure Timebase where
  lock         : Genlock
  frame        : FrameNo
  pendingTime  : Option FrameNo
  reference    : Option Micros
  run          : Nat
  lastStart    : Option Micros
  timerRunning : Bool
  lastEdge     : Option Nanos
  issued       : Nat
deriving DecidableEq, Repr

/-- A frame start event: frame number and adoption mark (R11), with its serial number since restart, the
model's own (log 5). -/
structure FrameEvent where
  frame   : FrameNo
  adopted : Bool
  serial  : Nat
deriving DecidableEq, Repr

/-- A notice labelled with a frame start (R174, R184): the label and that frame start's serial. -/
structure Notice where
  label  : FrameNo
  serial : Nat
deriving DecidableEq, Repr

/-! ### Cue line interface (R16, R17, R25) -/

inductive LineState where
  | untracked | busy | gap | idle
deriving DecidableEq, Repr

/-- An announcement: target frame, X, S, CLAMP (R161). -/
structure Announcement where
  target : FrameNo
  x      : BitVec 16
  s      : BitVec 16
  clamp  : Bool
deriving DecidableEq, Repr

/-- A message of the transmit queue (R25). -/
inductive TxMessage where
  | demand (group : Byte) (a : Announcement)
  | cond (c : ConditionNo) (value : Bool)
  | report (record index : Byte) (contents : List Byte)
deriving DecidableEq, Repr

/-- A transmit queue entry (R25). -/
structure TxEntry where
  msg      : TxMessage
  losses   : Nat
  replaced : Bool
deriving DecidableEq, Repr

/-- An attempt on the line: the copy of the head entry (R25, R29), the station number it is sent under, which a
restart does not change (R33, log 22), and whether that entry is still in the queue (R33, log 21). -/
structure Attempt where
  copy   : TxMessage
  source : StationNo
  held   : Bool
deriving DecidableEq, Repr

/-- A backoff wait: slots drawn and slots counted (R31). -/
structure Backoff where
  slots   : Nat
  counted : Nat
deriving DecidableEq, Repr

/-- The cue line interface (R17). `closing` is the model's own (R33, log 22). -/
structure CueLine where
  lineState : LineState
  queue     : List TxEntry
  attempt   : Option Attempt
  backoff   : Option Backoff
  register  : BitVec 8
  closing   : Bool
deriving DecidableEq, Repr

/-! ### Cue list (R34) -/

/-- The actions of R36 other than CANCEL, with the arguments each uses. -/
inductive CueAction where
  | fade (preset : Byte) (frames : BitVec 16)
  | wallFreeze
  | wallRun
  | wallMute
  | wallUnmute
  | wallProfile (profile : Byte)
  | lookHome
deriving DecidableEq, Repr

/-- A cue's identity: source station and cue id (R34). -/
structure CueId where
  source : StationNo
  id     : BitVec 16
deriving DecidableEq, Repr

/-- A cue record (R34). -/
structure CueRecord where
  ident   : CueId
  target  : FrameNo
  action  : CueAction
  airSafe : Bool
  late    : Bool
deriving DecidableEq, Repr

inductive TakeMode where
  | hold | take
deriving DecidableEq, Repr

/-- The cue list (R34). -/
structure CueList where
  records : List CueRecord
  mode    : TakeMode
  frame   : FrameNo
  taken   : Nat
deriving DecidableEq, Repr

/-! ### Condition set and look machine (R52, R55, R62) -/

structure ConditionEntry where
  value  : Bool
  stamp  : BitVec 32
  source : Option StationNo
deriving DecidableEq, Repr

/-- A candidate level with the time it was first seen (R55, R124). -/
structure Candidate where
  level : Bool
  since : Nanos
deriving DecidableEq, Repr

structure Debouncer where
  level     : Bool
  candidate : Option Candidate
deriving DecidableEq, Repr

/-- The condition set and the debouncers. `sampled`: the run notice of R58 has been taken. -/
structure Conditions where
  entries    : Vector ConditionEntry 24
  stamps     : BitVec 32
  debouncers : Vector Debouncer 4
  sampled    : Bool
deriving DecidableEq, Repr

/-- A notice of condition change on its way to the look machine (R53): the condition, with the value and the
change stamp the look machine holds for it until the notice is taken (R67, log 37). -/
structure ConditionNotice where
  condition : ConditionNo
  value     : Bool
  stamp     : BitVec 32
deriving DecidableEq, Repr

inductive EntryCause where
  | start
  | arc (index : Nat)
  | home
deriving DecidableEq, Repr

/-- The look machine (R62). `runNotice` is the serial of F_r once the run notice is taken (R69). -/
structure LookMachine where
  started    : Bool
  current    : Option LookNo
  entered    : Bool
  dwell      : Nat
  frame      : FrameNo
  entryFrame : FrameNo
  entryCause : EntryCause
  runNotice  : Option Nat
  taken      : Nat
deriving DecidableEq, Repr

/-! ### Channel table and fade engine (R74, R76) -/

inductive FadeSource where
  | cue (c : CueId)
  | look (l : LookNo)
  | start
deriving DecidableEq, Repr

/-- An ACTIVE fade record (R74). -/
structure Fade where
  start   : Level
  target  : Level
  total   : BitVec 16
  frame   : FrameNo
  steps   : Nat
  airSafe : Bool
  source  : FadeSource
deriving DecidableEq, Repr

/-- The changing fields of a channel record (R74); class, rated load and pinned level are in the image. -/
structure ChannelRecord where
  level   : Level
  fade    : Option Fade
  lastOut : Option Level
deriving DecidableEq, Repr

/-- A fade start request as a sender hands it over (R46, R68). -/
structure FadeRequest where
  preset  : Byte
  frame   : FrameNo
  total   : BitVec 16
  airSafe : Bool
  source  : FadeSource
deriving DecidableEq, Repr

inductive Phase where
  | reading | ready | deferred
deriving DecidableEq, Repr

/-- A request record (R76) with the tag that names it to the preset store (R77). -/
structure RequestRecord where
  req     : FadeRequest
  phase   : Phase
  content : Option Content
  tag     : Nat
deriving DecidableEq, Repr

/-- A scale handed over for a frame (R171): label, k, and the serial of that frame start. -/
structure ScaleMessage where
  label  : FrameNo
  k      : Nat
  serial : Nat
deriving DecidableEq, Repr

/-- The level packets of a frame, for both links (R87, R196). -/
structure FixtureSend where
  frame   : FrameNo
  refresh : Bool
  levels  : Vector Level 128
deriving DecidableEq, Repr

/-- Where the packets of the current frame stand (R87): none due, owed until k is held, or formed. -/
inductive PacketState where
  | notDue | owed | formed
deriving DecidableEq, Repr

structure FadeEngine where
  channels : Vector ChannelRecord 128
  frame    : FrameNo
  taken    : Nat
  requests : List RequestRecord
  nextTag  : Nat
  enabled  : Bool
  k        : Option Nat
  scales   : List ScaleMessage
  packets  : PacketState
  sending  : List FixtureSend
  waiting  : List FrameEvent
deriving DecidableEq, Repr

/-! ### Preset store (R100 to R106) -/

inductive EntryState where
  | empty | valid | bad | committing
deriving DecidableEq, Repr

structure DirEntry where
  state   : EntryState
  airSafe : Bool
deriving DecidableEq, Repr

inductive BufferName where
  | a | b
deriving DecidableEq, Repr

inductive WritePoint where
  | first | next
deriving DecidableEq, Repr

inductive BufferState where
  | opened | queued | committing
deriving DecidableEq, Repr

/-- A staging buffer (R101). -/
structure StagingBuffer where
  content    : Content
  writePoint : WritePoint
  state      : BufferState
  target     : Option (Fin 64)
deriving DecidableEq, Repr

/-- An array operation (R105). -/
inductive ArrayOp where
  | commit (buffer : BufferName) (preset : Fin 64)
  | mapErase
  | mapProgram (first : Channel) (mask : BitVec 32)
deriving DecidableEq, Repr

inductive CommitPhase where
  | erase | program | verify
deriving DecidableEq, Repr

/-- A commit in progress or suspended (R107, R114). `asked`: suspension is asked for and not yet reached. -/
structure CommitRun where
  buffer    : BufferName
  preset    : Fin 64
  phase     : CommitPhase
  suspended : Bool
  asked     : Bool
  suspends  : Nat
deriving DecidableEq, Repr

/-- The operation in progress (R106). -/
inductive Running where
  | commit (c : CommitRun)
  | mapErase
  | mapProgram (first : Channel) (mask : BitVec 32)
deriving DecidableEq, Repr

/-- A read request: preset and the fade engine's request record (R112). -/
structure ReadRequest where
  preset : Fin 64
  tag    : Nat
deriving DecidableEq, Repr

/-- What a read is answered with (6.5). -/
inductive AnswerKind where
  | content (c : Content)
  | empty
  | bad
  | refused
deriving DecidableEq, Repr

structure Answer where
  tag  : Nat
  kind : AnswerKind
deriving DecidableEq, Repr

/-- The preset store less its non-volatile array. -/
structure PresetStore where
  directory   : Vector DirEntry 64
  mapEntry    : EntryState
  bufferA     : StagingBuffer
  bufferB     : StagingBuffer
  ops         : List ArrayOp
  reads       : List ReadRequest
  serving     : Option ReadRequest
  running     : Option Running
  restartWait : Bool
  scanning    : Bool
deriving DecidableEq, Repr

/-! ### Protection unit (R123) -/

/-- The protection unit. In the map copy a set bit is RELEASED. -/
structure Protection where
  started     : Bool
  pin         : Bool
  candidate   : Option Candidate
  latch       : Bool
  map         : ChannelSet
  outstanding : Nat
deriving DecidableEq, Repr

/-! ### Wall feed (R143) -/

inductive LoadState where
  | empty | filling | complete
deriving DecidableEq, Repr

/-- A mute request: MUTE or UNMUTE with the frame label of its action (R151). -/
structure MuteRequest where
  mute  : Bool
  label : FrameNo
deriving DecidableEq, Repr

/-- The raster position: row of the line in progress (none before the first line marker) and the pixels
it has held (R140). -/
structure RasterPosition where
  row    : Option Nat
  column : Nat
deriving DecidableEq, Repr

structure WallFeed where
  bank0       : Bank
  bank1       : Bank
  live        : Bool          -- false: bank 0 is LIVE; true: bank 1 is LIVE
  load        : LoadState
  pointerCol  : Nat
  pointerRow  : Nat
  loadProfile : Fin 4
  luma        : Nat
  satR        : Bool
  satG        : Bool
  satB        : Bool
  liveLuma    : Nat
  profile     : Fin 4
  frozen      : Bool
  muted       : Bool
  muteRequest : Option MuteRequest
  enabled     : Bool
  scan        : Option FrameNo
  frame       : FrameNo
  taken       : Nat
  raster      : Option RasterPosition
  errSeen     : Bool
  scanOwed    : Bool
  k           : Option Nat
  scales      : List ScaleMessage
  waiting     : List FrameEvent
  noticeWaits : Bool
deriving DecidableEq, Repr

/-- An action sent to the wall feed by the cue list (R47). -/
structure WallAction where
  action : CueAction
  label  : FrameNo
  ident  : CueId
deriving DecidableEq, Repr

/-- A LOOK HOME action (R47, R70). -/
structure HomeAction where
  label : FrameNo
  ident : CueId
deriving DecidableEq, Repr

/-! ### Supply budget unit (R159 to R170) -/

/-- Budget flags (R170). -/
structure BudgetFlags where
  full      : Bool
  overLimit : Bool
  floored   : Bool
  clamped   : Bool
deriving DecidableEq, Repr

/-- The scale in force (R159). -/
structure Scale where
  label   : FrameNo
  k       : Nat
  kTarget : Nat
  flags   : BudgetFlags
deriving DecidableEq, Repr

/-- A present peer table entry: one or two announcements in target order (R161). -/
structure PeerEntry where
  group       : Byte
  first       : Announcement
  second      : Option Announcement
  lastArrival : FrameNo
deriving DecidableEq, Repr

/-- A budget record (R170). -/
structure BudgetRecord where
  target  : FrameNo
  x       : Nat
  s       : Nat
  counted : Nat
  stale   : Nat
  ahead   : Nat
  kTarget : Nat
  k       : Nat
  flags   : BudgetFlags
deriving DecidableEq, Repr

structure Budget where
  joined : Bool
  frame  : FrameNo
  taken  : Nat
  scale  : Scale
  peers  : Vector (Option PeerEntry) 32
  last   : Option BudgetRecord
  overIndication : Bool
deriving DecidableEq, Repr

/-! ### Setup port (R187, R188) -/

inductive Transaction where
  | none
  | addressHigh
  | addressLow (high : Byte)
  | data
  | read
deriving DecidableEq, Repr

structure RowBuffer where
  row   : BitVec 7
  bytes : Vector Byte 64
deriving DecidableEq, Repr

/-- The setup port: the fields of R187, the transaction in progress, and what the port last put on SDA. -/
structure SetupPort where
  pointer     : BitVec 13
  rowBuffer   : Option RowBuffer
  writeCount  : Nat
  busy        : Bool
  transaction : Transaction
  ack         : Option Bool
  dataOut     : Option Byte
deriving DecidableEq, Repr

/-! ### Status reporter (R190, R191) -/

structure StatusFlags where
  demandLost : Bool
  commitFail : Bool
deriving DecidableEq, Repr

/-! ### Between the blocks -/

/-- What one block has handed to another and the other has not yet taken (R11, log 4). -/
structure Transit where
  cueFrames    : List FrameEvent
  lookFrames   : List FrameEvent
  fadeFrames   : List FrameEvent
  wallFrames   : List FrameEvent
  budgetFrames : List FrameEvent
  ctrlFrames   : List FrameEvent
  seekEnd      : Bool
  joinNotice   : Option Notice
  runCue       : Option Notice
  runLook      : Option Notice
  runFade      : Option Notice
  runWall      : Option Notice
  homes        : List HomeAction
  cueFades     : List FadeRequest
  lookFades    : List FadeRequest
  wallActions  : List WallAction
  lookProfiles : List Byte
  condNotices  : List ConditionNotice
  reads        : List ReadRequest
  answers      : List Answer
  protNotices  : Nat
  mapDone      : List ChannelSet
  scanMap      : Option ChannelSet
  scanEnd      : Bool
  restartReq   : Bool
  arrayQuiet   : Bool
  fadeScales   : List ScaleMessage
  wallScales   : List ScaleMessage
deriving DecidableEq, Repr

end Sys2Proof.Machine
end

