-- ==== Sys2Proof/Machine/Restart.lean ====
section
/-! DEFINITION. The values each block takes after a restart, as its chapter states them. -/

namespace Sys2Proof.Machine

/-- A table with one value everywhere. -/
def fill {α : Type} (n : Nat) (a : α) : Vector α n := Vector.replicate n a

/-- Every gain at its default 32768, which is 1.0 (R139). -/
def unityGains : Gains := { r := 32768, g := 32768, b := 32768 }

/-- A look not in use. The spec gives looks no default (DESIGN CHOICE, log 12). -/
def unusedLook : LookConfig where
  inUse := false
  preset := none
  frames := 0
  profile := none
  airSafe := false
  dwell := 0

/-- Every figure at its default (R181): the image before a good one is read and after one fails. -/
def defaultImage : Image where
  group := 0
  limitC := 65535
  kMin := 4096
  riseStep := 1024
  wallFullLoad := 0
  peerHold := 25
  lateWindow := 2
  period := 20000
  seekFrames := 50
  joinFrames := 3
  protectAtStart := true
  startPreset := none
  startFadeFrames := 0
  rasterColumns := 1920
  rasterRows := 1080
  columnStart := 0
  columnEnd := 1023
  rowStart := 0
  rowEnd := 575
  profiles := fill 4 (fill 144 unityGains)
  channels := fill 128 { cls := .scaled, rated := 0, pinned := 0 }
  pinMap := fill 4 none
  looks := fill 8 unusedLook
  initialLook := 0
  arcs := []

/-- The station record after a restart (R179). -/
def stationAtRestart (number : StationNo) (cause : RestartCause) (source : Option StationNo) : Station where
  state := .loading
  number := number
  restartCause := cause
  restartSource := source
  safeCause := none
  failedCheck := none
  seekOutcome := none
  framesCounted := 0
  entryFrame := 0
  restartWait := false
  strapCandidates := fill 5 none
  frame := 0

/-- The timebase record after a restart (R1). -/
def timebaseAtRestart : Timebase where
  lock := .acquire
  frame := 0
  pendingTime := none
  reference := none
  run := 0
  lastStart := none
  timerRunning := false
  lastEdge := none
  issued := 0

/-- The backoff generator's seed: station number × 7 + 1 (R17). -/
def backoffSeed (number : StationNo) : BitVec 8 := BitVec.ofNat 8 (number.toNat * 7 + 1)

/-- The cue line interface after a restart (R17). -/
def lineAtRestart (number : StationNo) : CueLine where
  lineState := .untracked
  queue := []
  attempt := none
  backoff := none
  register := backoffSeed number
  closing := false

/-- The cue list after a restart (R34). -/
def cuesAtRestart : CueList where
  records := []
  mode := .hold
  frame := 0
  taken := 0

def debouncerAtRestart : Debouncer := { level := false, candidate := none }

/-- The condition set and debouncers after a restart (R52, R55). -/
def conditionsAtRestart : Conditions where
  entries := fill 24 { value := false, stamp := 0, source := none }
  stamps := 0
  debouncers := fill 4 debouncerAtRestart
  sampled := false

/-- The look machine after a restart (R62). -/
def lookAtRestart : LookMachine where
  started := false
  current := none
  entered := false
  dwell := 0
  frame := 0
  entryFrame := 0
  entryCause := .start
  runNotice := none
  taken := 0

def channelAtRestart : ChannelRecord := { level := 0, fade := none, lastOut := none }

/-- The channel table and fade engine after a restart (R74, R76, R87). -/
def fadeAtRestart : FadeEngine where
  channels := fill 128 channelAtRestart
  frame := 0
  taken := 0
  requests := []
  nextTag := 0
  enabled := false
  k := none
  scales := []
  packets := .notDue
  sending := []
  waiting := []

def contentAtRestart : Content := { levels := fill 128 0, mask := 0, airSafe := false }

/-- A staging buffer after a restart (R101). -/
def bufferAtRestart : StagingBuffer where
  content := contentAtRestart
  writePoint := .first
  state := .opened
  target := none

/-- The preset store after a restart (R100, R101, R105, R112). -/
def storeAtRestart : PresetStore where
  directory := fill 64 { state := .bad, airSafe := false }
  mapEntry := .bad
  bufferA := bufferAtRestart
  bufferB := bufferAtRestart
  ops := []
  reads := []
  serving := none
  running := none
  restartWait := false
  scanning := false

/-- The protection unit after a restart (R123). -/
def protectionAtRestart : Protection where
  started := false
  pin := false
  candidate := none
  latch := true
  map := 0
  outstanding := 0

/-- The wall feed after a restart, with the selected profile (R143). -/
def wallAtRestart (profile : Fin 4) : WallFeed where
  bank0 := []
  bank1 := []
  live := false
  load := .empty
  pointerCol := 0
  pointerRow := 0
  loadProfile := profile
  luma := 0
  satR := false
  satG := false
  satB := false
  liveLuma := 0
  profile := profile
  frozen := false
  muted := false
  muteRequest := none
  enabled := false
  scan := none
  frame := 0
  taken := 0
  raster := none
  errSeen := false
  scanOwed := false
  k := none
  scales := []
  waiting := []
  noticeWaits := false

def noFlags : BudgetFlags := 
  { full := false, overLimit := false, floored := false, clamped := false }

/-- The scale in force after a restart (R159). -/
def scaleAtRestart (kMin : Nat) : Scale := { label := 0, k := kMin, kTarget := kMin, flags := noFlags }

/-- The budget unit after a restart (R159). -/
def budgetAtRestart (kMin : Nat) : Budget where
  joined := false
  frame := 0
  taken := 0
  scale := scaleAtRestart kMin
  peers := fill 32 none
  last := none
  overIndication := false

/-- The setup port at SETUP entry (R187); held before it too (log 34). -/
def setupAtEntry : SetupPort where
  pointer := 0
  rowBuffer := none
  writeCount := 0
  busy := false
  transaction := .none
  ack := none
  dataOut := none

def flagsAtRestart : StatusFlags := { demandLost := false, commitFail := false }

/-- Every counter at 0 (R191). -/
def countersAtRestart : Vector (BitVec 16) 38 := fill 38 0

/-- Nothing on its way between blocks: what was sent before a restart and not yet taken is lost with it
(DESIGN CHOICE, log 39). -/
def transitAtRestart : Transit where
  cueFrames := []
  lookFrames := []
  fadeFrames := []
  wallFrames := []
  budgetFrames := []
  ctrlFrames := []
  seekEnd := false
  joinNotice := none
  runCue := none
  runLook := none
  runFade := none
  runWall := none
  homes := []
  cueFades := []
  lookFades := []
  wallActions := []
  lookProfiles := []
  condNotices := []
  reads := []
  answers := []
  protNotices := 0
  mapDone := []
  scanMap := none
  scanEnd := false
  restartReq := false
  arrayQuiet := false
  fadeScales := []
  wallScales := []

/-- A page that nothing has written: erased, void mark clear (DESIGN CHOICE, log 11). -/
def erasedPage {α : Type} : Page α := { void := false, body := .erased }

/-- The array as State.reset has it: every page erased, the journal naming none (DESIGN CHOICE, log 11). -/
def arrayErased : FlashArray where
  presets := fill 64 erasedPage
  mapPage := erasedPage
  journal := none

end Sys2Proof.Machine
end

