-- ==== Sys2Proof/Machine/State.lean ====
section
/-! DEFINITION. The state of the NK7240, the reasons a step can stop, and the state after reset. -/

namespace Sys2Proof.Machine

/-- The state: the queue of waiting commands, the pins and the supply, the non-volatile stores, one record
per block, and what is on its way between blocks. -/
structure State where
  pending     : List Instr
  power       : Power
  pins        : Pins
  configStore : Memory
  flash       : FlashArray
  station     : Station
  image       : Image
  timebase    : Timebase
  line        : CueLine
  cues        : CueList
  conditions  : Conditions
  look        : LookMachine
  fade        : FadeEngine
  store       : PresetStore
  protection  : Protection
  wall        : WallFeed
  budget      : Budget
  setup       : SetupPort
  flags       : StatusFlags
  counters    : Vector (BitVec 16) 38
  transit     : Transit
  freeIndex   : Nat
deriving DecidableEq, Repr

/-- Why the part faults. No rule gives the part a fault that stops it: every error is a count, a flag, a pin
or a station state. The type has no value. -/
inductive Fault where
deriving DecidableEq, Repr

/-- Why a command is refused. -/
inductive Refusal where
  /-- Raised by an arm of `exec` whose command has no meaning yet. Safe: the machine stops. No arm raises it. -/
  | notModelled (mnemonic : String)
deriving DecidableEq, Repr

/-- Every input pin low (DESIGN CHOICE, log 10). -/
def lowPins : Pins := { cin := 0, onAir := false, stn := 0, setup := false }

/-- The state right after power-on with every input pin low: LOADING, restart cause POWER_ON, every block at
its restart values (R180), the non-volatile stores as log 11 says. -/
def State.reset : State where
  pending := []
  power := { powered := true, resetHeld := false }
  pins := lowPins
  configStore := []
  flash := arrayErased
  station := stationAtRestart 0 .powerOn none
  image := defaultImage
  timebase := timebaseAtRestart
  line := lineAtRestart 0
  cues := cuesAtRestart
  conditions := conditionsAtRestart
  look := lookAtRestart
  fade := fadeAtRestart
  store := storeAtRestart
  protection := protectionAtRestart
  wall := wallAtRestart 0
  budget := budgetAtRestart defaultImage.kMin
  setup := setupAtEntry
  flags := flagsAtRestart
  counters := countersAtRestart
  transit := transitAtRestart
  freeIndex := 0

end Sys2Proof.Machine
end

