-- ==== Sys2Proof/Machine/Ops.lean ====
section
/-! DEFINITION. The operations every block's meanings share: sparse stores, counters, tables, and what the
station's state lets happen. -/

namespace Sys2Proof.Machine

/-- The outcome of a command. -/
abbrev Out := Host.Outcome State Fault Refusal

/-! ### Tables -/

/-- A table with one entry replaced. -/
def setAt {α : Type} {n : Nat} (v : Vector α n) (i : Fin n) (a : α) : Vector α n := v.set i.val a i.isLt

/-- The list without its first element that satisfies `p`. -/
def removeFirst {α : Type} (p : α → Bool) : List α → List α
  | [] => []
  | a :: as => if p a then as else a :: removeFirst p as

/-! ### Sparse stores in canonical form -/

/-- What a sparse store reads at a key; an unlisted key reads as `d`. -/
def sparseRead {α : Type} (d : α) : List (Nat × α) → Nat → α
  | [], _ => d
  | (k, a) :: rest, key => if key = k then a else sparseRead d rest key

/-- A sparse store with one key written: writing what an unlisted key reads as removes the entry. -/
def sparseWrite {α : Type} [DecidableEq α] (d : α) : List (Nat × α) → Nat → α → List (Nat × α)
  | [], key, a => if a = d then [] else [(key, a)]
  | (k, b) :: rest, key, a =>
    if key < k then (if a = d then (k, b) :: rest else (key, a) :: (k, b) :: rest)
    else if key = k then (if a = d then rest else (key, a) :: rest)
    else (k, b) :: sparseWrite d rest key a

/-- The canonical form: keys strictly rising from `low`, no entry equal to `d`. -/
def sparseWfFrom {α : Type} [DecidableEq α] (d : α) : Nat → List (Nat × α) → Bool
  | _, [] => true
  | low, (k, a) :: rest => decide (low ≤ k) && decide (a ≠ d) && sparseWfFrom d (k + 1) rest

/-- The byte of the configuration store at an address (R181); an unlisted byte reads as 0 (DESIGN CHOICE,
log 11). -/
def memRead (m : Memory) (a : Nat) : Byte := sparseRead 0 m a

/-- The configuration store with one byte written. -/
def memWrite (m : Memory) (a : Nat) (b : Byte) : Memory := sparseWrite 0 m a b

/-- The canonical form of the configuration store. -/
def memWf (m : Memory) : Bool := sparseWfFrom 0 0 m

/-- `n` bytes of the store from an address. -/
def memBytes (m : Memory) (a n : Nat) : List Byte := (List.range n).map fun i => memRead m (a + i)

/-- A big-endian field of the store (R194). -/
def memField (m : Memory) (a n : Nat) : Nat := ofBytes (memBytes m a n)

/-- The store with a row of 64 bytes written from `base`, byte by byte from number `i`. -/
def memWriteBytes (m : Memory) (base : Nat) : List Byte → Memory
  | [] => m
  | b :: bs => memWriteBytes (memWrite m base b) (base + 1) bs

/-- A black pixel, which every bank position reads as until it is written (R143). -/
def black : Pixel := { r := 0, g := 0, b := 0 }

/-- The key of a segment position in a bank. -/
def bankKey (col row : Nat) : Nat := row * 1024 + col

/-- The stored pixel of a bank at a segment position (R143). -/
def bankRead (b : Bank) (col row : Nat) : Pixel := sparseRead black b (bankKey col row)

/-- A bank with one segment position written (R145). -/
def bankWrite (b : Bank) (col row : Nat) (p : Pixel) : Bank := sparseWrite black b (bankKey col row) p

/-- The canonical form of a bank. -/
def bankWf (b : Bank) : Bool := sparseWfFrom black 0 b

/-! ### Counters (R191) -/

/-- The counters of R191. -/
inductive Counter where
  | crcErr | kindErr | sourceClash | notReady | contentionLoss | txDiscard | queryDrop | condTxDrop
  | genlockLoss | pulseReject | timeJump
  | cueLate | cueStale | cueOverflow | cueReplaced | cancelMiss | argErr | lookEntry
  | fadeOverrun | presetBadRef | fadeDeferred | protectDrop
  | bufferBusy | opqFull | readOverrun | suspend | commitFail
  | protectOffRefused | mapRefused | mapLateAir
  | gainSat | inputShort | inputDrop | inputErr | repeated
  | demandLate | peerLost
deriving DecidableEq, Repr

/-- The counter's number, which fixes its place in the COUNTERS record; 18 is not used (R191). -/
def counterNumber : Counter → Fin 38
  | .crcErr => 0
  | .kindErr => 1
  | .sourceClash => 2
  | .notReady => 3
  | .contentionLoss => 4
  | .txDiscard => 5
  | .queryDrop => 6
  | .condTxDrop => 7
  | .genlockLoss => 8
  | .pulseReject => 9
  | .timeJump => 10
  | .cueLate => 11
  | .cueStale => 12
  | .cueOverflow => 13
  | .cueReplaced => 14
  | .cancelMiss => 15
  | .argErr => 16
  | .lookEntry => 17
  | .fadeOverrun => 19
  | .presetBadRef => 20
  | .fadeDeferred => 21
  | .protectDrop => 22
  | .bufferBusy => 23
  | .opqFull => 24
  | .readOverrun => 25
  | .suspend => 26
  | .commitFail => 27
  | .protectOffRefused => 28
  | .mapRefused => 29
  | .mapLateAir => 30
  | .gainSat => 31
  | .inputShort => 32
  | .inputDrop => 33
  | .inputErr => 34
  | .repeated => 35
  | .demandLate => 36
  | .peerLost => 37

/-- A count that saturates at 65535 (R191). -/
def saturatingAdd (c : BitVec 16) (n : Nat) : BitVec 16 := BitVec.ofNat 16 (min 65535 (c.toNat + n))

/-- The value of a counter. -/
def counterOf (s : State) (c : Counter) : BitVec 16 := s.counters[counterNumber c]

/-- A counter increased by `n`, saturating (R191). -/
def countN (c : Counter) (n : Nat) (s : State) : State :=
  { s with counters := setAt s.counters (counterNumber c) (saturatingAdd s.counters[counterNumber c] n) }

/-- "Counted": the named counter is increased by one (00_scope, Conventions). -/
def count (c : Counter) (s : State) : State := countN c 1 s

/-- Counted when a condition holds. -/
def countIf (b : Bool) (c : Counter) (s : State) : State := if b then count c s else s

/-! ### What the station's state lets happen -/

/-- The supply is up and the RESET pin is not held asserted (R180). -/
def isLive (s : State) : Bool := s.power.powered && !s.power.resetHeld

/-- SCANNING, SEEKING, JOINING or RUNNING. -/
def isOperating : StationState → Bool
  | .scanning | .seeking | .joining | .running => true
  | .loading | .safe | .setup => false

/-- The cue line interface is active (R17). -/
def lineActive (s : State) : Bool := isOperating s.station.state || (s.station.state == .safe)

end Sys2Proof.Machine
end

