-- ==== Sys2Proof/Machine/Flags.lean ====
section
/-! DEFINITION. The indications and pins that are functions of the state (R10, R125, R133, R193). -/

namespace Sys2Proof.Machine

/-- The FLYWHEEL indication: the genlock state is FLYWHEEL and the timebase has not been stopped (R10). -/
def flywheelIndication (s : State) : Bool := s.timebase.timerRunning && (s.timebase.lock == .flywheel)

/-- The FAULT pin: asserted while the station state is SAFE (R193). -/
def faultPin (s : State) : Bool := s.station.state == .safe

/-- The ALERT pin: asserted while one of its three causes is present (R193). -/
def alertPin (s : State) : Bool :=
  flywheelIndication s || s.budget.overIndication || s.flags.commitFail

/-- Protection is in force when the pin level is ASSERTED or the latch is set (R125). -/
def inForce (p : Protection) : Bool := p.pin || p.latch

/-- A channel's map copy entry is PROTECTED (R123, R133). -/
def isProtected (p : Protection) (c : Channel) : Bool := !p.map.getLsbD c.val

/-- A channel is protected while protection is in force (R133). -/
def protectedInForce (p : Protection) (c : Channel) : Bool := inForce p && isProtected p c

end Sys2Proof.Machine
end

