-- ==== Sys2Proof/Machine/CueLine.lean ====
section
/-! DEFINITION. Chapter 2: the cue line interface. Line states, the receive filter, the transmit queue,
contention and backoff. -/

namespace Sys2Proof.Machine

/-! ### The transmit queue (R25 to R28) -/

/-- The head entry's copy is on the line (R25). -/
def headOnLine (l : CueLine) : Bool :=
  match l.attempt with
  | some a => a.held
  | none => false

def isDemandMsg : TxMessage → Bool
  | .demand _ _ => true
  | .cond _ _ | .report _ _ _ => false

def isCondMsg : TxMessage → Bool
  | .cond _ _ => true
  | .demand _ _ | .report _ _ _ => false

def isReportMsg : TxMessage → Bool
  | .report _ _ _ => true
  | .demand _ _ | .cond _ _ => false

/-- A COND for condition `c`: the condition number is the entry's key (R25). -/
def isCondFor (c : ConditionNo) : TxMessage → Bool
  | .cond c' _ => c' == c
  | .demand _ _ | .report _ _ _ => false

/-- A new entry (R26 to R28). -/
def newEntry (m : TxMessage) : TxEntry := { msg := m, losses := 0, replaced := false }

/-- The first entry that satisfies `p` replaced in its place: loss count 0, and the replaced mark set when the
entry is on the line (R26, R27). `onLine` says so of the first entry of the list. -/
def replaceEntry (p : TxMessage → Bool) (m : TxMessage) (onLine : Bool) : List TxEntry → List TxEntry
  | [] => []
  | e :: es =>
    if p e.msg then { msg := m, losses := 0, replaced := onLine || e.replaced } :: es
    else e :: replaceEntry p m false es

/-- The queue without its oldest entry that satisfies `p` and is not on the line (R26, R27). -/
def removeOldest (p : TxMessage → Bool) (onLine : Bool) : List TxEntry → Option (List TxEntry)
  | [] => none
  | e :: es => if p e.msg && !onLine then some es else (removeOldest p false es).map (e :: ·)

/-- Whether that oldest entry is the head. -/
def removesHead (p : TxMessage → Bool) (onLine : Bool) : List TxEntry → Bool
  | [] => false
  | e :: _ => p e.msg && !onLine

/-- Removal from a full queue of the oldest entry that satisfies `p`, with the new message at the tail. The
removal of a head in a backoff wait abandons the wait (R26, R31; for R27 DEDUCED, log 21). -/
def makeRoom (p : TxMessage → Bool) (m : TxMessage) (l : CueLine) : Option CueLine :=
  (removeOldest p (headOnLine l) l.queue).map fun q =>
    { l with
      queue := q ++ [newEntry m]
      backoff := if removesHead p (headOnLine l) l.queue then none else l.backoff }

/-- A message joined at the tail. -/
def joinTail (m : TxMessage) (l : CueLine) : CueLine := { l with queue := l.queue ++ [newEntry m] }

def setLine (l : CueLine) (s : State) : State := { s with line := l }

/-- A DEMAND placed in the transmit queue; it is never refused (R26). -/
def placeDemand (group : Byte) (a : Announcement) (s : State) : State :=
  let l := s.line
  let m := TxMessage.demand group a
  if l.queue.any (fun e => isDemandMsg e.msg) then
    setLine { l with queue := replaceEntry isDemandMsg m (headOnLine l) l.queue } s
  else if l.queue.length < 4 then setLine (joinTail m l) s
  else
    match makeRoom isReportMsg m l with
    | some l' => count .queryDrop (setLine l' s)
    | none =>
      match makeRoom isCondMsg m l with
      | some l' => count .condTxDrop (setLine l' s)
      | none => setLine (joinTail m l) s

/-- A COND placed in the transmit queue (R27). -/
def placeCond (c : ConditionNo) (v : Bool) (s : State) : State :=
  let l := s.line
  let m := TxMessage.cond c v
  if l.queue.any (fun e => isCondFor c e.msg) then
    setLine { l with queue := replaceEntry (isCondFor c) m (headOnLine l) l.queue } s
  else if l.queue.length < 4 then setLine (joinTail m l) s
  else
    match makeRoom isReportMsg m l with
    | some l' => count .queryDrop (setLine l' s)
    | none => count .condTxDrop s

/-- A REPORT placed in the transmit queue (R28). -/
def placeReport (record index : Byte) (contents : List Byte) (s : State) : State :=
  if s.line.queue.length < 4 then setLine (joinTail (.report record index contents) s.line) s
  else count .queryDrop s

/-! ### The receive filter (R20 to R24) -/

/-- The interface receives: it is active, past its synchronising wait, and sends no attempt of its own. A
message whose start was not seen as a command of its own is received all the same (log 7, log 8). -/
def isReceiving (s : State) : Bool :=
  isLive s && lineActive s && (s.line.lineState != .untracked) && s.line.attempt.isNone

/-- Whether a kind is routed to its owner in a station state (R24). -/
def isRouted : Kind → StationState → Bool
  | .query, .safe => true
  | .time, st | .demand, st | .cond, st | .query, st | .restart, st => isOperating st
  | .take, st | .preset, st | .commit, st | .protect, st | .map, st => st == .joining || st == .running
  | .report, _ => false

/-- What the receive filter does with a message. -/
inductive Verdict where
  | ignored                         -- the interface does not receive
  | dropped (c : Option Counter)    -- dropped, counting at most one counter
  | routed (k : Kind)
deriving DecidableEq, Repr

/-- The filter of R20 to R24, in the order of the rules; the first step that drops the message ends it. A
body above 68 bytes is a length field above 68, a framing error (R19). -/
def filterMessage (code : BitVec 4) (m : Message) (s : State) : Verdict :=
  if !isReceiving s then .ignored
  else if 68 < m.body.length then .dropped (some .crcErr)
  else if !checkAgrees code m then .dropped (some .crcErr)
  else
    match kindOfCode code with
    | none => .dropped (some .kindErr)
    | some k =>
      if !lengthAccepted k m.body.length then .dropped (some .crcErr)
      else if k = .report ∧ m.source ≠ s.station.number then .dropped none
      else if m.source = s.station.number then .dropped (some .sourceClash)
      else if isAddressed k && !(messageScope m).getLsbD s.station.number.toNat then .dropped none
      else if !isRouted k s.station.state then .dropped (some .notReady)
      else .routed k

/-- The line after a message completes or is dropped: GAP (R16). -/
def lineToGap (s : State) : State := { s with line := { s.line with lineState := .gap } }

/-- A message received: filtered, and handed to its owner when it is routed (R24). -/
def receive (code : BitVec 4) (m : Message) (owner : State → State) (s : State) : State :=
  match filterMessage code m s with
  | .ignored => s
  | .dropped none => lineToGap s
  | .dropped (some c) => count c (lineToGap s)
  | .routed _ => owner (lineToGap s)

/-! ### Line states (R16, R17, R19, R29, R31) -/

/-- LINE_IDLE: after 16 recessive bit times GAP becomes IDLE. A backoff wait with no slot left to count ends
at that moment (R16, R31). -/
def lineIdle (s : State) : State :=
  if lineActive s ∧ s.line.lineState = .gap then
    setLine { s.line with
      lineState := .idle
      backoff := match s.line.backoff with
        | some b => if b.slots ≤ b.counted then none else some b
        | none => none } s
  else s

/-- SYNCHRONISING_WAIT_END: 16 recessive bit times have been seen, and the line state is IDLE (R17). -/
def synchronisingWaitEnd (s : State) : State :=
  if isLive s ∧ lineActive s ∧ s.line.lineState = .untracked then
    setLine { s.line with lineState := .idle } s
  else s

/-- START_PATTERN: a dominant bit of another station while the line is GAP or IDLE makes it BUSY. `slots` is
the number of whole backoff slots the line has stayed IDLE; a running wait keeps them (R16, R31). -/
def startPattern (slots : Nat) (s : State) : State :=
  if lineActive s = false then s
  else match s.line.lineState with
    | .gap => setLine { s.line with lineState := .busy } s
    | .idle =>
      setLine { s.line with
        lineState := .busy
        backoff := s.line.backoff.map fun b => { b with counted := min b.slots (b.counted + slots) } } s
    | .untracked | .busy => s

/-- START_PATTERN_ERROR: a wrong second or third bit; no count, and the line becomes GAP (R19). -/
def startPatternError (s : State) : State :=
  if lineActive s ∧ s.line.lineState = .busy ∧ s.line.attempt = none then lineToGap s else s

/-- FRAMING_ERROR: the message being received is dropped, CRC_ERR is counted, the line becomes GAP (R19). -/
def framingError (s : State) : State :=
  if lineActive s ∧ s.line.lineState = .busy ∧ s.line.attempt = none then count .crcErr (lineToGap s) else s

/-! ### Attempts, contention, backoff (R29 to R32) -/

/-- ATTEMPT_START: a copy of the head entry goes on the line and its replaced mark is cleared (R29). -/
def attemptStart (s : State) : State :=
  match s.line.queue, s.line.attempt, s.line.backoff with
  | e :: es, none, none =>
    if lineActive s ∧ s.line.lineState = .idle then
      setLine { s.line with
        lineState := .busy
        queue := { e with replaced := false } :: es
        attempt := some { copy := e.msg, source := s.station.number, held := true } } s
    else s
  | _, _, _ => s

/-- One step of the backoff generator: shift left, the new lowest bit the exclusive-or of bits 7, 5, 4 and 3
(R31). -/
def stepRegister (r : BitVec 8) : BitVec 8 :=
  (r <<< 1) ||| BitVec.ofNat 8 ((r.getLsbD 7 ^^ r.getLsbD 5 ^^ r.getLsbD 4 ^^ r.getLsbD 3).toNat)

/-- The backoff drawn from the new register value after a loss count `losses` (R31). -/
def backoffSlots (register : BitVec 8) (losses : Nat) : Nat := register.toNat % 2 ^ min losses 5

/-- The interface at its restart values with the line counters 0, when an attempt that outlived a RESTART
message's restart ends (R17, R33, log 22). -/
def lineRestarted (s : State) : State :=
  { s with
    line := lineAtRestart s.station.number
    counters := Vector.ofFn fun (i : Fin 38) => if i.val < 8 then 0 else s.counters[i] }

/-- The loss count a lost attempt of an entry leaves (R30). -/
def lossCountAfter (e : TxEntry) : Nat := if e.replaced then e.losses else e.losses + 1

/-- The sixteenth loss: the entry is removed, TX_DISCARD is counted, DEMAND_LOST raised for a DEMAND (R32). -/
def discardHead (e : TxEntry) (es : List TxEntry) (s : State) : State :=
  count .txDiscard
    { s with
      line := { s.line with queue := es, attempt := none }
      flags := { s.flags with demandLost := s.flags.demandLost || isDemandMsg e.msg } }

/-- A loss that leaves a loss count of 0 to 15: the backoff is drawn (R30, R31). -/
def backOff (e : TxEntry) (es : List TxEntry) (s : State) : State :=
  let r := stepRegister s.line.register
  setLine { s.line with
    queue := { e with losses := lossCountAfter e, replaced := false } :: es
    attempt := none
    register := r
    backoff := some { slots := backoffSlots r (lossCountAfter e), counted := 0 } } s

/-- A lost attempt (R30 to R33). The winner's message goes on, so the line stays BUSY. A copy whose entry was
removed at SAFE entry is not retried. -/
def attemptLost (s : State) : State :=
  match s.line.attempt with
  | none => s
  | some a =>
    let s' := count .contentionLoss s
    if s.line.closing then lineRestarted s'
    else if a.held = false then setLine { s'.line with attempt := none } s'
    else
      match s.line.queue with
      | [] => setLine { s'.line with attempt := none } s'
      | e :: es => if 16 ≤ lossCountAfter e then discardHead e es s' else backOff e es s'

/-- Whether the attempt on the line is one whose loss discards the message (R32). -/
def lossDiscards (s : State) : Bool :=
  match s.line.attempt, s.line.queue with
  | some a, e :: _ => a.held && !s.line.closing && decide (16 ≤ lossCountAfter e)
  | _, _ => false

/-- The queue after its head wins: removed, or kept with its new content when replaced (R30). -/
def queueAfterWin : List TxEntry → List TxEntry
  | [] => []
  | e :: es => if e.replaced then { e with losses := 0, replaced := false } :: es else es

/-- A won attempt (R22, R30): DEMAND_LOST is cleared for a DEMAND, the line becomes GAP, and the station's own
message heard back is not routed. -/
def attemptWon (s : State) : State :=
  match s.line.attempt with
  | none => s
  | some a =>
    let s' := { s with flags := { s.flags with demandLost := s.flags.demandLost && !isDemandMsg a.copy } }
    if s.line.closing then lineRestarted s'
    else
      setLine { s.line with
        lineState := .gap
        attempt := none
        queue := if a.held then queueAfterWin s.line.queue else s.line.queue } s'

/-- BACKOFF_WAIT_END: the line has stayed recessive for the drawn slots (R31). -/
def backoffWaitEnd (s : State) : State :=
  if lineActive s ∧ s.line.lineState = .idle ∧ s.line.backoff.isSome then
    setLine { s.line with backoff := none } s
  else s

/-- SAFE entry (R33): REPORT entries are kept, DEMAND and COND entries removed without a count; a DEMAND or
COND copy on the line runs on and is not retried. A head removed in a backoff wait abandons the wait
(DEDUCED, log 21). -/
def lineAtSafe (l : CueLine) : CueLine :=
  let headStays := match l.queue with
    | e :: _ => isReportMsg e.msg
    | [] => false
  { l with
    queue := l.queue.filter fun e => isReportMsg e.msg
    attempt := l.attempt.map fun a => { a with held := a.held && headStays }
    backoff := if headStays then l.backoff else none }

/-! ### Commands -/

/-- LINE_IDLE (R16, R31). -/
def execLineIdle (s : State) : Out := .next (lineIdle s)

/-- SYNCHRONISING_WAIT_END (R17). -/
def execSynchronisingWaitEnd (s : State) : Out := .next (synchronisingWaitEnd s)

/-- FRAMING_ERROR (R19). -/
def execFramingError (s : State) : Out := .next (framingError s)

/-- CHECK_VALUE_MISMATCH (R20): the event is that the check values differ. -/
def execCheckValueMismatch (kind : BitVec 4) (m : Message) (s : State) : Out :=
  .next (if checkAgrees kind m then s else receive kind m id s)

/-- UNKNOWN_KIND (R21): a message whose kind code is not listed. -/
def execUnknownKind (kind : BitVec 4) (m : Message) (s : State) : Out :=
  .next (if (kindOfCode kind).isSome then s else receive kind m id s)

/-- REPORT_RECEIVED (R21): no owner acts on a REPORT. -/
def execReportReceived (m : Message) (s : State) : Out := .next (receive (kindCode .report) m id s)

/-- ATTEMPT_START (R29). -/
def execAttemptStart (s : State) : Out := .next (attemptStart s)

/-- ATTEMPT_LOST (R30, R31, R32). -/
def execAttemptLost (s : State) : Out := .next (attemptLost s)

/-- MESSAGE_DISCARD (R32): the loss that makes the loss count 16. -/
def execMessageDiscard (s : State) : Out := .next (if lossDiscards s then attemptLost s else s)

/-- ATTEMPT_WON (R22, R30). -/
def execAttemptWon (s : State) : Out := .next (attemptWon s)

/-- BACKOFF_WAIT_END (R31). -/
def execBackoffWaitEnd (s : State) : Out := .next (backoffWaitEnd s)

/-- START_PATTERN (R16). -/
def execStartPattern (slots : Nat) (s : State) : Out := .next (startPattern slots s)

/-- START_PATTERN_ERROR (R19). -/
def execStartPatternError (s : State) : Out := .next (startPatternError s)

end Sys2Proof.Machine
end

