-- ==== Sys2Proof/Machine/PresetStore.lean ====
section
/-! DEFINITION. Chapter 6: the preset store. Staging buffers, array operations, reads, the arbiter, the start
scan. -/

namespace Sys2Proof.Machine

def setStore (p : PresetStore) (s : State) : State := { s with store := p }

/-! ### Pages (R98, R117) -/

/-- The state of a page, judged by its fields (R98). -/
def pageState {α : Type} (p : Page α) : EntryState :=
  if p.void then .bad
  else match p.body with
    | .erased => .empty
    | .programmed _ => .valid
    | .damaged => .bad

/-- The directory entry of a judged preset page: the air-safe attribute of a VALID page, else clear (R100). -/
def judgePreset (p : Page Content) : DirEntry :=
  match pageState p, p.body with
  | .valid, .programmed c => { state := .valid, airSafe := c.airSafe }
  | st, _ => { state := st, airSafe := false }

/-- The map that a delivery carries: every entry PROTECTED unless the map entry is VALID (R111, R117). -/
def carriedMap (entry : EntryState) (p : Page ChannelSet) : ChannelSet :=
  match entry, p.body with
  | .valid, .programmed m => m
  | _, _ => 0

/-- The page of a journal entry with its void mark set, and the journal cleared: step 1 of the start scan
(R117). -/
def voidJournalled (f : FlashArray) : FlashArray :=
  match f.journal with
  | none => f
  | some .map => { f with mapPage := { f.mapPage with void := true }, journal := none }
  | some (.preset n) =>
    { f with presets := setAt f.presets n { f.presets[n] with void := true }, journal := none }

/-- The start scan begins on entry to SCANNING (R117). -/
def beginStartScan (s : State) : State :=
  { s with flash := voidJournalled s.flash, store := { s.store with scanning := true } }

/-- START_SCAN_END: every page is judged; the map goes to the protection unit and the scan end to the start-up
controller, but in SAFE to neither (R117, R120). -/
def startScanEnd (s : State) : State :=
  if s.store.scanning = false then s
  else
    let mapState := pageState s.flash.mapPage
    let s' := setStore { s.store with
        directory := s.flash.presets.map judgePreset
        mapEntry := mapState
        scanning := false } s
    if s.station.state = .safe then s'
    else { s' with transit := { s.transit with
        scanMap := some (carriedMap mapState s.flash.mapPage)
        scanEnd := true } }

/-! ### Staging buffers (R101 to R103) -/

def bufferOf (b : BufferName) (p : PresetStore) : StagingBuffer :=
  match b with
  | .a => p.bufferA
  | .b => p.bufferB

def setBuffer (b : BufferName) (x : StagingBuffer) (p : PresetStore) : PresetStore :=
  match b with
  | .a => { p with bufferA := x }
  | .b => { p with bufferB := x }

/-- The buffer of a buffer code, 0 for A and 1 for B (R102, R103). -/
def bufferOfCode (code : Byte) : Option BufferName :=
  match code.toNat with
  | 0 => some .a
  | 1 => some .b
  | _ => none

/-- A channel number taken modulo 128 (R102, R129, R131). -/
def channelMod (n : Nat) : Channel := ⟨n % 128, Nat.mod_lt n (by decide)⟩

/-- A preset number 0 to 63 of a byte. -/
def presetOfByte (b : Byte) : Option (Fin 64) :=
  if h : b.toNat < 64 then some ⟨b.toNat, h⟩ else none

/-- Levels and mask entries written into consecutive channels modulo 128 from channel number `ch`; `i` is the
number of the first level in the message (R102). -/
def writeLevels (mask : BitVec 24) (ch i : Nat) : List Level → Content → Content
  | [], c => c
  | l :: ls, c =>
    let k := channelMod ch
    let bit : ChannelSet := BitVec.twoPow 128 k.val
    writeLevels mask (ch + 1) (i + 1) ls
      { c with
        levels := setAt c.levels k l
        mask := if mask.getLsbD i then c.mask ||| bit else c.mask &&& ~~~bit }

/-- A PRESET taken by an OPEN buffer (R102). -/
def writePart (f : PresetFields) (b : StagingBuffer) : StagingBuffer :=
  let c := writeLevels f.mask f.firstChannel.toNat 0 f.levels b.content
  { b with
    content := match b.writePoint with
      | .first => { c with airSafe := f.airSafe }
      | .next => c
    writePoint := if f.continuation then .next else .first }

/-- A PRESET routed to the preset store (R102). -/
def takePreset (m : Message) (s : State) : State :=
  let f := presetFields m
  match bufferOfCode f.buffer with
  | none => count .argErr s
  | some b =>
    match (bufferOf b s.store).state with
    | .opened => setStore (setBuffer b (writePart f (bufferOf b s.store)) s.store) s
    | .queued | .committing => count .bufferBusy s

/-! ### Reads (R112, R113) -/

/-- A read answered; the fade engine takes the answer as an arrival of its own (R77). -/
def answerRead (tag : Nat) (kind : AnswerKind) (s : State) : State :=
  { s with transit := { s.transit with answers := s.transit.answers ++ [{ tag := tag, kind := kind }] } }

/-- The answer of a head read that needs no array (R113). -/
def flatAnswer : EntryState → Option AnswerKind
  | .empty => some .empty
  | .bad => some .bad
  | .valid | .committing => none

/-- The answers to the head reads that name an EMPTY or BAD preset, in queue order (R113). -/
def flatAnswers (dir : Vector DirEntry 64) : List ReadRequest → List Answer
  | [] => []
  | r :: rs =>
    match flatAnswer dir[r.preset].state with
    | some k => { tag := r.tag, kind := k } :: flatAnswers dir rs
    | none => []

/-- The reads that stay in the queue after those answers (R113). -/
def dropFlat (dir : Vector DirEntry 64) : List ReadRequest → List ReadRequest
  | [] => []
  | r :: rs =>
    match flatAnswer dir[r.preset].state with
    | some _ => dropFlat dir rs
    | none => r :: rs

/-- Every head read that names an EMPTY or BAD preset leaves the queue and is answered at once (R113). -/
def answerHeads (s : State) : State :=
  { s with
    store := { s.store with reads := dropFlat s.store.directory s.store.reads }
    transit := { s.transit with
      answers := s.transit.answers ++ flatAnswers s.store.directory s.store.reads } }

/-- The head read handed the array (R113). -/
def serveHead (s : State) : State :=
  match s.store.reads with
  | [] => s
  | r :: rs => setStore { s.store with reads := rs, serving := some r } s

/-! ### The arbiter (R106, R107, R111, R114, R115, R119) -/

/-- A commit starts (R107). -/
def startCommit (b : BufferName) (n : Fin 64) (s : State) : State :=
  { s with
    flash := { s.flash with journal := some (.preset n) }
    store := { setBuffer b { bufferOf b s.store with state := .committing } s.store with
      directory := setAt s.store.directory n { state := .committing, airSafe := false }
      running := some (.commit
        { buffer := b, preset := n, phase := .erase, suspended := false, asked := false, suspends := 0 }) } }

/-- A map operation starts (R111). -/
def startMap (r : Running) (s : State) : State :=
  { s with
    flash := { s.flash with journal := some .map }
    store := { s.store with running := some r } }

/-- The head operation leaves the queue and starts (R106). -/
def startOperation (s : State) : State :=
  match s.store.ops with
  | [] => s
  | op :: ops =>
    let s' := setStore { s.store with ops := ops } s
    match op with
    | .commit b n => startCommit b n s'
    | .mapErase => startMap .mapErase s'
    | .mapProgram first mask => startMap (.mapProgram first mask) s'

def setRun (c : CommitRun) (s : State) : State := setStore { s.store with running := some (.commit c) } s

/-- A suspended commit resumes (R115). -/
def resumeCommit (c : CommitRun) (s : State) : State := setRun { c with suspended := false } s

/-- A commit may be asked to suspend: ERASE or PROGRAM, below the limit of 8, no restart wait (R114, R119). -/
def maySuspend (restartWait : Bool) (c : CommitRun) : Bool :=
  (c.phase != .verify) && decide (c.suspends < 8) && !restartWait

/-- The arbiter decides once no read is being served and the head reads that need no array are answered
(R106, R113 to R115, R119). -/
def arbitrateHead (s : State) : State :=
  match s.store.running with
  | none =>
    if s.store.reads.isEmpty = false then serveHead s
    else if s.store.restartWait ∨ s.station.state = .safe then s
    else startOperation s
  | some (.commit c) =>
    if c.suspended then
      (if s.store.reads.isEmpty ∨ s.store.restartWait then resumeCommit c s else serveHead s)
    else if s.store.reads.isEmpty = false ∧ maySuspend s.store.restartWait c then
      setRun { c with asked := true } s
    else s
  | some .mapErase => s
  | some (.mapProgram _ _) => s

/-- The arbiter. While a read is being served from the array nothing is decided (R106, R113). -/
def arbitrate (s : State) : State :=
  if s.store.serving.isSome then s else arbitrateHead (answerHeads s)

/-! ### Operations join the queue (R103, R105) -/

/-- A COMMIT routed to the preset store (R103). -/
def takeCommit (m : Message) (s : State) : State :=
  match bufferOfCode (commitBuffer m), presetOfByte (commitPreset m) with
  | some b, some n =>
    let x := bufferOf b s.store
    match x.state with
    | .opened =>
      if 4 ≤ s.store.ops.length then count .opqFull s
      else
        arbitrate (setStore
          { setBuffer b { x with state := .queued, target := some n, writePoint := .first } s.store with
            ops := s.store.ops ++ [.commit b n] } s)
    | .queued | .committing => count .bufferBusy s
  | _, _ => count .argErr s

/-- A map operation finds room in the operation queue (R105). -/
def acceptsOp (s : State) : Bool := decide (s.store.ops.length < 4)

/-- A map operation handed over by the protection unit: it joins the queue, or is refused with OPQ_FULL
(R105). -/
def handOverMap (op : ArrayOp) (s : State) : State :=
  if acceptsOp s then arbitrate (setStore { s.store with ops := s.store.ops ++ [op] } s)
  else count .opqFull s

/-! ### Read requests and array reads (R112, R113) -/

/-- The buffer of the commit that names a preset (R112). -/
def forwardingBuffer (n : Fin 64) (p : PresetStore) : Option BufferName :=
  match p.running with
  | some (.commit c) => if c.preset = n then some c.buffer else none
  | some .mapErase => none
  | some (.mapProgram _ _) => none
  | none => none

/-- A read request taken (R112). -/
def takeRead (r : ReadRequest) (s : State) : State :=
  match forwardingBuffer r.preset s.store with
  | some b => answerRead r.tag (.content (bufferOf b s.store).content) s
  | none =>
    if 8 ≤ s.store.reads.length then answerRead r.tag .refused (count .readOverrun s)
    else arbitrate (setStore { s.store with reads := s.store.reads ++ [r] } s)

/-- PRESET_READ_REQUEST: the oldest read request on its way is taken (R77, R112). -/
def presetReadRequest (s : State) : State :=
  match s.transit.reads with
  | [] => s
  | r :: rs => takeRead r { s with transit := { s.transit with reads := rs } }

/-- What a read of a page gives. A page that is served is VALID (R113); another page gives BAD (log 27). -/
def readPage (p : Page Content) : AnswerKind :=
  match p.body with
  | .programmed c => .content c
  | .erased | .damaged => .bad

/-- ARRAY_READ_END: the read is answered and the arbiter decides (R106, R113). -/
def arrayReadEnd (s : State) : State :=
  match s.store.serving with
  | none => s
  | some r =>
    arbitrate (answerRead r.tag (readPage s.flash.presets[r.preset])
      (setStore { s.store with serving := none } s))

/-- SUSPENSION_REACHED: the suspend count increases, SUSPEND is counted, and the array goes to the reads. With
a restart wait open it serves the head read only (R114, R119). -/
def suspensionReached (s : State) : State :=
  match s.store.running with
  | some (.commit c) =>
    if c.asked = true ∧ c.suspended = false ∧ c.phase ≠ .verify then
      let s' := answerHeads (count .suspend
        (setRun { c with suspended := true, asked := false, suspends := c.suspends + 1 } s))
      if s'.store.reads.isEmpty then arbitrate s' else serveHead s'
    else s
  | some .mapErase => s
  | some (.mapProgram _ _) => s
  | none => s

/-! ### Ends of work (R107 to R111) -/

/-- The running commit, when it is in a phase and not suspended. -/
def commitIn (phase : CommitPhase) (s : State) : Option CommitRun :=
  match s.store.running with
  | some (.commit c) => if c.phase = phase ∧ c.suspended = false then some c else none
  | some .mapErase => none
  | some (.mapProgram _ _) => none
  | none => none

def setPage (n : Fin 64) (p : Page Content) (s : State) : State :=
  { s with flash := { s.flash with presets := setAt s.flash.presets n p } }

/-- ERASE_END: the page is erased, its void mark cleared, and PROGRAM begins; a request to suspend stands
(R98, R107, R114). -/
def eraseEnd (s : State) : State :=
  match commitIn .erase s with
  | none => s
  | some c => setRun { c with phase := .program } (setPage c.preset erasedPage s)

/-- PROGRAM_END: the page holds the buffer's content and VERIFY begins; a request to suspend lapses
(R107, R114). -/
def programEnd (s : State) : State :=
  match commitIn .program s with
  | none => s
  | some c =>
    setRun { c with phase := .verify, asked := false }
      (setPage c.preset { s.flash.presets[c.preset] with
        body := .programmed (bufferOf c.buffer s.store).content } s)

/-- An operation has ended: the journal is cleared, the array quiet is reported to an open restart wait, and
the arbiter decides (R106, R108, R111, R119). -/
def finishOperation (s : State) : State :=
  arbitrate { s with
    flash := { s.flash with journal := none }
    store := { s.store with running := none }
    transit := { s.transit with arrayQuiet := s.transit.arrayQuiet || s.store.restartWait } }

/-- A commit ends with the directory entry of its preset and its buffer OPEN, content kept (R108). -/
def endCommit (c : CommitRun) (entry : DirEntry) (s : State) : State :=
  finishOperation (setStore
    { setBuffer c.buffer { bufferOf c.buffer s.store with state := .opened, target := none } s.store with
      directory := setAt s.store.directory c.preset entry } s)

def raiseCommitFail (raised : Bool) (s : State) : State :=
  { s with flags := { s.flags with commitFail := raised } }

/-- VERIFY_END with its outcome (R108 to R110). Success means that the page agrees with the buffer in every
field; failure, that a field or the check disagrees, and the void mark is set. -/
def verifyEnd (success : Bool) (s : State) : State :=
  match commitIn .verify s with
  | none => s
  | some c =>
    let content := (bufferOf c.buffer s.store).content
    if success then
      endCommit c { state := .valid, airSafe := content.airSafe }
        (raiseCommitFail false (setPage c.preset { void := false, body := .programmed content } s))
    else
      endCommit c { state := .bad, airSafe := false }
        (count .commitFail (raiseCommitFail true (setPage c.preset { void := true, body := .damaged } s)))

/-- A map operation ends with the map page and map entry it leaves; the completion notice goes to the
protection unit (R111). -/
def endMap (page : Page ChannelSet) (entry : EntryState) (s : State) : State :=
  finishOperation { s with
    flash := { s.flash with mapPage := page }
    store := { s.store with mapEntry := entry }
    transit := { s.transit with mapDone := s.transit.mapDone ++ [carriedMap entry page] } }

/-- MAP_ERASE_END (R111, R130). -/
def mapEraseEnd (s : State) : State :=
  match s.store.running with
  | some .mapErase => endMap erasedPage .empty s
  | some (.commit _) => s
  | some (.mapProgram _ _) => s
  | none => s

/-- The channels that a map program releases: (first + i) mod 128 for each set mask entry i (R131). -/
def releaseFrom (first : Channel) (mask : BitVec 32) : Nat → ChannelSet → ChannelSet
  | 0, m => m
  | n + 1, m =>
    let m' := releaseFrom first mask n m
    if mask.getLsbD n then m' ||| BitVec.twoPow 128 (channelMod (first.val + n)).val else m'

/-- A map with the entries of a map program RELEASED (R131). -/
def releaseChannels (first : Channel) (mask : BitVec 32) (m : ChannelSet) : ChannelSet :=
  releaseFrom first mask 32 m

/-- MAP_PROGRAM_END: releases are written on an EMPTY or VALID page; a BAD page stays BAD (R111, R131). -/
def mapProgramEnd (s : State) : State :=
  match s.store.running with
  | some (.mapProgram first mask) =>
    (match s.store.mapEntry with
    | .empty | .valid =>
      endMap { void := false
               body := .programmed (releaseChannels first mask
                 (carriedMap s.store.mapEntry s.flash.mapPage)) } .valid s
    | .bad | .committing => endMap s.flash.mapPage s.store.mapEntry s)
  | some (.commit _) => s
  | some .mapErase => s
  | none => s

/-! ### Restart wait, break-off, SAFE (R118 to R120) -/

/-- RESTART_REQUEST: the restart wait opens; with no operation in progress the array is quiet at once, and a
suspension under which no read is being served ends (R119). -/
def restartRequest (s : State) : State :=
  if s.transit.restartReq = false then s
  else
    let s' := setStore { s.store with restartWait := true }
      { s with transit := { s.transit with restartReq := false } }
    if s.store.running = none then { s' with transit := { s'.transit with arrayQuiet := true } }
    else arbitrate s'

/-- The array as power loss or RESET leaves it: the page of an operation broken off stands half-erased or
half-programmed, a commit in VERIFY leaves its page as programmed, and the journal stays (R99, R118). -/
def breakOffArray (p : PresetStore) (f : FlashArray) : FlashArray :=
  match p.running with
  | none => f
  | some (.commit c) =>
    if c.phase = .verify then f
    else { f with presets := setAt f.presets c.preset { f.presets[c.preset] with body := .damaged } }
  | some .mapErase => { f with mapPage := { f.mapPage with body := .damaged } }
  | some (.mapProgram _ _) => { f with mapPage := { f.mapPage with body := .damaged } }

/-- A buffer at SAFE entry: one whose commit was queued becomes OPEN (R120). -/
def bufferAtSafe (b : StagingBuffer) : StagingBuffer :=
  match b.state with
  | .queued => { b with state := .opened, target := none }
  | .opened | .committing => b

/-- The running operation at SAFE entry: the queued reads are gone, so a suspended commit under which no read
is served resumes (R115, R120). A suspension still being reached stays asked for (log 20). -/
def runningAtSafe (serving : Bool) : Running → Running
  | .commit c => .commit { c with suspended := c.suspended && serving }
  | .mapErase => .mapErase
  | .mapProgram first mask => .mapProgram first mask

/-- The preset store at SAFE entry (R120). -/
def storeAtSafe (p : PresetStore) : PresetStore :=
  { p with
    bufferA := bufferAtSafe p.bufferA
    bufferB := bufferAtSafe p.bufferB
    ops := []
    reads := []
    running := p.running.map (runningAtSafe p.serving.isSome)
    restartWait := false }

/-! ### Commands -/

/-- PRESET (R102). -/
def execPreset (m : Message) (s : State) : Out := .next (receive (kindCode .preset) m (takePreset m) s)

/-- COMMIT (R103). -/
def execCommit (m : Message) (s : State) : Out := .next (receive (kindCode .commit) m (takeCommit m) s)

/-- PRESET_READ_REQUEST (R112). -/
def execPresetReadRequest (s : State) : Out := .next (presetReadRequest s)

/-- ARRAY_READ_END (R113). -/
def execArrayReadEnd (s : State) : Out := .next (arrayReadEnd s)

/-- SUSPENSION_REACHED (R114). -/
def execSuspensionReached (s : State) : Out := .next (suspensionReached s)

/-- ERASE_END (R107). -/
def execEraseEnd (s : State) : Out := .next (eraseEnd s)

/-- PROGRAM_END (R107). -/
def execProgramEnd (s : State) : Out := .next (programEnd s)

/-- VERIFY_END (R108 to R110). -/
def execVerifyEnd (success : Bool) (s : State) : Out := .next (verifyEnd success s)

/-- MAP_ERASE_END (R111). -/
def execMapEraseEnd (s : State) : Out := .next (mapEraseEnd s)

/-- MAP_PROGRAM_END (R111). -/
def execMapProgramEnd (s : State) : Out := .next (mapProgramEnd s)

/-- START_SCAN_END (R117). -/
def execStartScanEnd (s : State) : Out := .next (startScanEnd s)

/-- RESTART_REQUEST (R119). -/
def execRestartRequest (s : State) : Out := .next (restartRequest s)

end Sys2Proof.Machine
end

