-- ==== Sys2Proof/Machine/Protection.lean ====
section
/-! DEFINITION. Chapter 7: on-air protection. -/

namespace Sys2Proof.Machine

/-- A new pin level and latch, with one protection notice when protection in force differs from before
(R125). -/
def setProtection (p : Protection) (s : State) : State :=
  { s with
    protection := p
    transit := { s.transit with
      protNotices := s.transit.protNotices + (if inForce p = inForce s.protection then 0 else 1) } }

/-! ### The ON-AIR pin (R124, R132) -/

/-- The unit starts at the end of LOADING: the latch takes protect at start, and a candidate forms from the
level the pin shows (R123, R124). No protection notice is sent, also where a clear start value takes protection
out of force (DESIGN CHOICE, log 42). -/
def startProtection (protectAtStart pin : Bool) (now : Nanos) (p : Protection) : Protection :=
  { p with started := true, latch := protectAtStart, candidate := some { level := pin, since := now } }

/-- ON_AIR_EDGE: the pin takes the level, and a started unit forms, replaces or drops its candidate (R124). -/
def onAirEdge (level : Bool) (now : Nanos) (s : State) : State :=
  let s' := { s with pins := { s.pins with onAir := level } }
  if s.protection.started then
    { s' with protection := { s.protection with
        candidate := if level = s.protection.pin then none else some { level := level, since := now } } }
  else s'

/-- The candidate is of a level (R124). -/
def candidateIs (level : Bool) (p : Protection) : Bool :=
  match p.candidate with
  | some c => c.level == level
  | none => false

/-- A candidate held for 20 µs moves the pin level (R124, R125). A candidate of the level the pin has, formed
when the unit starts, changes nothing but goes. -/
def qualifyPin (level : Bool) (s : State) : State :=
  setProtection { s.protection with pin := level, candidate := none } s

/-- ON_AIR_ASSERTION: MAP_LATE_AIR is counted once for each outstanding map operation (R132). -/
def onAirAssertion (s : State) : State :=
  if s.protection.started ∧ candidateIs true s.protection then
    countN .mapLateAir s.protection.outstanding (qualifyPin true s)
  else s

/-- ON_AIR_DEASSERTION (R124, R125). -/
def onAirDeassertion (s : State) : State :=
  if s.protection.started ∧ candidateIs false s.protection then qualifyPin false s else s

/-! ### Deliveries of the map (R128) -/

/-- MAP_COMPLETION_NOTICE: the copy is replaced, the outstanding count decreased when above 0, and a notice is
sent when an entry changes (R128). -/
def mapCompletionNotice (s : State) : State :=
  match s.transit.mapDone with
  | [] => s
  | m :: ms =>
    { s with
      protection := { s.protection with map := m, outstanding := s.protection.outstanding - 1 }
      transit := { s.transit with
        mapDone := ms
        protNotices := s.transit.protNotices + (if m = s.protection.map then 0 else 1) } }

/-- START_SCAN_MAP: the copy is replaced without a notice (R128). -/
def startScanMap (s : State) : State :=
  match s.transit.scanMap with
  | none => s
  | some m =>
    { s with
      protection := { s.protection with map := m }
      transit := { s.transit with scanMap := none } }

/-! ### PROTECT and MAP messages (R126, R127, R129) -/

/-- A PROTECT routed to the protection unit (R126, R127). -/
def takeProtect (m : Message) (s : State) : State :=
  match (protectCode m).toNat with
  | 0 =>
    if s.protection.pin then count .protectOffRefused s
    else setProtection { s.protection with latch := false } s
  | 1 => setProtection { s.protection with latch := true } s
  | _ => count .argErr s

/-- A map operation handed to the preset store; the outstanding count goes up when it is accepted (R129). -/
def handOver (op : ArrayOp) (s : State) : State :=
  let s' := handOverMap op s
  if acceptsOp s then
    { s' with protection := { s'.protection with outstanding := s'.protection.outstanding + 1 } }
  else s'

/-- A map operation formed by the protection unit. The count never exceeds 5, so where the preset store
accepts an operation with five outstanding, the completion notice of the operation that left the array is taken first
(R129; DEDUCED, log 45). A refused operation takes no notice. -/
def requestMap (op : ArrayOp) (s : State) : State :=
  handOver op (if 5 ≤ s.protection.outstanding ∧ acceptsOp s then mapCompletionNotice s else s)

/-- A MAP routed to the protection unit (R129). -/
def takeMap (m : Message) (s : State) : State :=
  match (mapCode m).toNat with
  | 0 => if s.protection.pin then count .mapRefused s else requestMap .mapErase s
  | 1 =>
    if s.protection.pin then count .mapRefused s
    else requestMap (.mapProgram (channelMod (mapFirstChannel m).toNat) (mapReleaseMask m)) s
  | _ => count .argErr s

/-! ### SAFE (R136) -/

/-- The protection unit at SAFE entry (R136). -/
def protectionAtSafe (p : Protection) : Protection := { p with outstanding := 0 }

/-! ### Commands -/

/-- ON_AIR_EDGE (R124). -/
def execOnAirEdge (level : Bool) (now : Nanos) (s : State) : Out := .next (onAirEdge level now s)

/-- ON_AIR_ASSERTION (R124, R125, R132). -/
def execOnAirAssertion (s : State) : Out := .next (onAirAssertion s)

/-- ON_AIR_DEASSERTION (R124, R125). -/
def execOnAirDeassertion (s : State) : Out := .next (onAirDeassertion s)

/-- PROTECT_ON (R126): a PROTECT with code 1. -/
def execProtectOn (m : Message) (s : State) : Out :=
  .next (if (protectCode m).toNat = 1 then receive (kindCode .protect) m (takeProtect m) s else s)

/-- PROTECT_OFF (R127): a PROTECT with code 0. -/
def execProtectOff (m : Message) (s : State) : Out :=
  .next (if (protectCode m).toNat = 0 then receive (kindCode .protect) m (takeProtect m) s else s)

/-- PROTECT_CODE_ERROR (R126): a PROTECT with a code above 1. -/
def execProtectCodeError (m : Message) (s : State) : Out :=
  .next (if 1 < (protectCode m).toNat then receive (kindCode .protect) m (takeProtect m) s else s)

/-- MAP_ERASE (R129): a MAP with code 0. -/
def execMapErase (m : Message) (s : State) : Out :=
  .next (if (mapCode m).toNat = 0 then receive (kindCode .map) m (takeMap m) s else s)

/-- MAP_PROGRAM (R129): a MAP with code 1. -/
def execMapProgram (m : Message) (s : State) : Out :=
  .next (if (mapCode m).toNat = 1 then receive (kindCode .map) m (takeMap m) s else s)

/-- MAP_CODE_ERROR (R129): a MAP with a code above 1. -/
def execMapCodeError (m : Message) (s : State) : Out :=
  .next (if 1 < (mapCode m).toNat then receive (kindCode .map) m (takeMap m) s else s)

/-- MAP_COMPLETION_NOTICE (R128). -/
def execMapCompletionNotice (s : State) : Out := .next (mapCompletionNotice s)

/-- START_SCAN_MAP (R128). -/
def execStartScanMap (s : State) : Out := .next (startScanMap s)

end Sys2Proof.Machine
end

