-- ==== Sys2Proof/Machine/Fade.lean ====
section
/-! DEFINITION. Chapter 5: lighting channels, fades, the fixture links and the level forecast. -/

namespace Sys2Proof.Machine

def setFade (f : FadeEngine) (s : State) : State := { s with fade := f }

/-! ### Requests and answers (R77 to R79, R94) -/

/-- The request list and the next tag with a new READING record, at the head or at the tail (R77, R90). -/
def addRequest (atHead : Bool) (r : FadeRequest) (f : FadeEngine) : FadeEngine :=
  let record : RequestRecord := { req := r, phase := .reading, content := none, tag := f.nextTag }
  { f with
    requests := if atHead then record :: f.requests else f.requests ++ [record]
    nextTag := f.nextTag + 1 }

/-- A request kept and its read sent, or dropped with FADE_OVERRUN at a full list (R77, R90). -/
def keepRequest (atHead : Bool) (r : FadeRequest) (n : Fin 64) (s : State) : State :=
  if 16 ≤ s.fade.requests.length then count .fadeOverrun s
  else
    { s with
      fade := addRequest atHead r s.fade
      transit := { s.transit with
        reads := s.transit.reads ++ [{ preset := n, tag := s.fade.nextTag }] } }

/-- A fade start request taken (R77); a station in SAFE discards it (R94). -/
def takeFadeRequest (r : FadeRequest) (s : State) : State :=
  if s.station.state = .safe then s
  else
    match presetOfByte r.preset with
    | none => count .argErr s
    | some n => keepRequest false r n s

/-- FADE_START_REQUEST: the oldest request of the sender is taken (R46, R68, R77). -/
def fadeStartRequest (origin : Origin) (s : State) : State :=
  match origin with
  | .cueList =>
    (match s.transit.cueFades with
    | [] => s
    | r :: rs => takeFadeRequest r { s with transit := { s.transit with cueFades := rs } })
  | .lookMachine =>
    (match s.transit.lookFades with
    | [] => s
    | r :: rs => takeFadeRequest r { s with transit := { s.transit with lookFades := rs } })

/-- The request record a tag names. -/
def findRequest (tag : Nat) (rs : List RequestRecord) : Option RequestRecord := rs.find? fun r => r.tag == tag

/-- The phase an answer with content gives: READY when the current frame is before the start frame, else
DEFERRED (R79). -/
def phaseAtAnswer (start current : FrameNo) : Phase := if isBefore current start then .ready else .deferred

/-- The record a tag names with the content stored and its phase set (R79). -/
def storeContent (current : FrameNo) (tag : Nat) (c : Content) : List RequestRecord → List RequestRecord
  | [] => []
  | r :: rs =>
    if r.tag = tag then { r with content := some c, phase := phaseAtAnswer r.req.frame current } :: rs
    else r :: storeContent current tag c rs

/-- An answer with content (R79); one that matches no record is discarded (R78). -/
def takeContent (tag : Nat) (c : Content) (s : State) : State :=
  match findRequest tag s.fade.requests with
  | none => s
  | some r =>
    countIf (phaseAtAnswer r.req.frame s.fade.frame == .deferred) .fadeDeferred
      (setFade { s.fade with requests := storeContent s.fade.frame tag c s.fade.requests } s)

/-- An answer without content removes the record; EMPTY and BAD count PRESET_BAD_REF (R78). -/
def takeNoContent (tag : Nat) (badRef : Bool) (s : State) : State :=
  match findRequest tag s.fade.requests with
  | none => s
  | some _ =>
    countIf badRef .presetBadRef
      (setFade { s.fade with requests := removeFirst (fun r => r.tag == tag) s.fade.requests } s)

/-- CONTENT_ANSWER: the oldest answer, when it carries content (R79). -/
def contentAnswer (s : State) : State :=
  match s.transit.answers with
  | [] => s
  | a :: as =>
    match a.kind with
    | .content c => takeContent a.tag c { s with transit := { s.transit with answers := as } }
    | .empty | .bad | .refused => s

/-- ANSWER_WITHOUT_CONTENT: the oldest answer, when it carries none (R78). -/
def answerWithoutContent (s : State) : State :=
  match s.transit.answers with
  | [] => s
  | a :: as =>
    match a.kind with
    | .content _ => s
    | .empty | .bad => takeNoContent a.tag true { s with transit := { s.transit with answers := as } }
    | .refused => takeNoContent a.tag false { s with transit := { s.transit with answers := as } }

/-! ### Fades (R81 to R86) -/

/-- The level of a fade after `steps` steps: start + trunc((target − start) × j / n), trunc toward zero, and
the target once the steps reach n (R85, R92). -/
def fadeLevel (start target : Level) (total : BitVec 16) (steps : Nat) : Level :=
  if total.toNat ≤ steps then target
  else BitVec.ofInt 16 (start.toNat +
    Int.tdiv (((target.toNat : Int) - start.toNat) * steps) total.toNat)

/-- A request due at a frame start (R81). -/
def requestDue (e : FrameEvent) (r : RequestRecord) : Bool :=
  match r.phase with
  | .reading => false
  | .deferred => true
  | .ready => e.adopted || !isAfter r.req.frame e.frame

/-- The content's mask covers a channel (R82). -/
def covers (r : RequestRecord) (c : Channel) : Bool :=
  match r.content with
  | some x => x.mask.getLsbD c.val
  | none => false

/-- The fade of a request is air-safe: its own flag and the preset's attribute are both set (R82). -/
def requestAirSafe (r : RequestRecord) : Bool :=
  match r.content with
  | some x => r.req.airSafe && x.airSafe
  | none => false

/-- A PINNED channel (R75). -/
def isPinned (s : State) (c : Channel) : Bool := s.image.channels[c].cls == .pinned

/-- A channel left out of a fade by protection, which counts PROTECT_DROP (R82). -/
def isDropped (s : State) (r : RequestRecord) (c : Channel) : Bool :=
  covers r c && !isPinned s c && protectedInForce s.protection c && !requestAirSafe r

/-- An affected channel of a request (R82). -/
def affects (s : State) (r : RequestRecord) (c : Channel) : Bool :=
  covers r c && !isPinned s c && !(protectedInForce s.protection c && !requestAirSafe r)

/-- The target level of a request for a channel. -/
def requestTarget (r : RequestRecord) (c : Channel) : Level :=
  match r.content with
  | some x => x.levels[c]
  | none => 0

/-- A fade installed on a channel at frame F in place of any running fade (R83). -/
def installFade (frame : FrameNo) (r : RequestRecord) (c : Channel) (x : ChannelRecord) : ChannelRecord :=
  { x with
    fade := some
      { start := x.level
        target := requestTarget r c
        total := r.req.total
        frame := frame
        steps := 0
        airSafe := requestAirSafe r
        source := r.req.source } }

/-- The due requests installed on a channel in list order (R81, R83). -/
def installAll (s : State) (frame : FrameNo) (due : List RequestRecord) (c : Channel) (x : ChannelRecord) :
    ChannelRecord :=
  due.foldl (fun y r => if affects s r c then installFade frame r c y else y) x

/-- A fade was installed on a channel at this frame start. -/
def isFresh (s : State) (due : List RequestRecord) (c : Channel) : Bool := due.any fun r => affects s r c

/-- A channel stepped: a fade installed at this frame start keeps j = 0, any other takes j + 1; the level
follows, and a fade whose j reaches n is removed (R85). -/
def stepChannel (fresh : Bool) (x : ChannelRecord) : ChannelRecord :=
  match x.fade with
  | none => x
  | some f =>
    let j := if fresh then f.steps else f.steps + 1
    { x with
      level := fadeLevel f.start f.target f.total j
      fade := if f.total.toNat ≤ j then none else some { f with steps := j } }

/-- A channel's running fade is removed by the step (R85). -/
def completesFade (fresh : Bool) (x : ChannelRecord) : Bool :=
  match x.fade with
  | none => false
  | some f => decide (f.total.toNat ≤ (if fresh then f.steps else f.steps + 1))

/-- The requests that are due at a frame start, in list order (R81). -/
def dueRequests (e : FrameEvent) (s : State) : List RequestRecord := s.fade.requests.filter (requestDue e)

/-- A channel's record after the starts and steps of a frame start (R81 to R85). -/
def channelAfter (e : FrameEvent) (s : State) (c : Channel) : ChannelRecord :=
  stepChannel (isFresh s (dueRequests e s) c)
    (installAll s e.frame (dueRequests e s) c s.fade.channels[c])

/-- The PROTECT_DROP counts of one request: one for each channel it leaves out (R82). -/
def dropCount (s : State) (r : RequestRecord) : Nat := (List.finRange 128).countP (isDropped s r)

/-! ### The fixture links (R87 to R89) -/

/-- A channel's output level for the scale k (R88). -/
def outputLevel (s : State) (k : Nat) (c : Channel) : Level :=
  let x := s.fade.channels[c]
  match s.image.channels[c].cls with
  | .pinned => s.image.channels[c].pinned
  | .unscaled => x.level
  | .scaled =>
    if protectedInForce s.protection c then x.level
    else BitVec.ofNat 16 (x.level.toNat * k / 32768)

/-- The packets of the current frame formed with the scale k and sent on both links (R87 to R89, R196). Each last
output is set as the packets are formed (DESIGN CHOICE, log 41). -/
def formPackets (refresh : Bool) (k : Nat) (s : State) : State :=
  setFade { s.fade with
    channels := Vector.ofFn fun c => { s.fade.channels[c] with lastOut := some (outputLevel s k c) }
    packets := .formed
    sending := s.fade.sending ++
      [{ frame := s.fade.frame, refresh := refresh, levels := Vector.ofFn (outputLevel s k) }] } s

/-- The packets of the current frame sent once k(F) is held, and owed until then (R87). -/
def sendPackets (s : State) : State :=
  match s.fade.k with
  | some k => formPackets false k s
  | none => setFade { s.fade with packets := .owed } s

/-- The scale held for a frame start, by its serial (R87, R171). -/
def scaleFor (serial : Nat) (l : List ScaleMessage) : Option Nat :=
  (l.find? fun m => m.serial == serial).map (·.k)

/-- The scales for frame starts not yet taken. -/
def laterScales (serial : Nat) (l : List ScaleMessage) : List ScaleMessage :=
  l.filter fun m => decide (serial < m.serial)

/-! ### Frame starts (R81, R87) -/

/-- The starts and steps of a frame start (R81 to R85). -/
def stepFades (e : FrameEvent) (s : State) : State :=
  let due := dueRequests e s
  countN .protectDrop ((due.map (dropCount s)).sum)
    (setFade { s.fade with
      frame := e.frame
      taken := e.serial
      channels := Vector.ofFn (channelAfter e s)
      requests := s.fade.requests.filter fun r => !requestDue e r
      k := scaleFor e.serial s.fade.scales
      scales := laterScales e.serial s.fade.scales
      packets := .notDue } s)

/-- A frame start taken by the fade engine (R81, R87). -/
def fadeFrame (e : FrameEvent) (s : State) : State :=
  let s' := stepFades e s
  if s.fade.enabled then sendPackets s' else s'

/-- The packets of the current frame have not gone yet (R87). -/
def packetsPending (f : FadeEngine) : Bool := f.enabled && ((f.packets == .owed) || !f.sending.isEmpty)

/-- FADE_FRAME_START: the next frame start issued is taken, or waits while the packets of the current frame
have not gone (R11, R81, R87). -/
def fadeFrameStart (s : State) : State :=
  match s.transit.fadeFrames with
  | [] => s
  | e :: es =>
    let s' := { s with transit := { s.transit with fadeFrames := es } }
    if packetsPending s.fade || !s.fade.waiting.isEmpty then
      setFade { s.fade with waiting := s.fade.waiting ++ [e] } s'
    else fadeFrame e s'

/-- The next frame start is taken at once and some fade reaches its last step at it (R85). -/
def fadeCompletes (s : State) : Bool :=
  match s.transit.fadeFrames with
  | [] => false
  | e :: _ =>
    !(packetsPending s.fade || !s.fade.waiting.isEmpty) &&
    (List.finRange 128).any fun c =>
      completesFade (isFresh s (dueRequests e s) c)
        (installAll s e.frame (dueRequests e s) c s.fade.channels[c])

/-- FIXTURE_PACKETS_SENT: packets have gone; when none are left a frame start that waits is taken (R87). -/
def fixturePacketsSent (s : State) : State :=
  match s.fade.sending with
  | [] => s
  | _ :: rest =>
    let s' := setFade { s.fade with sending := rest } s
    match rest, s.fade.waiting with
    | [], e :: es => fadeFrame e (setFade { s'.fade with waiting := es } s')
    | _, _ => s'

/-- SCALE_ARRIVAL_FADE: k for a frame. It is held for the current frame, and packets that are owed go; for a
later frame it is kept; for an earlier one it has no use (R87, R171). -/
def scaleArrivalFade (s : State) : State :=
  match s.transit.fadeScales with
  | [] => s
  | m :: ms =>
    let s' := { s with transit := { s.transit with fadeScales := ms } }
    if m.serial = s.fade.taken then
      let s'' := setFade { s.fade with k := some m.k } s'
      if s.fade.packets = .owed then formPackets false m.k s'' else s''
    else if s.fade.taken < m.serial then
      setFade { s.fade with scales := s.fade.scales ++ [m] } s'
    else s'

/-- PROTECTION_NOTICE: after the packets of the current frame have been sent, they are sent again with the
refresh mark (R89). -/
def protectionNotice (s : State) : State :=
  match s.transit.protNotices with
  | 0 => s
  | n + 1 =>
    let s' := { s with transit := { s.transit with protNotices := n } }
    match s.fade.enabled, s.fade.packets, s.fade.k with
    | true, .formed, some k => formPackets true k s'
    | _, _, _ => s'

/-- Every PINNED channel at its pinned level (R90). -/
def setPinnedLevels (s : State) : State :=
  setFade { s.fade with
    channels := Vector.ofFn fun c =>
      if isPinned s c then { s.fade.channels[c] with level := s.image.channels[c].pinned }
      else s.fade.channels[c] } s

/-- The start-up preset requested at the head of the list (R90). -/
def requestStartPreset (label : FrameNo) (s : State) : State :=
  match s.image.startPreset.bind presetOfByte with
  | none => s
  | some n =>
    keepRequest true
      { preset := BitVec.ofNat 8 n.val, frame := label + 1, total := s.image.startFadeFrames,
        airSafe := false, source := .start } n s

def enableLinks (s : State) : State := setFade { s.fade with enabled := true } s

/-- RUN_NOTICE_FADE: pinned levels, the start-up preset, the links; when frame start F_r has been taken
already its packets go at once (R90). -/
def runNoticeFade (s : State) : State :=
  match s.transit.runFade with
  | none => s
  | some n =>
    let s' := enableLinks (requestStartPreset n.label (setPinnedLevels
      { s with transit := { s.transit with runFade := none } }))
    if n.serial ≤ s.fade.taken then sendPackets s' else s'

/-! ### The level forecast (R91 to R93) -/

/-- The steps a running fade will have done at G (R91). -/
def stepsAt (current target : FrameNo) (f : Fade) : Nat :=
  f.steps + (if isAfter target current then frameDistance current target else 0)

/-- A running fade's level at G (R92). -/
def fadeLevelAt (current target : FrameNo) (f : Fade) : Level :=
  fadeLevel f.start f.target f.total (stepsAt current target f)

/-- The last READY or DEFERRED request in list order that covers a channel (R93, R96). -/
def lastCovering (s : State) (c : Channel) : Option RequestRecord :=
  (s.fade.requests.filter fun r => (r.phase != .reading) && covers r c).getLast?

/-- A channel's forecast level at G (R92, R93). -/
def forecastLevel (s : State) (target : FrameNo) (c : Channel) : Nat :=
  let x := s.fade.channels[c]
  let running : Option Nat := x.fade.map fun f => (fadeLevelAt s.fade.frame target f).toNat
  if isPinned s c then s.image.channels[c].pinned.toNat
  else
    match lastCovering s c with
    | some r => max (max x.level.toNat (requestTarget r c).toNat) (running.getD 0)
    | none => running.getD x.level.toNat

/-- The fade engine at SAFE entry (R94): the links silent, the request list empty, channel records kept. -/
def fadeAtSafe (f : FadeEngine) : FadeEngine :=
  { f with requests := [], enabled := false, packets := .notDue, sending := [], waiting := [] }

/-! ### Commands -/

/-- FADE_START_REQUEST (R77). -/
def execFadeStartRequest (origin : Origin) (s : State) : Out := .next (fadeStartRequest origin s)

/-- CONTENT_ANSWER (R79). -/
def execContentAnswer (s : State) : Out := .next (contentAnswer s)

/-- ANSWER_WITHOUT_CONTENT (R78). -/
def execAnswerWithoutContent (s : State) : Out := .next (answerWithoutContent s)

/-- FADE_FRAME_START (R81, R85, R87). -/
def execFadeFrameStart (s : State) : Out := .next (fadeFrameStart s)

/-- FADE_COMPLETION (R85): the frame start at which a fade reaches its last step. -/
def execFadeCompletion (s : State) : Out := .next (if fadeCompletes s then fadeFrameStart s else s)

/-- SCALE_ARRIVAL_FADE (R87). -/
def execScaleArrivalFade (s : State) : Out := .next (scaleArrivalFade s)

/-- PROTECTION_NOTICE (R89). -/
def execProtectionNotice (s : State) : Out := .next (protectionNotice s)

/-- RUN_NOTICE_FADE (R90). -/
def execRunNoticeFade (s : State) : Out := .next (runNoticeFade s)

/-- FIXTURE_PACKETS_SENT (R87). -/
def execFixturePacketsSent (s : State) : Out := .next (fixturePacketsSent s)

end Sys2Proof.Machine
end

