-- ==== Sys2Proof/Machine/WallFeed.lean ====
section
/-! DEFINITION. Chapter 8: the wall segment feed. Window, load path, banks, wall actions, scans. -/

namespace Sys2Proof.Machine

def setWall (w : WallFeed) (s : State) : State := { s with wall := w }

/-! ### Window and panels (R138, R139) -/

/-- Segment width (R138). -/
def segmentWidth (i : Image) : Nat := i.columnEnd + 1 - i.columnStart

/-- Segment height (R138). -/
def segmentHeight (i : Image) : Nat := i.rowEnd + 1 - i.rowStart

/-- The segment's pixel count (R138). -/
def pixelCount (i : Image) : Nat := segmentWidth i * segmentHeight i

/-- Panel columns, ceil(width / 64) (R139). -/
def panelColumns (i : Image) : Nat := (segmentWidth i + 63) / 64

/-- Panel rows, ceil(height / 64) (R139). -/
def panelRows (i : Image) : Nat := (segmentHeight i + 63) / 64

/-- The index of the panel of a segment position (R139). -/
def panelIndex (i : Image) (col row : Nat) : Nat := row / 64 * panelColumns i + col / 64

/-- A raster position lies in the window (R138). -/
def inWindow (i : Image) (col row : Nat) : Bool :=
  decide (i.columnStart ≤ col) && decide (col ≤ i.columnEnd) &&
  decide (i.rowStart ≤ row) && decide (row ≤ i.rowEnd)

/-- The gain triple of a panel in a profile (R139). -/
def gainsOf (i : Image) (profile : Fin 4) (panel : Nat) : Gains := i.profiles[profile][panel]?.getD unityGains

/-! ### The load path (R141, R142) -/

/-- A component times its gain, rounded half up, before the min (R141). -/
def gainProduct (c : BitVec 10) (g : BitVec 16) : Nat := (c.toNat * g.toNat + 16384) / 32768

/-- The stored component (R141). -/
def correct (c : BitVec 10) (g : BitVec 16) : BitVec 10 := BitVec.ofNat 10 (min 1023 (gainProduct c g))

/-- The component has clamped (R141). -/
def clamps (c : BitVec 10) (g : BitVec 16) : Bool := decide (1023 < gainProduct c g)

/-- The stored pixel (R141). -/
def correctPixel (p : Pixel) (g : Gains) : Pixel :=
  { r := correct p.r g.r, g := correct p.g g.g, b := correct p.b g.b }

/-- The luma of stored components (R142). -/
def luma (p : Pixel) : Nat := (54 * p.r.toNat + 183 * p.g.toNat + 19 * p.b.toNat) / 256

/-! ### Banks (R143) -/

/-- The LIVE bank. -/
def liveBank (w : WallFeed) : Bank := if w.live then w.bank1 else w.bank0

/-- The LOAD bank: the other one. -/
def loadBank (w : WallFeed) : Bank := if w.live then w.bank0 else w.bank1

def setLoadBank (b : Bank) (w : WallFeed) : WallFeed :=
  if w.live then { w with bank0 := b } else { w with bank1 := b }

/-- The LOAD state EMPTY: luma 0, marks clear, window pointer at the origin (R148; after a freeze the pointer
is a DESIGN CHOICE, log 23). -/
def emptyLoad (w : WallFeed) : WallFeed :=
  { w with
    load := .empty
    luma := 0
    satR := false
    satG := false
    satB := false
    pointerCol := 0
    pointerRow := 0 }

/-- A FILLING load abandoned: the LOAD state becomes EMPTY, the other load fields keep their values (R146, R156,
log 23). -/
def abandonLoad (w : WallFeed) : WallFeed := if w.load = .filling then { w with load := .empty } else w

/-- A load begins: FILLING, with the selected profile (R144). -/
def beginLoad (w : WallFeed) : WallFeed := { emptyLoad w with load := .filling, loadProfile := w.profile }

/-- The wall feed takes raster symbols in SCANNING, SEEKING, JOINING and RUNNING (R143, R156). -/
def takesRaster (s : State) : Bool := isOperating s.station.state

/-! ### Raster symbols (R140, R144 to R146) -/

/-- A line error: a FILLING load is abandoned, and INPUT_ERR is counted at the first of a raster frame
(R146). -/
def lineError (s : State) : State :=
  countIf (!s.wall.errSeen) .inputErr
    (setWall { abandonLoad s.wall with errSeen := true } s)

/-- RASTER_FRAME_START (R140, R144): the raster position and the INPUT_ERR mark start afresh. -/
def rasterFrameStart (s : State) : State :=
  if takesRaster s = false then s
  else
    let w := { s.wall with raster := some { row := none, column := 0 }, errSeen := false }
    if w.frozen then setWall w s
    else match w.load with
      | .empty => setWall (beginLoad w) s
      | .filling => count .inputShort (setWall (beginLoad w) s)
      | .complete => count .inputDrop (setWall w s)

/-- The row that a line marker begins (R140). -/
def nextRow (p : RasterPosition) : Nat :=
  match p.row with
  | none => 0
  | some r => r + 1

/-- A line marker ends a short line, or would begin a row past the last (R140). -/
def markerError (i : Image) (p : RasterPosition) : Bool :=
  (p.row.isSome && decide (p.column < i.rasterColumns)) || decide (i.rasterRows ≤ nextRow p)

/-- LINE_MARKER (R140). Before the first raster frame start it has no position to judge (log 24). -/
def lineMarker (s : State) : State :=
  match takesRaster s, s.wall.raster with
  | true, some p =>
    let s' := if markerError s.image p then lineError s else s
    setWall { s'.wall with raster := some { row := some (nextRow p), column := 0 } } s'
  | _, _ => s

/-- The window pointer advanced: along its row, then to column 0 of the next (R145). -/
def advancePointer (i : Image) (w : WallFeed) : WallFeed :=
  if w.pointerCol + 1 < segmentWidth i then { w with pointerCol := w.pointerCol + 1 }
  else { w with pointerCol := 0, pointerRow := w.pointerRow + 1 }

/-- The pointer stands at the last window pixel (R138, R145). -/
def atLastPixel (i : Image) (w : WallFeed) : Bool :=
  decide (w.pointerCol + 1 = segmentWidth i) && decide (w.pointerRow + 1 = segmentHeight i)

/-- The load is COMPLETE and its luma mean is formed (R142, R145). -/
def completeLoad (i : Image) (w : WallFeed) : WallFeed :=
  { w with load := .complete, luma := w.luma / pixelCount i }

/-- The saturation marks after a pixel (R141). -/
def markClamps (p : Pixel) (g : Gains) (w : WallFeed) : WallFeed :=
  { w with
    satR := w.satR || clamps p.r g.r
    satG := w.satG || clamps p.g g.g
    satB := w.satB || clamps p.b g.b }

/-- How many components clamp for the first time in the load: the GAIN_SAT counts of a pixel (R141). -/
def firstClamps (p : Pixel) (g : Gains) (w : WallFeed) : Nat :=
  (!w.satR && clamps p.r g.r).toNat + (!w.satG && clamps p.g g.g).toNat + (!w.satB && clamps p.b g.b).toNat

/-- The gains of the panel the window pointer stands in, from the load profile (R139, R141). -/
def pointerGains (i : Image) (w : WallFeed) : Gains :=
  gainsOf i w.loadProfile (panelIndex i w.pointerCol w.pointerRow)

/-- A window pixel stored at the pointer, its luma added, the pointer advanced, the load completed at the last
window pixel (R141, R142, R145). -/
def storePixel (i : Image) (p : Pixel) (w : WallFeed) : WallFeed :=
  let stored := correctPixel p (pointerGains i w)
  let w' := setLoadBank (bankWrite (loadBank w) w.pointerCol w.pointerRow stored)
    { markClamps p (pointerGains i w) w with luma := w.luma + luma stored }
  if atLastPixel i w then completeLoad i (advancePointer i w') else advancePointer i w'

/-- A pixel at a raster position with no line error (R145). -/
def takePixel (p : Pixel) (col row : Nat) (s : State) : State :=
  if s.wall.load = .filling ∧ inWindow s.image col row then
    countN .gainSat (firstClamps p (pointerGains s.image s.wall) s.wall)
      (setWall (storePixel s.image p s.wall) s)
  else s

/-- RASTER_PIXEL (R140, R145): the next column of the line in progress, or a line error. Before the first
raster frame start it has no position to judge (log 24). -/
def rasterPixel (p : Pixel) (s : State) : State :=
  match takesRaster s, s.wall.raster with
  | true, some q =>
    let s' := match q.row with
      | none => lineError s
      | some row => if s.image.rasterColumns ≤ q.column then lineError s else takePixel p q.column row s
    setWall { s'.wall with raster := some { q with column := q.column + 1 } } s'
  | _, _ => s

/-- CODE_ERROR: a line error (R140, R146). -/
def codeError (s : State) : State := if takesRaster s then lineError s else s

/-! ### Frame starts and scans (R147, R148, R153) -/

/-- A held mute request is settled at frame start F when its label is before F or with the adoption mark
(R147). -/
def settleMute (e : FrameEvent) (w : WallFeed) : WallFeed :=
  match w.muteRequest with
  | none => w
  | some r =>
    if isBefore r.label e.frame || e.adopted then { w with muted := r.mute, muteRequest := none } else w

/-- The bank decision of a frame start: swap or repeat (R148). -/
def decideBanks (s : State) : State :=
  if s.wall.frozen then s
  else match s.wall.load with
    | .complete =>
      setWall (emptyLoad { s.wall with live := !s.wall.live, liveLuma := s.wall.luma }) s
    | .filling | .empty => count .repeated s

/-- The scan of the current frame begins once k(F) is held, and is owed until then (R153). -/
def beginScan (w : WallFeed) : WallFeed :=
  match w.k with
  | some _ => { w with scan := some w.frame, scanOwed := false }
  | none => { w with scanOwed := true }

/-- A frame start taken by the wall feed (R147, R148, R153). -/
def wallFrame (e : FrameEvent) (s : State) : State :=
  let s' := decideBanks (setWall (settleMute e
    { s.wall with
      frame := e.frame
      taken := e.serial
      k := scaleFor e.serial s.wall.scales
      scales := laterScales e.serial s.wall.scales }) s)
  setWall (beginScan s'.wall) s'

/-- The scan of the current frame has not ended (R153). -/
def scanPending (w : WallFeed) : Bool := w.scan.isSome || w.scanOwed || !w.waiting.isEmpty

/-- WALL_FRAME_START: the next frame start issued is taken, or waits until the scan of the current frame has
ended (R11, R147, R153). -/
def wallFrameStart (s : State) : State :=
  match s.transit.wallFrames with
  | [] => s
  | e :: es =>
    let s' := { s with transit := { s.transit with wallFrames := es } }
    if scanPending s.wall then setWall { s.wall with waiting := s.wall.waiting ++ [e] } s'
    else wallFrame e s'

/-- SCALE_ARRIVAL_WALL: k for a frame. The scan that is owed begins; a scale for a later frame is kept, one
for an earlier frame has no use (R153, R171). -/
def scaleArrivalWall (s : State) : State :=
  match s.transit.wallScales with
  | [] => s
  | m :: ms =>
    let s' := { s with transit := { s.transit with wallScales := ms } }
    if m.serial = s.wall.taken then
      let w := { s.wall with k := some m.k }
      setWall (if w.scanOwed then beginScan w else w) s'
    else if s.wall.taken < m.serial then setWall { s.wall with scales := s.wall.scales ++ [m] } s'
    else s'

/-- SCAN_END: the scan field becomes idle, a run notice that waits is taken, then a frame start that waits
(R153, R154). -/
def scanEnd (s : State) : State :=
  match s.wall.scan with
  | none => s
  | some _ =>
    let w := { s.wall with
      scan := none
      enabled := s.wall.enabled || s.wall.noticeWaits
      noticeWaits := false }
    match w.waiting with
    | [] => setWall w s
    | e :: es => wallFrame e (setWall { w with waiting := es } s)

/-- RUN_NOTICE_WALL: output ENABLED, when the scan in progress has ended (R154, log 26). -/
def runNoticeWall (s : State) : State :=
  match s.transit.runWall with
  | none => s
  | some _ =>
    setWall (if s.wall.scan.isSome then { s.wall with noticeWaits := true } else { s.wall with enabled := true })
      { s with transit := { s.transit with runWall := none } }

/-! ### Wall actions (R150 to R152, R156) -/

/-- WALL FREEZE (R150). -/
def freezeWall (w : WallFeed) : WallFeed := if w.frozen then w else { emptyLoad w with frozen := true }

/-- WALL RUN (R150). -/
def unfreezeWall (w : WallFeed) : WallFeed := { w with frozen := false }

/-- WALL MUTE and WALL UNMUTE set the mute request (R151). -/
def requestMute (mute : Bool) (label : FrameNo) (w : WallFeed) : WallFeed :=
  { w with muteRequest := some { mute := mute, label := label } }

/-- A profile number 0 to 3 of a byte. -/
def profileOfByte (b : Byte) : Option (Fin 4) := if h : b.toNat < 4 then some ⟨b.toNat, h⟩ else none

/-- WALL PROFILE (R152). -/
def takeProfile (b : Byte) (s : State) : State :=
  match profileOfByte b with
  | some p => setWall { s.wall with profile := p } s
  | none => count .argErr s

/-- A wall action taken; a station in SAFE discards it (R150 to R152, R156). -/
def takeWallAction (a : WallAction) (s : State) : State :=
  if s.station.state = .safe then s
  else match a.action with
    | .wallFreeze => setWall (freezeWall s.wall) s
    | .wallRun => setWall (unfreezeWall s.wall) s
    | .wallMute => setWall (requestMute true a.label s.wall) s
    | .wallUnmute => setWall (requestMute false a.label s.wall) s
    | .wallProfile p => takeProfile p s
    | .fade _ _ | .lookHome => s

/-- The oldest wall action on its way is taken when it is of the command's kind (R47). -/
def nextWallAction (kind : CueAction → Bool) (s : State) : State :=
  match s.transit.wallActions with
  | [] => s
  | a :: as =>
    if kind a.action then takeWallAction a { s with transit := { s.transit with wallActions := as } } else s

/-- A WALL PROFILE action, whatever its profile. -/
def isProfileAction : CueAction → Bool
  | .wallProfile _ => true
  | .fade _ _ | .wallFreeze | .wallRun | .wallMute | .wallUnmute | .lookHome => false

/-- A WALL PROFILE request of the look machine (R68, R152). -/
def lookProfile (s : State) : State :=
  match s.transit.lookProfiles with
  | [] => s
  | p :: ps =>
    let s' := { s with transit := { s.transit with lookProfiles := ps } }
    if s.station.state = .safe then s' else takeProfile p s'

/-- WALL_PROFILE: the oldest of its sender (R47, R68, R152). -/
def wallProfile (origin : Origin) (s : State) : State :=
  match origin with
  | .cueList => nextWallAction isProfileAction s
  | .lookMachine => lookProfile s

/-- The demand luma (R155). -/
def demandLuma (w : WallFeed) : Nat :=
  if w.muted then 0
  else if w.frozen then w.liveLuma
  else if w.load = .complete then w.luma
  else w.liveLuma

/-- The wall feed at SAFE entry (R156). -/
def wallAtSafe (w : WallFeed) : WallFeed :=
  { abandonLoad w with
    enabled := false
    scan := none
    scanOwed := false
    waiting := []
    noticeWaits := false }

/-! ### Commands -/

/-- RASTER_FRAME_START (R144). -/
def execRasterFrameStart (s : State) : Out := .next (rasterFrameStart s)

/-- LINE_MARKER (R140). -/
def execLineMarker (s : State) : Out := .next (lineMarker s)

/-- RASTER_PIXEL (R145). -/
def execRasterPixel (p : Pixel) (s : State) : Out := .next (rasterPixel p s)

/-- CODE_ERROR (R146). -/
def execCodeError (s : State) : Out := .next (codeError s)

/-- WALL_FRAME_START (R147, R148, R153). -/
def execWallFrameStart (s : State) : Out := .next (wallFrameStart s)

/-- SCALE_ARRIVAL_WALL (R153). -/
def execScaleArrivalWall (s : State) : Out := .next (scaleArrivalWall s)

/-- SCAN_END (R153). -/
def execScanEnd (s : State) : Out := .next (scanEnd s)

/-- WALL_FREEZE (R150). -/
def execWallFreeze (s : State) : Out := .next (nextWallAction (· == .wallFreeze) s)

/-- WALL_RUN (R150). -/
def execWallRun (s : State) : Out := .next (nextWallAction (· == .wallRun) s)

/-- WALL_MUTE (R151). -/
def execWallMute (s : State) : Out := .next (nextWallAction (· == .wallMute) s)

/-- WALL_UNMUTE (R151). -/
def execWallUnmute (s : State) : Out := .next (nextWallAction (· == .wallUnmute) s)

/-- WALL_PROFILE (R152). -/
def execWallProfile (origin : Origin) (s : State) : Out := .next (wallProfile origin s)

/-- RUN_NOTICE_WALL (R154). -/
def execRunNoticeWall (s : State) : Out := .next (runNoticeWall s)

end Sys2Proof.Machine
end

