-- ==== Sys2Proof/Machine/Budget.lean ====
section
/-! DEFINITION. Chapter 9: the shared supply budget. Peer table, own demand, budget close, scale in force. -/

namespace Sys2Proof.Machine

def setBudget (b : Budget) (s : State) : State := { s with budget := b }

/-! ### The peer table (R161, R162) -/

/-- The later of an entry's announcements (R161). -/
def latestOf (e : PeerEntry) : Announcement := e.second.getD e.first

/-- Two announcements in target order; `a` was stored first, so at exactly half the number space `a` is the
earlier (R161). -/
def inTargetOrder (a b : Announcement) : Announcement × Announcement :=
  if isBefore a.target b.target then (a, b) else (b, a)

/-- The announcements of a present entry after an arriving one (R162). With two held in target order, the
first is the earliest of the three when it is before the arriving one, and it is dropped; otherwise the
arriving one is the earliest, or none is, and it is not stored. -/
def mergeAnnouncement (x a : Announcement) (second : Option Announcement) :
    Announcement × Option Announcement :=
  match second with
  | none =>
    if a.target = x.target then (x, none)
    else ((inTargetOrder a x).1, some (inTargetOrder a x).2)
  | some b =>
    if a.target = x.target then (x, some b)
    else if b.target = x.target then (a, some x)
    else if isBefore a.target x.target then ((inTargetOrder b x).1, some (inTargetOrder b x).2)
    else (a, some b)

/-- An entry after an announcement (R162). -/
def entryAfter (group : Byte) (x : Announcement) (frame : FrameNo) : Option PeerEntry → PeerEntry
  | none => { group := group, first := x, second := none, lastArrival := frame }
  | some e =>
    let m := mergeAnnouncement x e.first e.second
    { group := group, first := m.1, second := m.2, lastArrival := frame }

/-- The closed frame: the target of the last closed record (R159). -/
def closedFrame (b : Budget) : Option FrameNo := b.last.map (·.target)

/-- A target equal to the closed frame or before it (R162). -/
def isDemandLate (target : FrameNo) (b : Budget) : Bool :=
  match closedFrame b with
  | some g => decide (target = g) || isBefore target g
  | none => false

/-- An announcement taken into the entry of its source station, counting DEMAND_LATE (R162). -/
def storeAnnouncement (source : StationNo) (group : Byte) (x : Announcement) (s : State) : State :=
  countIf (isDemandLate x.target s.budget) .demandLate
    (setBudget { s.budget with
      peers := setAt s.budget.peers source.toFin
        (some (entryAfter group x s.budget.frame s.budget.peers[source.toFin])) } s)

/-- A DEMAND routed to the budget unit (R162). -/
def takeDemand (m : Message) (s : State) : State :=
  let f := demandFields m
  storeAnnouncement m.source f.group { target := f.target, x := f.x, s := f.s, clamp := f.clamp } s

/-- The entry's latest target is before G by more than the peer hold (R164). -/
def isAged (peerHold : Nat) (target : FrameNo) (e : PeerEntry) : Bool :=
  isBefore (latestOf e).target target && decide (peerHold < frameDistance (latestOf e).target target)

/-- An entry other than the own one that ageing removes (R164). -/
def isLost (own : StationNo) (peerHold : Nat) (target : FrameNo) (n : Fin 32) (e : Option PeerEntry) : Bool :=
  match e with
  | some e => decide (n ≠ own.toFin) && isAged peerHold target e
  | none => false

/-- The ageing of the close for G, counting PEER_LOST for each entry removed (R164). -/
def agePeers (target : FrameNo) (s : State) : State :=
  let lost := fun n : Fin 32 => isLost s.station.number s.image.peerHold target n s.budget.peers[n]
  countN .peerLost ((List.finRange 32).countP lost)
    (setBudget { s.budget with
      peers := Vector.ofFn fun n => if lost n then none else s.budget.peers[n] } s)

/-! ### Own demand (R165, R166) -/

/-- Division rounded up. -/
def ceilDiv (a b : Nat) : Nat := (a + b - 1) / b

/-- A channel's demand at a forecast level: ceil(level × rated load / 65535) (R165). -/
def channelDemand (level : Nat) (rated : Byte) : Nat := ceilDiv (level * rated.toNat) 65535

/-- The wall demand: ceil(demand luma × wall full load / 1023) (R165). -/
def wallDemand (demandLuma wallFullLoad : Nat) : Nat := ceilDiv (demandLuma * wallFullLoad) 1023

/-- A channel is fixed: PINNED, UNSCALED, or SCALED and protected while protection is in force (R165). -/
def isFixed (s : State) (c : Channel) : Bool :=
  match s.image.channels[c].cls with
  | .pinned | .unscaled => true
  | .scaled => protectedInForce s.protection c

/-- A channel's demand for G (R165). -/
def demandOf (s : State) (target : FrameNo) (c : Channel) : Nat :=
  channelDemand (forecastLevel s target c) s.image.channels[c].rated

/-- The sum of a figure over the 128 channels that satisfy `p`. -/
def sumChannels (p : Channel → Bool) (f : Channel → Nat) : Nat :=
  ((List.finRange 128).map fun c => if p c then f c else 0).sum

/-- Raw X_own for G (R165). -/
def rawFixed (s : State) (target : FrameNo) : Nat := sumChannels (isFixed s) (demandOf s target)

/-- Raw S_own for G (R165). -/
def rawScalable (s : State) (target : FrameNo) : Nat :=
  sumChannels (fun c => !isFixed s c) (demandOf s target) +
    wallDemand (demandLuma s.wall) s.image.wallFullLoad

/-- The own announcement for G, each figure clamped at 65535 with the CLAMP flag (R165, R166). -/
def ownAnnouncement (s : State) (target : FrameNo) : Announcement :=
  let x := rawFixed s target
  let y := rawScalable s target
  { target := target
    x := BitVec.ofNat 16 (min 65535 x)
    s := BitVec.ofNat 16 (min 65535 y)
    clamp := decide (65535 < x) || decide (65535 < y) }

/-- The own demand for the current frame + 2 generated: placed in the own entry, then as a DEMAND in the
transmit queue (R165, R166). -/
def generateDemand (s : State) : State :=
  let a := ownAnnouncement s (s.budget.frame + 2)
  placeDemand s.image.group a (storeAnnouncement s.station.number s.image.group a s)

/-! ### The budget close (R167 to R170) -/

inductive SelectCase where
  | exact | stale | ahead
deriving DecidableEq, Repr

/-- The announcement an entry gives at the close for G (R167). -/
def selectAnnouncement (target : FrameNo) (e : PeerEntry) : SelectCase × Announcement :=
  match e.second with
  | none =>
    if e.first.target = target then (.exact, e.first)
    else if isBefore e.first.target target then (.stale, e.first)
    else (.ahead, e.first)
  | some b =>
    if e.first.target = target then (.exact, e.first)
    else if b.target = target then (.exact, b)
    else if isBefore b.target target then (.stale, b)
    else if isBefore e.first.target target then (.stale, e.first)
    else (.ahead, e.first)

/-- The present entries of the own supply group, in station order (R167). -/
def groupEntries (s : State) : List PeerEntry :=
  (s.budget.peers.toList.filterMap id).filter fun e => e.group == s.image.group

/-- What the entries of the group give at the close for G (R167). -/
def takenAnnouncements (s : State) (target : FrameNo) : List (SelectCase × Announcement) :=
  (groupEntries s).map (selectAnnouncement target)

/-- k_target and the case flags from the sums (R168). -/
def closeFactor (limitC kMin x y : Nat) : Nat × BudgetFlags :=
  if x + y ≤ limitC then (32768, { noFlags with full := true })
  else if limitC ≤ x then (kMin, { noFlags with overLimit := true })
  else
    let q := (limitC - x) * 32768 / y
    (max q kMin, { noFlags with floored := decide (q < kMin) })

/-- The factor: a fall at once, a rise by at most one rise step from the base (R169). -/
def slewFactor (kTarget base riseStep : Nat) : Nat := min kTarget (base + riseStep)

/-- The budget record closed for G (R167 to R170). -/
def closeRecord (s : State) (target : FrameNo) : BudgetRecord :=
  let taken := takenAnnouncements s target
  let x := (taken.map fun t => t.2.x.toNat).sum
  let y := (taken.map fun t => t.2.s.toNat).sum
  let f := closeFactor s.image.limitC s.image.kMin x y
  { target := target
    x := x
    s := y
    counted := taken.length
    stale := taken.countP fun t => t.1 == .stale
    ahead := taken.countP fun t => t.1 == .ahead
    kTarget := f.1
    k := slewFactor f.1 s.budget.scale.k s.image.riseStep
    flags := { f.2 with clamped := taken.any fun t => t.2.clamp } }

/-- The budget closed for the current frame + 1: the table aged, then the record formed (R164, R167 to
R170). -/
def closeBudget (s : State) : State :=
  let s' := agePeers (s.budget.frame + 1) s
  setBudget { s'.budget with last := some (closeRecord s' (s'.budget.frame + 1)) } s'

/-- Steps 3 and 4 of a frame start (R160). -/
def generateAndClose (s : State) : State := closeBudget (generateDemand s)

/-! ### The scale in force (R171, R172) -/

/-- The scale in force for F: the last closed record's when its target is F, else the held one labelled F
(R171). -/
def settledScale (frame : FrameNo) (b : Budget) : Scale :=
  match b.last with
  | some r =>
    if r.target = frame then { label := frame, k := r.k, kTarget := r.kTarget, flags := r.flags }
    else { b.scale with label := frame }
  | none => { b.scale with label := frame }

/-- Steps 1 and 2 of a frame start: the current frame, the scale in force with the OVER indication, and k(F)
handed to the fade engine and the wall feed (R160, R171, R172). -/
def settleScale (e : FrameEvent) (s : State) : State :=
  let scale := settledScale e.frame s.budget
  let m : ScaleMessage := { label := e.frame, k := scale.k, serial := e.serial }
  { s with
    budget := { s.budget with
      frame := e.frame
      taken := e.serial
      scale := scale
      overIndication := scale.flags.overLimit }
    transit := { s.transit with
      fadeScales := s.transit.fadeScales ++ [m]
      wallScales := s.transit.wallScales ++ [m] } }

/-- A frame start taken by the budget unit (R160). -/
def budgetFrame (e : FrameEvent) (s : State) : State :=
  if s.budget.joined then generateAndClose (settleScale e s) else settleScale e s

/-- BUDGET_FRAME_START: the next frame start issued is taken (R11, R160). -/
def budgetFrameStart (s : State) : State :=
  match s.transit.budgetFrames with
  | [] => s
  | e :: es => budgetFrame e { s with transit := { s.transit with budgetFrames := es } }

/-- JOIN_NOTICE: joined becomes yes; when frame start F_j has been taken already, the unit generates and closes
at once (R174). -/
def joinNotice (s : State) : State :=
  match s.transit.joinNotice with
  | none => s
  | some n =>
    let s' := setBudget { s.budget with joined := true }
      { s with transit := { s.transit with joinNotice := none } }
    if n.serial ≤ s.budget.taken then generateAndClose s' else s'

/-- The budget unit at SAFE entry (R175). -/
def budgetAtSafe (b : Budget) : Budget := { b with overIndication := false }

/-! ### Commands -/

/-- DEMAND (R162). -/
def execDemand (m : Message) (s : State) : Out := .next (receive (kindCode .demand) m (takeDemand m) s)

/-- BUDGET_FRAME_START (R160). -/
def execBudgetFrameStart (s : State) : Out := .next (budgetFrameStart s)

/-- JOIN_NOTICE (R174). -/
def execJoinNotice (s : State) : Out := .next (joinNotice s)

end Sys2Proof.Machine
end

