-- ==== Sys2Proof/Machine/Conditions.lean ====
section
/-! DEFINITION. Chapter 4: the condition set, the condition inputs and the look machine. -/

namespace Sys2Proof.Machine

/-! ### The condition set (R52 to R54) -/

/-- The stamp counter increased by one, stopping at its maximum (R52). -/
def nextStamp (stamps : BitVec 32) : BitVec 32 := if stamps = 4294967295 then stamps else stamps + 1

/-- An action of a COND or a pin on an entry: a value change stamps the entry and notifies the look machine, a
touch takes the source alone (R53). -/
def actOnCondition (c : ConditionNo) (v : Bool) (source : StationNo) (s : State) : State :=
  let e := s.conditions.entries[c]
  if e.value = v then
    { s with conditions := { s.conditions with
        entries := setAt s.conditions.entries c { e with source := some source } } }
  else
    { s with
      conditions := { s.conditions with
        entries := setAt s.conditions.entries c
          { value := v, stamp := nextStamp s.conditions.stamps, source := some source }
        stamps := nextStamp s.conditions.stamps }
      transit := { s.transit with condNotices := s.transit.condNotices ++
          [{ condition := c, value := e.value, stamp := e.stamp }] } }

/-- A condition number 0 to 23 of a byte. -/
def conditionOfByte (b : Byte) : Option ConditionNo :=
  if h : b.toNat < 24 then some ⟨b.toNat, h⟩ else none

/-- A COND routed to the condition set (R54). -/
def takeCond (m : Message) (s : State) : State :=
  match conditionOfByte (condNumber m), (condValueCode m).toNat with
  | some c, 0 => actOnCondition c false m.source s
  | some c, 1 => actOnCondition c true m.source s
  | _, _ => count .argErr s

/-! ### Condition inputs (R55 to R58) -/

/-- An edge at a debouncer (R55). -/
def debouncerEdge (level : Bool) (now : Nanos) (d : Debouncer) : Debouncer :=
  if level = d.level then { d with candidate := none }
  else { d with candidate := some { level := level, since := now } }

/-- The debouncer as it starts: a pin already high forms a candidate (R55). -/
def debouncerStart (high : Bool) (now : Nanos) : Debouncer where
  level := false
  candidate := if high then some { level := true, since := now } else none

/-- CIN_EDGE: the pin takes the level; a debouncer that runs forms, replaces or drops its candidate (R55). -/
def cinEdge (pin : Fin 4) (level : Bool) (now : Nanos) (s : State) : State :=
  let bit : BitVec 4 := BitVec.twoPow 4 pin.val
  let s' := { s with pins := { s.pins with
      cin := if level then s.pins.cin ||| bit else s.pins.cin &&& ~~~bit } }
  if isOperating s.station.state then
    { s' with conditions := { s.conditions with
        debouncers := setAt s.conditions.debouncers pin
          (debouncerEdge level now s.conditions.debouncers[pin]) } }
  else s'

/-- A pin change: the mapped entry is acted on with the own station as source, and a COND is placed in the
transmit queue, for a touch as well (R57). -/
def pinChange (c : ConditionNo) (level : Bool) (s : State) : State :=
  placeCond c level (actOnCondition c level s.station.number s)

/-- DEBOUNCED_CHANGE: a candidate has stood for 1 ms; it moves the debounced level, and is a pin change when
the pin is mapped and the run notice has been taken in RUNNING (R55, R56). -/
def debouncedChange (pin : Fin 4) (s : State) : State :=
  if isOperating s.station.state = false then s
  else
    match s.conditions.debouncers[pin].candidate with
    | none => s
    | some c =>
      let s' := { s with conditions := { s.conditions with
          debouncers := setAt s.conditions.debouncers pin { level := c.level, candidate := none } } }
      match s.image.pinMap[pin] with
      | none => s'
      | some n => if s.station.state = .running ∧ s.conditions.sampled then pinChange n c.level s' else s'

/-- The sampling of one pin at the run notice: a mapped pin found high makes a pin change (R58). -/
def samplePin (pin : Fin 4) (s : State) : State :=
  match s.image.pinMap[pin] with
  | some n => if s.conditions.debouncers[pin].level then pinChange n true s else s
  | none => s

/-- The pins sampled in the order CIN0 to CIN3 (R58). -/
def samplePins (s : State) : State := samplePin 3 (samplePin 2 (samplePin 1 (samplePin 0 s)))

/-! ### The look machine (R62 to R70) -/

/-- Entering a look (R68). -/
def enterLook (l : LookNo) (cause : EntryCause) (s : State) : State :=
  let r := s.image.looks[l]
  count .lookEntry
    { s with
      look := { s.look with
        current := some l
        entered := true
        dwell := r.dwell
        entryFrame := s.look.frame
        entryCause := cause }
      transit := { s.transit with
        lookFades := match r.preset with
          | some p => s.transit.lookFades ++
              [{ preset := p, frame := s.look.frame + 1, total := r.frames, airSafe := r.airSafe,
                 source := .look l }]
          | none => s.transit.lookFades
        lookProfiles := match r.profile with
          | some p => s.transit.lookProfiles ++ [p]
          | none => s.transit.lookProfiles } }

/-- The value and the change stamp of a condition as the look machine holds them: those before the oldest change
whose notice it has not yet taken, else the entry's (R63, R64, R67, log 37). -/
def heldCondition (s : State) (c : ConditionNo) : Bool × BitVec 32 :=
  match s.transit.condNotices.find? (fun n => n.condition == c) with
  | some n => (n.value, n.stamp)
  | none => (s.conditions.entries[c].value, s.conditions.entries[c].stamp)

/-- An arc eligible from the current look (R65). -/
def arcEligible (s : State) (a : Arc) : Bool :=
  (match a.source with
    | some l => s.look.current == some l
    | none => s.look.current != some a.target)
  && ((heldCondition s a.condition).1 == a.required)

/-- The change stamp of an arc's condition (R66). -/
def arcStamp (s : State) (a : Arc) : Nat := (heldCondition s a.condition).2.toNat

/-- The eligible arc with the smallest change stamp, the lower index among equal stamps; arcs are numbered
from `i` (R66). -/
def selectArc (s : State) : Nat → List Arc → Option (Nat × Arc)
  | _, [] => none
  | i, a :: as =>
    if arcEligible s a then
      match selectArc s (i + 1) as with
      | some (j, b) => if arcStamp s b < arcStamp s a then some (j, b) else some (i, a)
      | none => some (i, a)
    else selectArc s (i + 1) as

/-- A transition considered (R65). -/
def considerTransition (s : State) : State :=
  match selectArc s 0 s.image.arcs with
  | some (i, a) => enterLook a.target (.arc i) s
  | none => s

/-- The first entry, into the initial look with cause START (R69). -/
def firstEntry (s : State) : State := enterLook s.image.initialLook .start s

/-- A frame start taken by the look machine (R63, R69). -/
def lookFrame (e : FrameEvent) (s : State) : State :=
  let s' := { s with look := { s.look with frame := e.frame, taken := e.serial } }
  if s.look.started = false then s'
  else if s.look.entered = false then
    (if s.look.runNotice = some e.serial then firstEntry s' else s')
  else if s.look.dwell = 0 then s'
  else
    let s'' := { s' with look := { s'.look with dwell := s.look.dwell - 1 } }
    if s.look.dwell = 1 then considerTransition s'' else s''

/-- LOOK_FRAME_START: the next frame start issued is taken (R11, R63). -/
def lookFrameStart (s : State) : State :=
  match s.transit.lookFrames with
  | [] => s
  | e :: es => lookFrame e { s with transit := { s.transit with lookFrames := es } }

/-- The next frame start brings the dwell to 0 (R63). -/
def dwellExpires (s : State) : Bool :=
  (!s.transit.lookFrames.isEmpty) && s.look.started && s.look.entered && (s.look.dwell == 1)

/-- The look machine runs: started, and not stopped at SAFE entry (R71). -/
def lookRuns (s : State) : Bool := s.look.started && (s.station.state != .safe)

/-- CONDITION_CHANGE_NOTICE: a transition is considered when the machine is entered with dwell 0 (R64). -/
def conditionChangeNotice (s : State) : State :=
  match s.transit.condNotices with
  | [] => s
  | _ :: ns =>
    let s' := { s with transit := { s.transit with condNotices := ns } }
    if lookRuns s ∧ s.look.entered ∧ s.look.dwell = 0 then considerTransition s' else s'

/-- The conditions as they stand are in place for the look machine, whatever notices it has still to take: the
sampling of the pins comes before the first entry (R58, log 37). -/
def holdConditions (s : State) : State :=
  { s with transit := { s.transit with
      condNotices := s.transit.condNotices.map fun n =>
        { n with value := s.conditions.entries[n.condition].value
                 stamp := s.conditions.entries[n.condition].stamp } } }

/-- RUN_NOTICE_LOOK: the pins are sampled; the first entry is made at once when frame start F_r has been
taken already and no entry has been made (R58, R69). -/
def runNoticeLook (s : State) : State :=
  match s.transit.runLook with
  | none => s
  | some n =>
    let s' := holdConditions <| samplePins { s with
      transit := { s.transit with runLook := none }
      conditions := { s.conditions with sampled := true }
      look := { s.look with runNotice := some n.serial } }
    if n.serial ≤ s.look.taken ∧ s.look.started ∧ s.look.entered = false then firstEntry s' else s'

/-- LOOK_HOME: the initial look is entered at once with cause HOME; a stopped machine discards the action
(R70, R71). A run notice that is still waiting is taken first (R70; DEDUCED, log 47). -/
def lookHome (s : State) : State :=
  match s.transit.homes with
  | [] => s
  | _ :: hs =>
    let s' := { s with transit := { s.transit with homes := hs } }
    if lookRuns s then enterLook s.image.initialLook .home (runNoticeLook s') else s'

/-! ### Commands -/

/-- COND (R54). -/
def execCond (m : Message) (s : State) : Out := .next (receive (kindCode .cond) m (takeCond m) s)

/-- CIN_EDGE (R55). -/
def execCinEdge (pin : Fin 4) (level : Bool) (now : Nanos) (s : State) : Out := .next (cinEdge pin level now s)

/-- DEBOUNCED_CHANGE (R56). -/
def execDebouncedChange (pin : Fin 4) (s : State) : Out := .next (debouncedChange pin s)

/-- RUN_NOTICE_LOOK (R58, R69). -/
def execRunNoticeLook (s : State) : Out := .next (runNoticeLook s)

/-- LOOK_FRAME_START (R63). -/
def execLookFrameStart (s : State) : Out := .next (lookFrameStart s)

/-- DWELL_EXPIRY (R63): the frame start that brings the dwell to 0. -/
def execDwellExpiry (s : State) : Out := .next (if dwellExpires s then lookFrameStart s else s)

/-- CONDITION_CHANGE_NOTICE (R64). -/
def execConditionChangeNotice (s : State) : Out := .next (conditionChangeNotice s)

/-- LOOK_HOME (R70). -/
def execLookHome (s : State) : Out := .next (lookHome s)

end Sys2Proof.Machine
end

