-- ==== Sys2Proof/Machine/CueList.lean ====
section
/-! DEFINITION. Chapter 3: pending cues. -/

namespace Sys2Proof.Machine

/-- The action of an action code with the argument bytes it uses; none for CANCEL and for codes 0 and 9 to
255 (R36). -/
def cueAction (f : TakeFields) : Option CueAction :=
  match f.action.toNat with
  | 1 => some (.fade f.arg f.frames)
  | 2 => some .wallFreeze
  | 3 => some .wallRun
  | 4 => some .wallMute
  | 5 => some .wallUnmute
  | 6 => some (.wallProfile f.arg)
  | 7 => some .lookHome
  | _ => none

/-- The action code of an action (R36). -/
def cueActionCode : CueAction → Byte
  | .fade _ _ => 1
  | .wallFreeze => 2
  | .wallRun => 3
  | .wallMute => 4
  | .wallUnmute => 5
  | .wallProfile _ => 6
  | .lookHome => 7

/-- The class of a cue with its effective target (R37). -/
inductive CueClass where
  | pending (target : FrameNo)
  | late (target : FrameNo)
  | stale
deriving DecidableEq, Repr

/-- Classification of a target against the current frame (R37). The distance from the target to the current
frame is 0 when they are equal and d when the target is before the current frame by d. -/
def classifyCue (lateWindow : Nat) (target current : FrameNo) : CueClass :=
  if isAfter target current then .pending target
  else if frameDistance target current ≤ lateWindow then .late (current + 1)
  else .stale

/-- A record placed in the list: after every record whose offset is not greater (R35). -/
def placeRecord (current : FrameNo) (r : CueRecord) : List CueRecord → List CueRecord
  | [] => [r]
  | x :: xs =>
    if frameOffset x.target current ≤ frameOffset r.target current then x :: placeRecord current r xs
    else r :: x :: xs

/-- The list sorted again by offset, records with equal targets keeping their order (R45). -/
def resortRecords (current : FrameNo) (rs : List CueRecord) : List CueRecord :=
  rs.foldl (fun acc r => placeRecord current r acc) []

/-- The record of an identity (R34). -/
def findCue (c : CueId) (rs : List CueRecord) : Option CueRecord := rs.find? fun r => r.ident == c

/-- A record replaced in its place. -/
def replaceInPlace (r : CueRecord) : List CueRecord → List CueRecord
  | [] => []
  | x :: xs => if x.ident = r.ident then r :: xs else x :: replaceInPlace r xs

/-- A record put into the list: it keeps its place when the old record had the same target, and is otherwise
placed anew (R39, R40). -/
def putRecord (current : FrameNo) (r : CueRecord) (rs : List CueRecord) : List CueRecord :=
  match findCue r.ident rs with
  | some old =>
    if old.target = r.target then replaceInPlace r rs
    else placeRecord current r (removeFirst (fun x => x.ident == r.ident) rs)
  | none => placeRecord current r rs

def setRecords (rs : List CueRecord) (s : State) : State := { s with cues := { s.cues with records := rs } }

/-- A PENDING or LATE cue at its effective target: replaces, is placed, or finds the list full (R39, R40). -/
def acceptCue (r : CueRecord) (s : State) : State :=
  match findCue r.ident s.cues.records with
  | some _ =>
    countIf r.late .cueLate (count .cueReplaced (setRecords (putRecord s.cues.frame r s.cues.records) s))
  | none =>
    if 16 ≤ s.cues.records.length then count .cueOverflow s
    else countIf r.late .cueLate (setRecords (putRecord s.cues.frame r s.cues.records) s)

/-- A CANCEL removes the record of its identity or counts CANCEL_MISS (R42). -/
def cancelCue (c : CueId) (s : State) : State :=
  match findCue c s.cues.records with
  | some _ => setRecords (removeFirst (fun x => x.ident == c) s.cues.records) s
  | none => count .cancelMiss s

/-- A TAKE routed to the cue list (R36 to R42). -/
def takeCue (m : Message) (s : State) : State :=
  let f := takeFields m
  let ident : CueId := { source := m.source, id := f.cueId }
  if f.action = cancelCode then cancelCue ident s
  else
    match cueAction f with
    | none => count .argErr s
    | some action =>
      match classifyCue s.image.lateWindow f.target s.cues.frame with
      | .stale => count .cueStale s
      | .pending target =>
        acceptCue { ident := ident, target := target, action := action, airSafe := f.airSafe, late := false } s
      | .late target =>
        acceptCue { ident := ident, target := target, action := action, airSafe := f.airSafe, late := true } s

/-! ### Frame starts and dispatch (R44 to R48) -/

/-- A record behind by more than the late window (R44). -/
def isStale (lateWindow : Nat) (current : FrameNo) (r : CueRecord) : Bool :=
  decide (frameOffset r.target current < -(lateWindow : Int))

/-- A record due: its offset is from minus the late window to 0 (R44). -/
def isDue (lateWindow : Nat) (current : FrameNo) (r : CueRecord) : Bool :=
  decide (-(lateWindow : Int) ≤ frameOffset r.target current) && decide (frameOffset r.target current ≤ 0)

/-- A due record that counts CUE_LATE when taken: behind, with its late flag clear (R44). -/
def becomesLate (current : FrameNo) (r : CueRecord) : Bool :=
  decide (frameOffset r.target current < 0) && !r.late

/-- The action of a taken record sent to its owner, labelled with the frame (R46, R47). -/
def dispatchCue (label : FrameNo) (r : CueRecord) (t : Transit) : Transit :=
  match r.action with
  | .fade preset frames =>
    { t with cueFades := t.cueFades ++
        [{ preset := preset, frame := label + 1, total := frames, airSafe := r.airSafe, source := .cue r.ident }] }
  | .lookHome => { t with homes := t.homes ++ [{ label := label, ident := r.ident }] }
  | .wallFreeze | .wallRun | .wallMute | .wallUnmute | .wallProfile _ =>
    { t with wallActions := t.wallActions ++ [{ action := r.action, label := label, ident := r.ident }] }

/-- The due records taken and dispatched in list order, labelled with the current frame (R44, R46). -/
def takeDue (s : State) : State :=
  let due := s.cues.records.filter (isDue s.image.lateWindow s.cues.frame)
  countN .cueLate (due.countP (becomesLate s.cues.frame))
    { s with
      cues := { s.cues with
        records := s.cues.records.filter fun r => !isDue s.image.lateWindow s.cues.frame r }
      transit := due.foldl (fun t r => dispatchCue s.cues.frame r t) s.transit }

/-- A record whose offset the adoption of `new` in place of `old` would carry past +8,388,607: it is before the
adopted frame, whatever its offset from `new` reads as (R45; at half the number space, log 38). -/
def outrunsOffsets (old new : FrameNo) (r : CueRecord) : Bool :=
  decide (8388607 < frameOffset r.target old - frameOffset new old)

/-- At an adoption, the records carried past +8,388,607 removed, counting CUE_STALE for each (R45). -/
def removeOutrun (e : FrameEvent) (s : State) : State :=
  if e.adopted then
    countN .cueStale (s.cues.records.countP (outrunsOffsets s.cues.frame e.frame))
      (setRecords (s.cues.records.filter fun r => !outrunsOffsets s.cues.frame e.frame r) s)
  else s

/-- Stale records removed, counting CUE_STALE for each (R44). -/
def removeStale (s : State) : State :=
  countN .cueStale (s.cues.records.countP (isStale s.image.lateWindow s.cues.frame))
    (setRecords (s.cues.records.filter fun r => !isStale s.image.lateWindow s.cues.frame r) s)

/-- The current frame set and, with the adoption mark, the list sorted again (R44, R45). -/
def ageRecords (e : FrameEvent) (s : State) : State :=
  { s with cues := { s.cues with
      frame := e.frame
      taken := e.serial
      records := if e.adopted then resortRecords e.frame s.cues.records else s.cues.records } }

/-- A frame start taken by the cue list (R44, R45). -/
def cueFrame (e : FrameEvent) (s : State) : State :=
  let s' := removeStale (ageRecords e (removeOutrun e s))
  match s'.cues.mode with
  | .take => takeDue s'
  | .hold => s'

/-- CUE_LIST_FRAME_START: the next frame start issued is taken (R11, R44). -/
def cueListFrameStart (s : State) : State :=
  match s.transit.cueFrames with
  | [] => s
  | e :: es => cueFrame e { s with transit := { s.transit with cueFrames := es } }

/-- RUN_NOTICE_CUE_LIST: the mode becomes TAKE; when frame start F_r has been taken already, the records due
at the current frame are taken at once (R48). -/
def runNoticeCueList (s : State) : State :=
  match s.transit.runCue with
  | none => s
  | some n =>
    let s' := { s with
      cues := { s.cues with mode := .take }
      transit := { s.transit with runCue := none } }
    if n.serial ≤ s.cues.taken then takeDue s' else s'

/-! ### Commands -/

/-- TAKE (R37): a TAKE message whose action is not CANCEL. -/
def execTake (m : Message) (s : State) : Out :=
  .next (if (takeFields m).action = cancelCode then s else receive (kindCode .take) m (takeCue m) s)

/-- CANCEL (R42): a TAKE message with action CANCEL. -/
def execCancel (m : Message) (s : State) : Out :=
  .next (if (takeFields m).action = cancelCode then receive (kindCode .take) m (takeCue m) s else s)

/-- CUE_LIST_FRAME_START (R44, R45). -/
def execCueListFrameStart (s : State) : Out := .next (cueListFrameStart s)

/-- RUN_NOTICE_CUE_LIST (R48). -/
def execRunNoticeCueList (s : State) : Out := .next (runNoticeCueList s)

end Sys2Proof.Machine
end

