-- ==== Sys2Proof/Machine/ConfigStore.lean ====
section
/-! DEFINITION. The configuration store: its layout, the consistency checks and the image read from it (R181,
R182, R197). -/

namespace Sys2Proof.Machine

/-! ### Layout (R197) -/

/-- A one-byte field of the store. -/
def storeByte (m : Memory) (a : Nat) : Nat := (memRead m a).toNat

/-- Address of channel record c (R197). -/
def channelAddress (c : Nat) : Nat := 64 + 4 * c

/-- Address of look record l (R197). -/
def lookAddress (l : Nat) : Nat := 580 + 7 * l

/-- Address of arc i (R197). -/
def arcAddress (i : Nat) : Nat := 638 + 4 * i

/-- Address of gain triple t of a profile (R197). -/
def gainAddress (profile t : Nat) : Nat := 1024 + 864 * profile + 6 * t

/-- Address of the protect byte of a region (R197). -/
def protectAddress (region : Nat) : Nat := 8182 + region

/-- The check value the store holds (R181). -/
def storedCheck (m : Memory) : Nat := memField m 8190 2

/-- The check of R20 over bytes 0 to 8189 in address order (R181). -/
def computedCheck (m : Memory) : Nat := (checkValue (memBytes m 0 8190)).toNat

/-- Step 1 of the judgement: the check value agrees (R181). -/
def storeCheckAgrees (m : Memory) : Bool := computedCheck m == storedCheck m

/-! ### Consistency checks (R182) -/

/-- A figure lies in a range. -/
def within (low high v : Nat) : Bool := decide (low ≤ v) && decide (v ≤ high)

/-- A code below `n`, or 255 for none. -/
def belowOrNone (n v : Nat) : Bool := decide (v < n) || decide (v = 255)

/-- Check 1: the nominal period (R3, R182). -/
def checkPeriod (m : Memory) : Bool := within 10000 50000 (memField m 11 2)

/-- Check 2: seek frames and join frames (R182). -/
def checkFrames (m : Memory) : Bool := within 1 255 (storeByte m 13) && within 2 15 (storeByte m 14)

/-- Check 3: the late window (R182). -/
def checkLateWindow (m : Memory) : Bool := within 0 15 (storeByte m 10)

/-- Check 4: the budget figures (R159, R182). -/
def checkBudget (m : Memory) : Bool :=
  within 1 65535 (memField m 1 2) && within 0 32768 (memField m 3 2) && within 1 32768 (memField m 5 2) &&
  within 1 255 (storeByte m 9)

/-- Check 5: the channel classes (R182). -/
def checkClasses (m : Memory) : Bool :=
  (List.range 128).all fun c => decide (storeByte m (channelAddress c) ≤ 2)

/-- Check 6: the start-up preset (R182). -/
def checkStartPreset (m : Memory) : Bool := belowOrNone 64 (storeByte m 16)

/-- Check 7: the window (R138, R182). -/
def checkWindow (m : Memory) : Bool :=
  let columns := memField m 19 2
  let rows := memField m 21 2
  let cs := memField m 23 2
  let ce := memField m 25 2
  let rs := memField m 27 2
  let re := memField m 29 2
  within 1 8192 columns && within 1 4096 rows && decide (cs ≤ ce) && decide (ce < columns) &&
  decide (rs ≤ re) && decide (re < rows) && decide (ce + 1 - cs ≤ 1024) && decide (re + 1 - rs ≤ 576)

/-- Look l is in use. -/
def lookInUse (m : Memory) (l : Nat) : Bool := decide (l < 8) && (storeByte m (lookAddress l) == 1)

/-- A look record as R61 asks: in-use byte 0 or 1; in use, its dwell, preset, profile and air-safe byte. -/
def checkLook (m : Memory) (l : Nat) : Bool :=
  let a := lookAddress l
  decide (storeByte m a ≤ 1) &&
  (!lookInUse m l ||
    (within 1 255 (storeByte m (a + 6)) && belowOrNone 64 (storeByte m (a + 1)) &&
     belowOrNone 4 (storeByte m (a + 4)) && decide (storeByte m (a + 5) ≤ 1)))

/-- The arc count of the store. -/
def arcCount (m : Memory) : Nat := storeByte m 637

/-- An arc as R61 asks. -/
def checkArc (m : Memory) (i : Nat) : Bool :=
  let source := storeByte m (arcAddress i)
  let target := storeByte m (arcAddress i + 1)
  lookInUse m target && (decide (source = 8) || lookInUse m source) && decide (source ≠ target) &&
  decide (storeByte m (arcAddress i + 2) < 24) && decide (storeByte m (arcAddress i + 3) ≤ 1)

/-- At most 3 arcs enter look l (R61). -/
def checkEntering (m : Memory) (l : Nat) : Bool :=
  decide (((List.range (arcCount m)).countP fun i => storeByte m (arcAddress i + 1) == l) ≤ 3)

/-- Check 8: looks, arcs and pin map (R61, R182). An initial look in use makes at least one in use. -/
def checkLooks (m : Memory) : Bool :=
  lookInUse m (storeByte m 636) && (List.range 8).all (checkLook m) && decide (arcCount m ≤ 24) &&
  (List.range (arcCount m)).all (checkArc m) && (List.range 8).all (checkEntering m) &&
  (List.range 4).all fun p => belowOrNone 24 (storeByte m (576 + p))

/-- Check 9: protect at start (R182). -/
def checkProtect (m : Memory) : Bool := decide (storeByte m 15 ≤ 1)

/-- The checks with their numbers, in order (R182). -/
def consistencyChecks (m : Memory) : List (Nat × Bool) :=
  [(1, checkPeriod m), (2, checkFrames m), (3, checkLateWindow m), (4, checkBudget m), (5, checkClasses m),
   (6, checkStartPreset m), (7, checkWindow m), (8, checkLooks m), (9, checkProtect m)]

/-- The number of the first check that fails (R181, R182). -/
def firstFailedCheck (m : Memory) : Option Nat :=
  ((consistencyChecks m).find? fun c => !c.2).map (·.1)

/-! ### The image (R181, R197) -/

/-- A byte field that may be none (R194). -/
def byteOrNone (m : Memory) (a : Nat) : Option Byte :=
  if memRead m a = noneByte then none else some (memRead m a)

/-- A look number, taken modulo 8; a checked field holds 0 to 7. -/
def lookOfNat (n : Nat) : LookNo := ⟨n % 8, Nat.mod_lt n (by decide)⟩

/-- A condition number, none at 24 and above; a checked field holds 0 to 23 or 255. -/
def conditionOfNat (n : Nat) : Option ConditionNo := if h : n < 24 then some ⟨n, h⟩ else none

/-- A channel record (R74, R197). -/
def readChannel (m : Memory) (c : Nat) : ChannelConfig where
  cls := match storeByte m (channelAddress c) with
    | 0 => .scaled
    | 1 => .unscaled
    | _ => .pinned
  rated := memRead m (channelAddress c + 1)
  pinned := BitVec.ofNat 16 (memField m (channelAddress c + 2) 2)

/-- A look record; the fields of a look that is not in use are not read (R59, R197). -/
def readLook (m : Memory) (l : Nat) : LookConfig :=
  let a := lookAddress l
  if lookInUse m l then
    { inUse := true
      preset := byteOrNone m (a + 1)
      frames := BitVec.ofNat 16 (memField m (a + 2) 2)
      profile := byteOrNone m (a + 4)
      airSafe := storeByte m (a + 5) == 1
      dwell := storeByte m (a + 6) }
  else unusedLook

/-- An arc; from-state 8 is ANY (R60, R194, R197). -/
def readArc (m : Memory) (i : Nat) : Arc where
  source := if storeByte m (arcAddress i) = 8 then none else some (lookOfNat (storeByte m (arcAddress i)))
  target := lookOfNat (storeByte m (arcAddress i + 1))
  condition := (conditionOfNat (storeByte m (arcAddress i + 2))).getD 0
  required := storeByte m (arcAddress i + 3) == 1

/-- A gain triple (R139, R197). -/
def readGains (m : Memory) (profile t : Nat) : Gains where
  r := BitVec.ofNat 16 (memField m (gainAddress profile t) 2)
  g := BitVec.ofNat 16 (memField m (gainAddress profile t + 2) 2)
  b := BitVec.ofNat 16 (memField m (gainAddress profile t + 4) 2)

/-- The configuration image of a store that passes its checks (R181, R197). -/
def readImage (m : Memory) : Image where
  group := memRead m 0
  limitC := memField m 1 2
  kMin := memField m 3 2
  riseStep := memField m 5 2
  wallFullLoad := memField m 7 2
  peerHold := storeByte m 9
  lateWindow := storeByte m 10
  period := memField m 11 2
  seekFrames := storeByte m 13
  joinFrames := storeByte m 14
  protectAtStart := storeByte m 15 == 1
  startPreset := byteOrNone m 16
  startFadeFrames := BitVec.ofNat 16 (memField m 17 2)
  rasterColumns := memField m 19 2
  rasterRows := memField m 21 2
  columnStart := memField m 23 2
  columnEnd := memField m 25 2
  rowStart := memField m 27 2
  rowEnd := memField m 29 2
  profiles := Vector.ofFn fun p => Vector.ofFn fun t => readGains m p.val t.val
  channels := Vector.ofFn fun c => readChannel m c.val
  pinMap := Vector.ofFn fun p => conditionOfNat (storeByte m (576 + p.val))
  looks := Vector.ofFn fun l => readLook m l.val
  initialLook := lookOfNat (storeByte m 636)
  arcs := (List.range (arcCount m)).map (readArc m)

end Sys2Proof.Machine
end

