-- ==== Sys2Proof/Machine/Timebase.lean ====
section
/-! DEFINITION. Chapter 1: the frame timebase and genlock. -/

namespace Sys2Proof.Machine

/-- The whole microseconds of a time, as the record keeps it (R1, log 9). -/
def wholeMicros (now : Nanos) : Micros := now / 1000

/-- The interval of a pulse at `now` from the recorded reference pulse `r`, in whole microseconds (R1, R3). -/
def pulseInterval (r : Micros) (now : Nanos) : Nat := wholeMicros now - r

/-- An edge closer than 1 µs to the edge before it: the two are one pulse (R3, log 9). -/
def samePulse (lastEdge : Option Nanos) (now : Nanos) : Bool :=
  match lastEdge with
  | some l => decide (now - l < 1000)
  | none => false

/-- Margin m = floor(P / 50) (R3). -/
def pulseMargin (period : Nat) : Nat := period / 50

/-- Loss deadline P + floor(P / 4) (R3). -/
def lossDeadlineOf (period : Nat) : Nat := period + period / 4

/-- Half period floor(P / 2) (R3). -/
def halfPeriod (period : Nat) : Nat := period / 2

/-- An interval in tolerance: from P − m to P + m, both included (R3). -/
def inTolerance (period interval : Nat) : Bool :=
  decide (period - pulseMargin period ≤ interval) && decide (interval ≤ period + pulseMargin period)

/-- The frame start event handed to each of the six receiving blocks (R11). -/
def deliverFrame (e : FrameEvent) (t : Transit) : Transit :=
  { t with
    cueFrames := t.cueFrames ++ [e]
    lookFrames := t.lookFrames ++ [e]
    fadeFrames := t.fadeFrames ++ [e]
    wallFrames := t.wallFrames ++ [e]
    budgetFrames := t.budgetFrames ++ [e]
    ctrlFrames := t.ctrlFrames ++ [e] }

/-- The number of the next frame: the pending TIME value, or the previous number plus 1 (R11, R14). -/
def nextFrameNumber (t : Timebase) : FrameNo := t.pendingTime.getD (t.frame + 1)

/-- The adoption mark: the number was adopted and differs from the incremented one (R11, R14). -/
def adoptsFrame (t : Timebase) : Bool := decide (nextFrameNumber t ≠ t.frame + 1)

/-- A frame start issued at a time (R11, R14): the number is set, a pending TIME value is used up, the moment
is recorded, TIME_JUMP is counted with the mark, and the event goes to the blocks. -/
def issueFrameStart (now : Micros) (s : State) : State :=
  let e : FrameEvent := { frame := nextFrameNumber s.timebase, adopted := adoptsFrame s.timebase,
                          serial := s.timebase.issued + 1 }
  countIf e.adopted .timeJump
    { s with
      timebase := { s.timebase with
        frame := e.frame
        pendingTime := none
        lastStart := some now
        issued := e.serial }
      transit := deliverFrame e s.transit }

/-- How long the frame in progress has run at a time (R5). -/
def frameRun (t : Timebase) (now : Micros) : Nat := now - t.lastStart.getD 0

/-- The locking pulse (R5): LOCKED, run 0, and a frame start at once when the frame in progress has run at
least the half period. -/
def lockTimebase (now : Micros) (s : State) : State :=
  let s' := { s with timebase := { s.timebase with lock := .locked, run := 0, reference := some now } }
  if halfPeriod s.image.period ≤ frameRun s.timebase now then issueFrameStart now s' else s'

/-- A pulse in ACQUIRE or FLYWHEEL updates the pulse history (R4). -/
def pulseUnlocked (now : Nanos) (s : State) : State :=
  match s.timebase.reference with
  | none => { s with timebase := { s.timebase with reference := some (wholeMicros now), run := 0 } }
  | some r =>
    if inTolerance s.image.period (pulseInterval r now) then
      if s.timebase.run + 1 = 4 then lockTimebase (wholeMicros now) s
      else { s with timebase := { s.timebase with reference := some (wholeMicros now), run := s.timebase.run + 1 } }
    else { s with timebase := { s.timebase with reference := some (wholeMicros now), run := 0 } }

/-- A pulse in LOCKED is accepted, with a frame start at once, or rejected with PULSE_REJECT (R6). In LOCKED a
reference pulse is always present; without one there is no interval to judge (log 27). -/
def pulseLocked (now : Nanos) (s : State) : State :=
  match s.timebase.reference with
  | none => s
  | some r =>
    if inTolerance s.image.period (pulseInterval r now) then
      issueFrameStart (wholeMicros now)
        { s with timebase := { s.timebase with reference := some (wholeMicros now) } }
    else count .pulseReject s

/-- An edge of the genlock reference (R3 to R6). It has no effect on a timebase that is not running (R2); an edge
closer than 1 µs to the one before it belongs to that pulse, which was one event at its own edge (R3, log 9). An
edge from before the timebase starts is not remembered, so one less than 1 µs after it that comes after the start
is a pulse of its own (DESIGN CHOICE, log 44). -/
def genlockPulse (now : Nanos) (s : State) : State :=
  if s.timebase.timerRunning = false then s
  else
    let s' := { s with timebase := { s.timebase with lastEdge := some now } }
    if samePulse s.timebase.lastEdge now then s'
    else match s.timebase.lock with
    | .acquire | .flywheel => pulseUnlocked now s'
    | .locked => pulseLocked now s'

/-- Loss of lock at the loss deadline after the reference pulse (R7). -/
def lossDeadline (s : State) : State :=
  match s.timebase.timerRunning, s.timebase.lock, s.timebase.reference with
  | true, .locked, some r =>
    issueFrameStart (r + lossDeadlineOf s.image.period)
      (count .genlockLoss
        { s with timebase := { s.timebase with lock := .flywheel, reference := none, run := 0 } })
  | _, _, _ => s

/-- The internal timer issues a frame start when P has passed since the last one, in ACQUIRE and FLYWHEEL
alone (R8). -/
def internalTimerExpiry (s : State) : State :=
  match s.timebase.timerRunning, s.timebase.lock, s.timebase.lastStart with
  | true, .acquire, some l => issueFrameStart (l + s.image.period) s
  | true, .flywheel, some l => issueFrameStart (l + s.image.period) s
  | _, _, _ => s

/-- The seek end, taken from the start-up controller: ACQUIRE becomes FLYWHEEL, with the pulse history kept;
no effect in LOCKED or FLYWHEEL (R9). -/
def seekEnd (s : State) : State :=
  if s.transit.seekEnd then
    let s' := { s with transit := { s.transit with seekEnd := false } }
    if s.timebase.timerRunning ∧ s.timebase.lock = .acquire then
      { s' with timebase := { s.timebase with lock := .flywheel } }
    else s'
  else s

/-- A TIME message routed to the timebase: its frame number becomes the pending TIME value; a timebase that
is not running discards it (R2, R13). -/
def takeTime (m : Message) (s : State) : State :=
  if s.timebase.timerRunning then
    { s with timebase := { s.timebase with pendingTime := some (timeFrame m) } }
  else s

/-- The timebase started at the end of LOADING (R2). -/
def startTimebase (now : Nanos) (t : Timebase) : Timebase :=
  { t with lastStart := some (wholeMicros now), timerRunning := true }

/-- The timebase stopped at SAFE entry: genlock state and frame number are kept (R2). -/
def stopTimebase (t : Timebase) : Timebase :=
  { t with timerRunning := false, reference := none, run := 0, pendingTime := none }

/-! ### Commands -/

/-- GENLOCK_PULSE (R3 to R6). -/
def execGenlockPulse (now : Nanos) (s : State) : Out := .next (genlockPulse now s)

/-- LOSS_DEADLINE (R7). -/
def execLossDeadline (s : State) : Out := .next (lossDeadline s)

/-- INTERNAL_TIMER_EXPIRY (R8). -/
def execInternalTimerExpiry (s : State) : Out := .next (internalTimerExpiry s)

/-- TIME (R13), through the receive filter. -/
def execTime (m : Message) (s : State) : Out := .next (receive (kindCode .time) m (takeTime m) s)

/-- SEEK_END (R9). -/
def execSeekEnd (s : State) : Out := .next (seekEnd s)

end Sys2Proof.Machine
end

