-- ==== Sys2Proof/Machine/Startup.lean ====
section
/-! DEFINITION. Chapter 10: supply and RESET, restart, LOADING, the way to RUNNING, SAFE. -/

namespace Sys2Proof.Machine

/-! ### Restart (R179, R180) -/

/-- Every block at its restart values, with the given station record. The non-volatile stores, the pins, the
supply and the command queue are not the blocks' (R180). -/
def restartBlocks (station : Station) (s : State) : State :=
  { s with
    station := station
    image := defaultImage
    timebase := timebaseAtRestart
    line := lineAtRestart station.number
    cues := cuesAtRestart
    conditions := conditionsAtRestart
    look := lookAtRestart
    fade := fadeAtRestart
    store := storeAtRestart
    protection := protectionAtRestart
    wall := wallAtRestart 0
    budget := budgetAtRestart defaultImage.kMin
    setup := setupAtEntry
    flags := flagsAtRestart
    counters := countersAtRestart
    transit := transitAtRestart }

/-- The station record on entering LOADING with the straps sampled; a high SETUP strap gives SETUP at once
(R179, R180). -/
def stationAtLoading (straps : Straps) (cause : RestartCause) (source : Option StationNo) : Station :=
  { stationAtRestart straps.stn cause source with state := if straps.setup then .setup else .loading }

/-- The strap pins as sampled. -/
def setStraps (straps : Straps) (s : State) : State :=
  { s with pins := { s.pins with stn := straps.stn, setup := straps.setup } }

/-- A restart with its straps sampled (R180). -/
def restart (straps : Straps) (cause : RestartCause) (source : Option StationNo) (s : State) : State :=
  restartBlocks (stationAtLoading straps cause source) (setStraps straps s)

/-- A restart from a RESTART message: an attempt on the line runs on to its win or its loss, and the interface
takes its restart values then (R33, log 22). -/
def restartByMessage (straps : Straps) (s : State) : State :=
  let s' := restart straps .restartMessage s.station.restartSource s
  if s.line.attempt.isSome then { s' with line := { s.line with closing := true } } else s'

/-- The bytes of a row whose programming is broken off: each holds its new or its old value, a free value
(R188, log 15). -/
def breakOffBytes (index : Nat) (r : RowBuffer) (m : Memory) : Memory :=
  (List.finRange 64).foldl
    (fun m i => if Config.rowByteReachedNew index i then memWrite m (64 * r.row.toNat + i.val) r.bytes[i] else m) m

/-- What power-on, power loss and RESET break off: an array operation and a row being programmed (R99, R118,
R188). -/
def breakOff (s : State) : State :=
  let s' := { s with flash := breakOffArray s.store s.flash }
  match s.setup.busy, s.setup.rowBuffer with
  | true, some r =>
    { s' with configStore := breakOffBytes s.freeIndex r s.configStore, freeIndex := s.freeIndex + 1 }
  | _, _ => s'

/-- POWER_ON: the supply rises; LOADING with restart cause POWER_ON, or SETUP (R180). -/
def powerOn (pins : Pins) (s : State) : State :=
  let s' := breakOff s
  restart { stn := pins.stn, setup := pins.setup } .powerOn none
    { s' with pins := pins, power := { s'.power with powered := true } }

/-- POWER_LOSS: everything in progress is broken off and every volatile field is lost (R99, R118, R188,
log 17). -/
def powerLoss (s : State) : State :=
  let s' := breakOff s
  restartBlocks (stationAtRestart s.station.number s.station.restartCause s.station.restartSource)
    { s' with power := { s'.power with powered := false } }

/-- RESET_PIN_ASSERTION: at once every block takes its restart values and holds them while the pin is asserted
(R180, log 18). -/
def resetPinAssertion (s : State) : State :=
  let held := { s with power := { s.power with resetHeld := true } }
  if s.power.powered then
    restartBlocks (stationAtRestart s.station.number .resetPin none) (breakOff held)
  else held

/-- RESET_PIN_DEASSERTION: LOADING with restart cause RESET_PIN, or SETUP (R180). -/
def resetPinDeassertion (straps : Straps) (s : State) : State :=
  if s.power.resetHeld then
    let s' := { s with power := { s.power with resetHeld := false } }
    if s.power.powered then restart straps .resetPin none s' else s'
  else s

/-! ### SAFE (R185) -/

/-- The cue list at SAFE entry (R49). -/
def cuesAtSafe (c : CueList) : CueList := { c with records := [], mode := .hold }

/-- The condition inputs at SAFE entry: the debouncers return to their restart values (R71). -/
def conditionsAtSafe (c : Conditions) : Conditions := { c with debouncers := fill 4 debouncerAtRestart }

/-- What is on its way between blocks at SAFE entry. Frame starts, notices, reads and scales no longer reach
anyone (R2, R94, R120); actions, requests and answers are taken and discarded by their owners (log 20). -/
def transitAtSafe (t : Transit) : Transit :=
  { t with
    cueFrames := []
    lookFrames := []
    fadeFrames := []
    wallFrames := []
    budgetFrames := []
    ctrlFrames := []
    seekEnd := false
    joinNotice := none
    runCue := none
    runLook := none
    runFade := none
    runWall := none
    reads := []
    restartReq := false
    arrayQuiet := false
    fadeScales := []
    wallScales := [] }

/-- The station enters SAFE; each block does what its chapter says, and an open restart wait is closed
(R185). -/
def enterSafe (cause : SafeCause) (failed : Option Nat) (s : State) : State :=
  { s with
    station := { s.station with
      state := .safe
      safeCause := some cause
      failedCheck := failed
      restartWait := false
      strapCandidates := fill 5 none }
    timebase := stopTimebase s.timebase
    line := lineAtSafe s.line
    cues := cuesAtSafe s.cues
    conditions := conditionsAtSafe s.conditions
    fade := fadeAtSafe s.fade
    store := storeAtSafe s.store
    protection := protectionAtSafe s.protection
    wall := wallAtSafe s.wall
    budget := budgetAtSafe s.budget
    transit := transitAtSafe s.transit }

/-- STN_EDGE: the strap pin takes the level; a level that differs from the one sampled at the last restart
forms a candidate, any edge ends the one before (R185, log 19). -/
def stnEdge (strap : Fin 5) (level : Bool) (now : Nanos) (s : State) : State :=
  let bit : BitVec 5 := BitVec.twoPow 5 strap.val
  let s' := { s with pins := { s.pins with
      stn := if level then s.pins.stn ||| bit else s.pins.stn &&& ~~~bit } }
  if isOperating s.station.state || (s.station.state == .loading) then
    { s' with station := { s.station with
        strapCandidates := setAt s.station.strapCandidates strap
          (if level = s.station.number.getLsbD strap.val then none else some now) } }
  else s'

/-- STRAP_CHANGE: a differing level has held for 1 ms, and the station enters SAFE (R185). -/
def strapChange (strap : Fin 5) (s : State) : State :=
  if isOperating s.station.state ∧ s.station.strapCandidates[strap].isSome then
    enterSafe .strapChange none s
  else s

/-! ### LOADING (R181) -/

/-- The wall profile of the initial look, or 0 (R143). -/
def initialProfile (i : Image) : Fin 4 := (i.looks[i.initialLook].profile.bind profileOfByte).getD 0

/-- The debouncers as they start, from the pins (R55). -/
def startDebouncers (cin : BitVec 4) (now : Nanos) : Vector Debouncer 4 :=
  Vector.ofFn fun p => debouncerStart (cin.getLsbD p.val) now

/-- A good image: the timebase and the look machine start at the same moment, the station becomes SCANNING, the
start scan begins, the interface becomes active and the other blocks start (R2, R17, R55, R62, R117, R123,
R143, R159, R181). -/
def startStation (image : Image) (now : Nanos) (s : State) : State :=
  beginStartScan
    { s with
      station := { s.station with state := .scanning }
      image := image
      timebase := startTimebase now s.timebase
      line := lineAtRestart s.station.number
      conditions := { s.conditions with debouncers := startDebouncers s.pins.cin now }
      look := { s.look with started := true, current := some image.initialLook }
      protection := startProtection image.protectAtStart s.pins.onAir now s.protection
      wall := wallAtRestart (initialProfile image)
      budget := budgetAtRestart image.kMin }

/-- A failed image: SAFE from LOADING, every figure at its default, the selected profile 0 and k_min 4096 in the
scale in force (R181, R185). -/
def failImage (cause : SafeCause) (failed : Option Nat) (s : State) : State :=
  enterSafe cause failed
    { s with
      image := defaultImage
      line := lineAtRestart s.station.number
      wall := wallAtRestart 0
      budget := budgetAtRestart defaultImage.kMin }

/-- LOADING_END: the store is judged by its check value, then by the consistency checks (R181). -/
def loadingEnd (now : Nanos) (s : State) : State :=
  if isLive s ∧ s.station.state = .loading then
    if storeCheckAgrees s.configStore = false then failImage .checkValue none s
    else match firstFailedCheck s.configStore with
      | some n => failImage .inconsistent (some n) s
      | none => startStation (readImage s.configStore) now s
  else s

/-! ### SCANNING to RUNNING (R183, R184) -/

/-- SCAN_END_NOTICE: SCANNING becomes SEEKING with frames counted 0 (R183). -/
def scanEndNotice (s : State) : State :=
  if s.transit.scanEnd then
    let s' := { s with transit := { s.transit with scanEnd := false } }
    if s.station.state = .scanning then
      { s' with station := { s.station with state := .seeking, framesCounted := 0 } }
    else s'
  else s

/-- The notice labelled with a frame start. -/
def noticeOf (e : FrameEvent) : Notice := { label := e.frame, serial := e.serial }

/-- The station becomes JOINING at F_j, and the join notice goes to the budget unit (R183, R184). -/
def enterJoining (outcome : SeekOutcome) (e : FrameEvent) (s : State) : State :=
  { s with
    station := { s.station with
      state := .joining
      seekOutcome := some outcome
      framesCounted := 0
      entryFrame := e.frame }
    transit := { s.transit with joinNotice := some (noticeOf e) } }

/-- The station becomes RUNNING at F_r, and the run notices go to the four blocks (R184). -/
def enterRunning (e : FrameEvent) (s : State) : State :=
  { s with
    station := { s.station with state := .running, entryFrame := e.frame }
    transit := { s.transit with
      runCue := some (noticeOf e)
      runLook := some (noticeOf e)
      runFade := some (noticeOf e)
      runWall := some (noticeOf e) } }

/-- Frames counted increased by one (R183, R184). -/
def countFrame (s : State) : State :=
  { s with station := { s.station with framesCounted := s.station.framesCounted + 1 } }

/-- This frame start ends SEEKING without lock (R183). -/
def seekFramesEnd (s : State) : Bool :=
  (s.station.state == .seeking) && (s.timebase.lock != .locked) &&
    decide (s.image.seekFrames ≤ s.station.framesCounted + 1)

/-- This frame start is F_r (R184). -/
def joinFramesEnd (s : State) : Bool :=
  (s.station.state == .joining) && decide (s.image.joinFrames ≤ s.station.framesCounted + 1)

/-- The controller's current frame set (R12). -/
def setControllerFrame (e : FrameEvent) (s : State) : State :=
  { s with station := { s.station with frame := e.frame } }

/-- What a frame start counts and moves in the station record (R183, R184). -/
def controllerCounts (e : FrameEvent) (s : State) : State :=
  match s.station.state with
  | .seeking =>
    let s' := countFrame s
    if s.timebase.lock = .locked then enterJoining .locked e s'
    else if s.image.seekFrames ≤ s'.station.framesCounted then
      enterJoining .flywheel e { s' with transit := { s'.transit with seekEnd := true } }
    else s'
  | .joining =>
    let s' := countFrame s
    if s.image.joinFrames ≤ s'.station.framesCounted then enterRunning e s' else s'
  | .loading | .scanning | .running | .safe | .setup => s

/-- A frame start taken by the start-up controller (R12, R183, R184). -/
def controllerFrame (e : FrameEvent) (s : State) : State := controllerCounts e (setControllerFrame e s)

/-- CONTROLLER_FRAME_START: the next frame start issued is taken (R11, R183). -/
def controllerFrameStart (s : State) : State :=
  match s.transit.ctrlFrames with
  | [] => s
  | e :: es => controllerFrame e { s with transit := { s.transit with ctrlFrames := es } }

/-! ### The RESTART message (R186) -/

/-- A RESTART routed to the controller: the wait opens and the preset store gets its request; with the wait
open it has no effect (R186). -/
def takeRestart (m : Message) (s : State) : State :=
  if s.station.restartWait then s
  else
    { s with
      station := { s.station with restartWait := true, restartSource := some m.source }
      transit := { s.transit with restartReq := true } }

/-- ARRAY_QUIET: the restart wait ends and the restart takes effect (R186). -/
def arrayQuiet (straps : Straps) (s : State) : State :=
  if s.transit.arrayQuiet then
    if s.station.restartWait then restartByMessage straps s
    else { s with transit := { s.transit with arrayQuiet := false } }
  else s

/-! ### Commands -/

/-- POWER_ON (R180). -/
def execPowerOn (pins : Pins) (s : State) : Out := .next (powerOn pins s)

/-- POWER_LOSS (R99). -/
def execPowerLoss (s : State) : Out := .next (powerLoss s)

/-- RESET_PIN_ASSERTION (R180). -/
def execResetPinAssertion (s : State) : Out := .next (resetPinAssertion s)

/-- RESET_PIN_DEASSERTION (R180). -/
def execResetPinDeassertion (straps : Straps) (s : State) : Out := .next (resetPinDeassertion straps s)

/-- LOADING_END (R181). -/
def execLoadingEnd (now : Nanos) (s : State) : Out := .next (loadingEnd now s)

/-- STN_EDGE (R185). -/
def execStnEdge (strap : Fin 5) (level : Bool) (now : Nanos) (s : State) : Out :=
  .next (stnEdge strap level now s)

/-- STRAP_CHANGE (R185). -/
def execStrapChange (strap : Fin 5) (s : State) : Out := .next (strapChange strap s)

/-- SCAN_END_NOTICE (R183). -/
def execScanEndNotice (s : State) : Out := .next (scanEndNotice s)

/-- CONTROLLER_FRAME_START (R183, R184). -/
def execControllerFrameStart (s : State) : Out := .next (controllerFrameStart s)

/-- SEEK_FRAMES_END (R183): the frame start that ends the seek frames without lock. -/
def execSeekFramesEnd (s : State) : Out := .next (if seekFramesEnd s then controllerFrameStart s else s)

/-- JOIN_FRAMES_END (R184): the frame start that ends the join frames. -/
def execJoinFramesEnd (s : State) : Out := .next (if joinFramesEnd s then controllerFrameStart s else s)

/-- RESTART (R186). -/
def execRestart (m : Message) (s : State) : Out := .next (receive (kindCode .restart) m (takeRestart m) s)

/-- ARRAY_QUIET (R186). -/
def execArrayQuiet (straps : Straps) (s : State) : Out := .next (arrayQuiet straps s)

end Sys2Proof.Machine
end

