-- ==== Sys2Proof/Machine/Reports.lean ====
section
/-! DEFINITION. Chapter 11 and 12.2: the status reporter and its nine records (R189 to R195). -/

namespace Sys2Proof.Machine

/-! ### State codes (R194) -/

def stationStateCode : StationState → Byte
  | .loading => 0
  | .scanning => 1
  | .seeking => 2
  | .joining => 3
  | .running => 4
  | .safe => 5
  | .setup => 6

def restartCauseCode : RestartCause → Byte
  | .powerOn => 0
  | .resetPin => 1
  | .restartMessage => 2

def safeCauseCode : Option SafeCause → Byte
  | none => 0
  | some .checkValue => 1
  | some .inconsistent => 2
  | some .strapChange => 3

def genlockCode : Genlock → Byte
  | .acquire => 0
  | .locked => 1
  | .flywheel => 2

def seekOutcomeCode : Option SeekOutcome → Byte
  | none => 0
  | some .locked => 1
  | some .flywheel => 2

def classCode : ChannelClass → Byte
  | .scaled => 0
  | .unscaled => 1
  | .pinned => 2

def phaseCode : Phase → Byte
  | .reading => 0
  | .ready => 1
  | .deferred => 2

def entryStateCode : EntryState → Byte
  | .empty => 0
  | .valid => 1
  | .bad => 2
  | .committing => 3

def bufferStateCode : BufferState → Byte
  | .opened => 0
  | .queued => 1
  | .committing => 2

def writePointCode : WritePoint → Byte
  | .first => 0
  | .next => 1

def bufferCode : BufferName → Byte
  | .a => 0
  | .b => 1

def commitPhaseCode : CommitPhase → Byte
  | .erase => 0
  | .program => 1
  | .verify => 2

def loadStateCode : LoadState → Byte
  | .empty => 0
  | .filling => 1
  | .complete => 2

def muteCode : Option MuteRequest → Byte
  | none => 0
  | some r => if r.mute then 1 else 2

def entryCauseCode : EntryCause → Byte
  | .arc i => BitVec.ofNat 8 i
  | .home => 254
  | .start => 255

def journalCode : Option PageName → Byte
  | none => noneByte
  | some (.preset n) => BitVec.ofNat 8 n.val
  | some .map => 64

def takeModeCode : TakeMode → Byte
  | .hold => 0
  | .take => 1

/-- The budget flags byte (R194). -/
def budgetFlagsByte (f : BudgetFlags) : Byte := flagByte [f.full, f.overLimit, f.floored, f.clamped]

/-- One byte from a number. -/
def byteOf (n : Nat) : Byte := BitVec.ofNat 8 n

/-- A station number or none (R194). -/
def stationOrNone (o : Option StationNo) : Byte := orNone (o.map fun n => byteOf n.toNat)

/-- A frame number in 3 bytes (R194). -/
def frameBytes (f : FrameNo) : List Byte := toBytes 3 f.toNat

/-- A part with its bytes, or as many bytes of 0 when it is absent (R194). -/
def partOrZeros {α : Type} (n : Nat) (f : α → List Byte) : Option α → List Byte
  | some a => f a
  | none => List.replicate n 0

/-! ### STATUS (R190, R195) -/

/-- The STATUS record, 45 bytes. -/
def statusRecord (s : State) : List Byte :=
  let st := s.station
  let sc := s.budget.scale
  [stationStateCode st.state, byteOf st.number.toNat, restartCauseCode st.restartCause,
   stationOrNone st.restartSource, safeCauseCode st.safeCause, orNone (st.failedCheck.map byteOf),
   seekOutcomeCode st.seekOutcome, byteOf st.framesCounted]
  ++ frameBytes st.entryFrame
  ++ [markByte st.restartWait, genlockCode s.timebase.lock]
  ++ frameBytes s.timebase.frame
  ++ [markByte s.timebase.pendingTime.isSome,
      flagByte [s.protection.pin, s.protection.latch, inForce s.protection], byteOf s.protection.outstanding]
  ++ toBytes 16 s.protection.map.toNat
  ++ frameBytes sc.label ++ toBytes 2 sc.k ++ toBytes 2 sc.kTarget
  ++ [budgetFlagsByte sc.flags, markByte s.budget.overIndication,
      flagByte [s.flags.demandLost, s.flags.commitFail, flywheelIndication s, faultPin s, alertPin s]]

/-! ### BUDGET and PEER (R177, R195) -/

/-- The last closed record's part of BUDGET, 17 bytes. -/
def budgetPart (r : BudgetRecord) : List Byte :=
  frameBytes r.target ++ toBytes 3 r.x ++ toBytes 3 r.s
  ++ [byteOf r.counted, byteOf r.stale, byteOf r.ahead]
  ++ toBytes 2 r.kTarget ++ toBytes 2 r.k ++ [budgetFlagsByte r.flags]

/-- The BUDGET record, 26 bytes. -/
def budgetRecord (s : State) : List Byte :=
  let sc := s.budget.scale
  [markByte s.budget.last.isSome] ++ partOrZeros 17 budgetPart s.budget.last
  ++ frameBytes sc.label ++ toBytes 2 sc.k ++ toBytes 2 sc.kTarget ++ [budgetFlagsByte sc.flags]

/-- An announcement of PEER, 8 bytes. -/
def announcementPart (a : Announcement) : List Byte :=
  frameBytes a.target ++ toBytes 2 a.x.toNat ++ toBytes 2 a.s.toNat ++ [markByte a.clamp]

/-- A present entry of PEER: group, announcements held, both announcements, last arrival, age; 24 bytes. -/
def peerPart (current : FrameNo) (e : PeerEntry) : List Byte :=
  [e.group, if e.second.isSome then 2 else 1] ++ announcementPart e.first
  ++ partOrZeros 8 announcementPart e.second
  ++ frameBytes e.lastArrival ++ toBytes 3 (frameDistance e.lastArrival current)

/-- Station n mod 32 of an index (R177). -/
def peerOfIndex (index : Byte) : Fin 32 := ⟨index.toNat % 32, Nat.mod_lt _ (by decide)⟩

/-- The PEER record, 26 bytes. -/
def peerRecord (index : Byte) (s : State) : List Byte :=
  let n := peerOfIndex index
  [byteOf n.val, markByte s.budget.peers[n].isSome] ++ partOrZeros 24 (peerPart s.budget.frame) s.budget.peers[n]

/-! ### CUES (R50, R195) -/

/-- A record of CUES, 7 bytes. -/
def cueEntry (r : CueRecord) : List Byte :=
  [byteOf (r.ident.source.toNat + 128 * r.late.toNat)] ++ toBytes 2 r.ident.id.toNat ++ frameBytes r.target
  ++ [cueActionCode r.action]

/-- The list positions an index shows (R50). -/
def shownCues (index : Byte) (rs : List CueRecord) : List CueRecord :=
  match index.toNat with
  | 0 => rs.take 8
  | 1 => (rs.drop 8).take 8
  | _ => []

/-- The CUES record, 5 bytes and 7 for each entry. -/
def cuesRecord (index : Byte) (s : State) : List Byte :=
  frameBytes s.cues.frame ++ [takeModeCode s.cues.mode, byteOf s.cues.records.length]
  ++ (shownCues index s.cues.records).flatMap cueEntry

/-! ### LOOK (R72, R195) -/

/-- The condition values, entry n in bit n mod 8 of byte 2 − floor(n / 8) (R194). -/
def conditionValues (c : Conditions) : Nat :=
  (List.finRange 24).foldl (fun acc n => acc + (if c.entries[n].value then 2 ^ n.val else 0)) 0

/-- LOOK index 0, 14 bytes. -/
def lookSummary (s : State) : List Byte :=
  [orNone (s.look.current.map fun l => byteOf l.val), markByte s.look.entered, byteOf s.look.dwell]
  ++ frameBytes s.look.entryFrame
  ++ [entryCauseCode s.look.entryCause]
  ++ toBytes 4 s.conditions.stamps.toNat ++ toBytes 3 (conditionValues s.conditions)

/-- Stamp and source of a condition, 5 bytes. -/
def stampEntry (e : ConditionEntry) : List Byte := toBytes 4 e.stamp.toNat ++ [stationOrNone e.source]

/-- LOOK index 1 to 3: conditions 8 (index − 1) to 8 (index − 1) + 7, 40 bytes. -/
def lookStamps (part : Nat) (s : State) : List Byte :=
  ((s.conditions.entries.toList.drop (8 * part)).take 8).flatMap stampEntry

/-- The LOOK record. -/
def lookRecord (index : Byte) (s : State) : List Byte :=
  match index.toNat with
  | 1 => lookStamps 0 s
  | 2 => lookStamps 1 s
  | 3 => lookStamps 2 s
  | _ => lookSummary s

/-! ### DIRECTORY (R121, R195) -/

/-- Four 2-bit codes to a byte, the first in the top bits. -/
def packCodes : Nat → List Byte → List Byte
  | 0, _ => []
  | n + 1, cs =>
    ((byteAt cs 0 <<< 6) ||| (byteAt cs 1 <<< 4) ||| (byteAt cs 2 <<< 2) ||| byteAt cs 3) ::
      packCodes n (cs.drop 4)

/-- Eight marks to a byte, the first in bit 7. -/
def packMarks : Nat → List Bool → List Byte
  | 0, _ => []
  | n + 1, bs => flagByte ((bs.take 8).reverse) :: packMarks n (bs.drop 8)

/-- DIRECTORY index 0, 18 bytes. -/
def directoryStates (s : State) : List Byte :=
  packCodes 16 (s.store.directory.toList.map fun e => entryStateCode e.state)
  ++ [entryStateCode s.store.mapEntry, journalCode s.flash.journal]

/-- A buffer of DIRECTORY index 1, 3 bytes. -/
def bufferPart (b : StagingBuffer) : List Byte :=
  [bufferStateCode b.state, orNone (b.target.map fun n => byteOf n.val), writePointCode b.writePoint]

/-- An operation slot of DIRECTORY index 1: kind, buffer, preset or first channel (log 30). -/
def operationSlot : ArrayOp → List Byte
  | .commit b n => [1, bufferCode b, byteOf n.val]
  | .mapErase => [2, 0, 0]
  | .mapProgram first _ => [3, 0, byteOf first.val]

/-- Four operation slots, head first, empty ones 0. -/
def operationSlots : Nat → List ArrayOp → List Byte
  | 0, _ => []
  | n + 1, [] => [0, 0, 0] ++ operationSlots n []
  | n + 1, op :: ops => operationSlot op ++ operationSlots n ops

/-- DIRECTORY index 1, 20 bytes. -/
def directoryQueues (s : State) : List Byte :=
  bufferPart s.store.bufferA ++ bufferPart s.store.bufferB ++ [byteOf s.store.ops.length]
  ++ operationSlots 4 s.store.ops ++ [byteOf s.store.reads.length]

/-- The operation in progress: kind, buffer, preset, phase, suspended, suspend count (R195, log 30). -/
def runningPart : Option Running → List Byte
  | none => [0, 0, noneByte, 0, 0, 0]
  | some (.commit c) =>
    [1, bufferCode c.buffer, byteOf c.preset.val, commitPhaseCode c.phase, markByte c.suspended,
     byteOf c.suspends]
  | some .mapErase => [2, 0, noneByte, 0, 0, 0]
  | some (.mapProgram _ _) => [3, 0, noneByte, 0, 0, 0]

/-- DIRECTORY index 2, 7 bytes. -/
def directoryRunning (s : State) : List Byte := runningPart s.store.running ++ [markByte s.store.restartWait]

/-- DIRECTORY index 3, 8 bytes. -/
def directoryAirSafe (s : State) : List Byte := packMarks 8 (s.store.directory.toList.map (·.airSafe))

/-- The DIRECTORY record. -/
def directoryRecord (index : Byte) (s : State) : List Byte :=
  match index.toNat with
  | 1 => directoryQueues s
  | 2 => directoryRunning s
  | 3 => directoryAirSafe s
  | _ => directoryStates s

/-! ### COUNTERS (R192, R195) -/

/-- The COUNTERS record, 38 bytes: counters 19 to 37 for index 1, else 0 to 18. -/
def countersRecord (index : Byte) (s : State) : List Byte :=
  let all := s.counters.toList
  (if index = 1 then all.drop 19 else all.take 19).flatMap fun c => toBytes 2 c.toNat

/-! ### CHANNEL (R96, R195) -/

/-- Source kind, station or look, cue id; 4 bytes. The bytes that a source kind does not use are 0 (DESIGN CHOICE,
log 40). -/
def sourcePart : FadeSource → List Byte
  | .cue c => [0, byteOf c.source.toNat] ++ toBytes 2 c.id.toNat
  | .look l => [1, byteOf l.val, 0, 0]
  | .start => [2, 0, 0, 0]

/-- The running fade's part, 16 bytes. -/
def fadePart (f : Fade) : List Byte :=
  toBytes 2 f.start.toNat ++ toBytes 2 f.target.toNat ++ toBytes 2 f.total.toNat ++ frameBytes f.frame
  ++ toBytes 2 f.steps ++ [markByte f.airSafe] ++ sourcePart f.source

/-- The request's part, 13 bytes. -/
def requestPart (c : Channel) (r : RequestRecord) : List Byte :=
  [r.req.preset, phaseCode r.phase] ++ frameBytes r.req.frame ++ toBytes 2 r.req.total.toNat
  ++ toBytes 2 (requestTarget r c).toNat ++ sourcePart r.req.source

/-- The fade state: DEFERRED when a DEFERRED request covers the channel, else ACTIVE or NONE (R96). -/
def fadeStateCode (s : State) (c : Channel) : Byte :=
  if s.fade.requests.any (fun r => (r.phase == .deferred) && covers r c) then 2
  else if s.fade.channels[c].fade.isSome then 1
  else 0

/-- The CHANNEL record, 42 bytes. -/
def channelRecord (index : Byte) (s : State) : List Byte :=
  let c := channelMod index.toNat
  let x := s.fade.channels[c]
  let g := s.image.channels[c]
  [byteOf c.val, classCode g.cls, g.rated] ++ toBytes 2 g.pinned.toNat ++ toBytes 2 x.level.toNat
  ++ [markByte x.lastOut.isSome] ++ partOrZeros 2 (fun o : Level => toBytes 2 o.toNat) x.lastOut
  ++ [fadeStateCode s c, markByte x.fade.isSome] ++ partOrZeros 16 fadePart x.fade
  ++ [markByte (lastCovering s c).isSome] ++ partOrZeros 13 (requestPart c) (lastCovering s c)

/-! ### WALL (R157, R195) -/

/-- WALL index 0, 31 bytes. -/
def wallState (w : WallFeed) : List Byte :=
  frameBytes w.frame ++ [markByte w.live, loadStateCode w.load]
  ++ toBytes 2 w.pointerCol ++ toBytes 2 w.pointerRow ++ [byteOf w.loadProfile.val] ++ toBytes 4 w.luma
  ++ [flagByte [w.satR, w.satG, w.satB]] ++ toBytes 2 w.liveLuma
  ++ [byteOf w.profile.val, markByte w.frozen, markByte w.muted, muteCode w.muteRequest]
  ++ partOrZeros 3 (fun r : MuteRequest => frameBytes r.label) w.muteRequest
  ++ [markByte w.enabled, markByte w.scan.isSome] ++ partOrZeros 3 frameBytes w.scan
  ++ toBytes 2 (demandLuma w)

/-- WALL index 1, 21 bytes. -/
def wallGeometry (i : Image) : List Byte :=
  toBytes 2 i.rasterColumns ++ toBytes 2 i.rasterRows ++ toBytes 2 i.columnStart ++ toBytes 2 i.columnEnd
  ++ toBytes 2 i.rowStart ++ toBytes 2 i.rowEnd ++ toBytes 2 (segmentWidth i) ++ toBytes 2 (segmentHeight i)
  ++ [byteOf (panelColumns i), byteOf (panelRows i)] ++ toBytes 3 (pixelCount i)

/-- The WALL record. -/
def wallRecord (index : Byte) (s : State) : List Byte :=
  if index = 1 then wallGeometry s.image else wallState s.wall

/-! ### Queries (R189) -/

/-- The record of a record id; none for 0 and 10 to 255 (R189). -/
def recordContents (record index : Byte) (s : State) : Option (List Byte) :=
  match record.toNat with
  | 1 => some (statusRecord s)
  | 2 => some (budgetRecord s)
  | 3 => some (peerRecord index s)
  | 4 => some (cuesRecord index s)
  | 5 => some (lookRecord index s)
  | 6 => some (directoryRecord index s)
  | 7 => some (countersRecord index s)
  | 8 => some (channelRecord index s)
  | 9 => some (wallRecord index s)
  | _ => none

/-- A QUERY routed to the status reporter: a REPORT placed in the transmit queue, or ARG_ERR (R28, R189). -/
def takeQuery (m : Message) (s : State) : State :=
  match recordContents (queryRecord m) (queryIndex m) s with
  | some contents => placeReport (queryRecord m) (queryIndex m) contents s
  | none => count .argErr s

/-- A QUERY received for one record id. -/
def queryFor (record : Nat) (m : Message) (s : State) : State :=
  if (queryRecord m).toNat = record then receive (kindCode .query) m (takeQuery m) s else s

/-! ### Commands -/

/-- QUERY_STATUS (R190). -/
def execQueryStatus (m : Message) (s : State) : Out := .next (queryFor 1 m s)

/-- QUERY_BUDGET (R177). -/
def execQueryBudget (m : Message) (s : State) : Out := .next (queryFor 2 m s)

/-- QUERY_PEER (R177). -/
def execQueryPeer (m : Message) (s : State) : Out := .next (queryFor 3 m s)

/-- QUERY_CUES (R50). -/
def execQueryCues (m : Message) (s : State) : Out := .next (queryFor 4 m s)

/-- QUERY_LOOK (R72). -/
def execQueryLook (m : Message) (s : State) : Out := .next (queryFor 5 m s)

/-- QUERY_DIRECTORY (R121). -/
def execQueryDirectory (m : Message) (s : State) : Out := .next (queryFor 6 m s)

/-- QUERY_COUNTERS (R192). -/
def execQueryCounters (m : Message) (s : State) : Out := .next (queryFor 7 m s)

/-- QUERY_CHANNEL (R96). -/
def execQueryChannel (m : Message) (s : State) : Out := .next (queryFor 8 m s)

/-- QUERY_WALL (R157). -/
def execQueryWall (m : Message) (s : State) : Out := .next (queryFor 9 m s)

/-- QUERY_UNKNOWN_RECORD (R189): record id 0 or 10 to 255. -/
def execQueryUnknownRecord (m : Message) (s : State) : Out :=
  .next (if (queryRecord m).toNat = 0 ∨ 9 < (queryRecord m).toNat then
      receive (kindCode .query) m (takeQuery m) s
    else s)

end Sys2Proof.Machine
end

