-- ==== Sys2Proof/Machine/Outputs.lean ====
section
/-! DEFINITION. What the part puts on its links, as functions of the state: the cue line during an attempt, the
fixture links and the panel links (R18, R87, R153, R196). -/

namespace Sys2Proof.Machine

/-- The kind of a queued message. -/
def kindOfTx : TxMessage → Kind
  | .demand _ _ => .demand
  | .cond _ _ => .cond
  | .report _ _ _ => .report

/-- The payload of a queued message (R194). -/
def txBody : TxMessage → List Byte
  | .demand group a =>
    [group] ++ frameBytes a.target ++ toBytes 2 a.x.toNat ++ toBytes 2 a.s.toNat ++ [flagByte [a.clamp]]
  | .cond c v => [byteOf c.val, markByte v]
  | .report record index contents => [record, index] ++ contents

/-- A queued message as the station sends it (R18, R20). -/
def txMessage (own : StationNo) (t : TxMessage) : Message :=
  sealMessage (kindCode (kindOfTx t)) own (txBody t)

/-- The bits of the attempt in progress on the cue line, sent under the station number it was started with (R18,
R19, R29, R33). -/
def attemptBits (s : State) : Option (List Bool) :=
  s.line.attempt.map fun a => lineBits (kindCode (kindOfTx a.copy)) (txMessage a.source a.copy)

/-- The 132 bytes of a packet on fixture link 0 or 1 (R196). -/
def packetBytes (link : Fin 2) (p : FixtureSend) : List Byte :=
  frameBytes p.frame ++ [flagByte [p.refresh]] ++
    ((p.levels.toList.drop (64 * link.val)).take 64).flatMap fun l => toBytes 2 l.toNat

/-- A stored component scaled by k(F) (R153). -/
def scaleComponent (k : Nat) (c : BitVec 10) : BitVec 10 := BitVec.ofNat 10 (c.toNat * k / 32768)

/-- The pixel sent for a segment position in the scan of the current frame: black while DARK or muted, or
outside a scan (R153). -/
def panelPixel (w : WallFeed) (col row : Nat) : Pixel :=
  match w.scan, w.k with
  | some _, some k =>
    if w.enabled && !w.muted then
      let p := bankRead (liveBank w) col row
      { r := scaleComponent k p.r, g := scaleComponent k p.g, b := scaleComponent k p.b }
    else black
  | _, _ => black

/-- The segment rows that panel link r carries, in row order: from 64 r to the lesser of 64 r + 63 and the last
row (R153). -/
def panelLinkRows (i : Image) (r : Fin 9) : List Nat :=
  (List.range (segmentHeight i)).filter fun row => row / 64 == r.val

/-- What a panel link sends: black, or a scan frame with its frame number and its rows, each row's pixels in
column order (R153). -/
inductive PanelOutput where
  | black
  | scanFrame (frame : FrameNo) (rows : List (List Pixel))
deriving DecidableEq, Repr

/-- A segment row as the scan in progress sends it, columns 0 to width − 1 (R153). -/
def panelRow (s : State) (row : Nat) : List Pixel :=
  (List.range (segmentWidth s.image)).map fun col => panelPixel s.wall col row

/-- The output of panel link r: during a scan the scan frame with its rows; black outside a scan, and on the links
from the panel row count to 8, which carry no rows (R153). -/
def panelLink (s : State) (r : Fin 9) : PanelOutput :=
  match s.wall.scan with
  | some f =>
    if r.val < panelRows s.image then .scanFrame f ((panelLinkRows s.image r).map (panelRow s)) else .black
  | none => .black

end Sys2Proof.Machine
end

