-- ==== Sys2Proof/Machine/SetupPort.lean ====
section
/-! DEFINITION. Section 10.7: the setup port (R187, R188). -/

namespace Sys2Proof.Machine

def setSetup (p : SetupPort) (s : State) : State := { s with setup := p }

/-- The setup port is active in SETUP alone (R187). -/
def setupActive (s : State) : Bool := isLive s && (s.station.state == .setup)

/-- The 7-bit target address: 0x5A plus the two lowest places of the station number (R187). -/
def targetAddress (number : StationNo) : Nat := 0x5A + number.toNat % 4

/-- The row of a store address (R181). -/
def rowOf (pointer : BitVec 13) : BitVec 7 := BitVec.ofNat 7 (pointer.toNat / 64)

/-- The place of a store address in its row (R181). -/
def placeOf (pointer : BitVec 13) : Fin 64 := ⟨pointer.toNat % 64, Nat.mod_lt _ (by decide)⟩

/-- The next place within the row, from its last byte back to its first (R187). -/
def nextInRow (pointer : BitVec 13) : BitVec 13 :=
  BitVec.ofNat 13 (64 * (pointer.toNat / 64) + (pointer.toNat % 64 + 1) % 64)

/-- A row's present contents (R187). -/
def loadRow (row : BitVec 7) (m : Memory) : RowBuffer where
  row := row
  bytes := Vector.ofFn fun i => memRead m (64 * row.toNat + i.val)

/-- A row is locked: its region's protect byte is not 0; row 127 never is (R187). -/
def rowLocked (row : BitVec 7) (m : Memory) : Bool :=
  decide (row ≠ 127) && decide (memRead m (protectAddress (row.toNat / 16)) ≠ 0)

/-- A write is in progress. -/
def inWrite : Transaction → Bool
  | .addressHigh | .addressLow _ | .data => true
  | .none | .read => false

/-- The end of a write: with data taken and the row not locked, the programming begins and busy becomes yes
(R187). -/
def endWrite (m : Memory) (p : SetupPort) : SetupPort :=
  { p with
    transaction := .none
    busy := p.busy || match p.transaction, p.rowBuffer with
      | .data, some r => decide (0 < p.writeCount) && !rowLocked r.row m
      | _, _ => false }

/-- What a repeated start ends: the write in progress; any other transaction is simply over. -/
def endTransaction (m : Memory) (p : SetupPort) : SetupPort :=
  if inWrite p.transaction then endWrite m p else { p with transaction := .none }

/-- SETUP_TARGET_ADDRESS: the byte after a start condition or repeated start (R187). -/
def setupTargetAddress (b : Byte) (s : State) : State :=
  if setupActive s = false then setSetup { s.setup with ack := some false } s
  else
    let p := endTransaction s.configStore s.setup
    if b.toNat / 2 = targetAddress s.station.number ∧ p.busy = false then
      setSetup { p with
        ack := some true
        writeCount := 0
        transaction := if b.getLsbD 0 then .read else .addressHigh } s
    else setSetup { p with ack := some false } s

/-- SETUP_ADDRESS_BYTE: the high byte, then the low byte; the second sets the pointer modulo 8192 (R187).
Both are acknowledged, of which R187 says nothing (DESIGN CHOICE, log 46). -/
def setupAddressByte (b : Byte) (s : State) : State :=
  match setupActive s, s.setup.transaction with
  | true, .addressHigh => setSetup { s.setup with transaction := .addressLow b, ack := some true } s
  | true, .addressLow high =>
    setSetup { s.setup with
      pointer := BitVec.ofNat 13 (256 * high.toNat + b.toNat)
      transaction := .data
      ack := some true } s
  | _, _ => s

/-- The row buffer a data byte goes into: the first byte of a transaction loads the pointer's row (R187). -/
def bufferForData (m : Memory) (p : SetupPort) : RowBuffer :=
  match p.writeCount, p.rowBuffer with
  | _ + 1, some r => r
  | _, _ => loadRow (rowOf p.pointer) m

/-- SETUP_DATA_BYTE: placed in the row buffer at the pointer, which moves within the row (R187). -/
def setupDataByte (b : Byte) (s : State) : State :=
  match setupActive s, s.setup.transaction with
  | true, .data =>
    let r := bufferForData s.configStore s.setup
    setSetup { s.setup with
      rowBuffer := some { r with bytes := setAt r.bytes (placeOf s.setup.pointer) b }
      pointer := nextInRow s.setup.pointer
      writeCount := min 64 (s.setup.writeCount + 1)
      ack := some true } s
  | _, _ => s

/-- SETUP_WRITE_END: a stop condition or a repeated start (R187). -/
def setupWriteEnd (s : State) : State :=
  if setupActive s ∧ inWrite s.setup.transaction then setSetup (endWrite s.configStore s.setup) s else s

/-- ROW_PROGRAMMING_END: the row holds the row buffer's bytes and busy becomes no (R187). -/
def rowProgrammingEnd (s : State) : State :=
  match setupActive s, s.setup.busy, s.setup.rowBuffer with
  | true, true, some r =>
    { s with
      configStore := memWriteBytes s.configStore (64 * r.row.toNat) r.bytes.toList
      setup := { s.setup with busy := false } }
  | _, _, _ => s

/-- SETUP_READ_BYTE: the store byte at the pointer; the pointer advances, from 8191 to 0 (R188). -/
def setupReadByte (s : State) : State :=
  match setupActive s, s.setup.transaction with
  | true, .read =>
    setSetup { s.setup with
      dataOut := some (memRead s.configStore s.setup.pointer.toNat)
      pointer := s.setup.pointer + 1 } s
  | _, _ => s

/-- SETUP_READ_END: the host's not-acknowledge and stop (R188). -/
def setupReadEnd (s : State) : State :=
  match setupActive s, s.setup.transaction with
  | true, .read => setSetup { s.setup with transaction := .none } s
  | _, _ => s

/-! ### Commands -/

/-- SETUP_TARGET_ADDRESS (R187). -/
def execSetupTargetAddress (b : Byte) (s : State) : Out := .next (setupTargetAddress b s)

/-- SETUP_ADDRESS_BYTE (R187). -/
def execSetupAddressByte (b : Byte) (s : State) : Out := .next (setupAddressByte b s)

/-- SETUP_DATA_BYTE (R187). -/
def execSetupDataByte (b : Byte) (s : State) : Out := .next (setupDataByte b s)

/-- SETUP_WRITE_END (R187). -/
def execSetupWriteEnd (s : State) : Out := .next (setupWriteEnd s)

/-- ROW_PROGRAMMING_END (R187). -/
def execRowProgrammingEnd (s : State) : Out := .next (rowProgrammingEnd s)

/-- SETUP_READ_BYTE (R188). -/
def execSetupReadByte (s : State) : Out := .next (setupReadByte s)

/-- SETUP_READ_END (R188). -/
def execSetupReadEnd (s : State) : Out := .next (setupReadEnd s)

end Sys2Proof.Machine
end

