-- ==== Sys2Proof/Machine/Dispatch.lean ====
section
/-! DEFINITION. The effect of a command on everything but the queue: one arm per constructor of Instr. -/

namespace Sys2Proof.Machine

def exec (i : Instr) (s : State) : Host.Outcome State Fault Refusal :=
  match i with
  | .powerOn pins => Sys2Proof.Machine.execPowerOn pins s
  | .resetPinAssertion => Sys2Proof.Machine.execResetPinAssertion s
  | .resetPinDeassertion straps => Sys2Proof.Machine.execResetPinDeassertion straps s
  | .loadingEnd now => Sys2Proof.Machine.execLoadingEnd now s
  | .stnEdge strap level now => Sys2Proof.Machine.execStnEdge strap level now s
  | .strapChange strap => Sys2Proof.Machine.execStrapChange strap s
  | .genlockPulse now => Sys2Proof.Machine.execGenlockPulse now s
  | .lossDeadline => Sys2Proof.Machine.execLossDeadline s
  | .internalTimerExpiry => Sys2Proof.Machine.execInternalTimerExpiry s
  | .seekEnd => Sys2Proof.Machine.execSeekEnd s
  | .time m => Sys2Proof.Machine.execTime m s
  | .lineIdle => Sys2Proof.Machine.execLineIdle s
  | .synchronisingWaitEnd => Sys2Proof.Machine.execSynchronisingWaitEnd s
  | .framingError => Sys2Proof.Machine.execFramingError s
  | .checkValueMismatch kind m => Sys2Proof.Machine.execCheckValueMismatch kind m s
  | .unknownKind kind m => Sys2Proof.Machine.execUnknownKind kind m s
  | .reportReceived m => Sys2Proof.Machine.execReportReceived m s
  | .attemptStart => Sys2Proof.Machine.execAttemptStart s
  | .attemptLost => Sys2Proof.Machine.execAttemptLost s
  | .messageDiscard => Sys2Proof.Machine.execMessageDiscard s
  | .attemptWon => Sys2Proof.Machine.execAttemptWon s
  | .backoffWaitEnd => Sys2Proof.Machine.execBackoffWaitEnd s
  | .take m => Sys2Proof.Machine.execTake m s
  | .cancel m => Sys2Proof.Machine.execCancel m s
  | .cueListFrameStart => Sys2Proof.Machine.execCueListFrameStart s
  | .runNoticeCueList => Sys2Proof.Machine.execRunNoticeCueList s
  | .cond m => Sys2Proof.Machine.execCond m s
  | .cinEdge pin level now => Sys2Proof.Machine.execCinEdge pin level now s
  | .debouncedChange pin => Sys2Proof.Machine.execDebouncedChange pin s
  | .runNoticeLook => Sys2Proof.Machine.execRunNoticeLook s
  | .lookFrameStart => Sys2Proof.Machine.execLookFrameStart s
  | .dwellExpiry => Sys2Proof.Machine.execDwellExpiry s
  | .conditionChangeNotice => Sys2Proof.Machine.execConditionChangeNotice s
  | .lookHome => Sys2Proof.Machine.execLookHome s
  | .fadeStartRequest origin => Sys2Proof.Machine.execFadeStartRequest origin s
  | .contentAnswer => Sys2Proof.Machine.execContentAnswer s
  | .answerWithoutContent => Sys2Proof.Machine.execAnswerWithoutContent s
  | .fadeFrameStart => Sys2Proof.Machine.execFadeFrameStart s
  | .fadeCompletion => Sys2Proof.Machine.execFadeCompletion s
  | .scaleArrivalFade => Sys2Proof.Machine.execScaleArrivalFade s
  | .protectionNotice => Sys2Proof.Machine.execProtectionNotice s
  | .runNoticeFade => Sys2Proof.Machine.execRunNoticeFade s
  | .preset m => Sys2Proof.Machine.execPreset m s
  | .commit m => Sys2Proof.Machine.execCommit m s
  | .presetReadRequest => Sys2Proof.Machine.execPresetReadRequest s
  | .arrayReadEnd => Sys2Proof.Machine.execArrayReadEnd s
  | .suspensionReached => Sys2Proof.Machine.execSuspensionReached s
  | .eraseEnd => Sys2Proof.Machine.execEraseEnd s
  | .programEnd => Sys2Proof.Machine.execProgramEnd s
  | .verifyEnd success => Sys2Proof.Machine.execVerifyEnd success s
  | .mapEraseEnd => Sys2Proof.Machine.execMapEraseEnd s
  | .mapProgramEnd => Sys2Proof.Machine.execMapProgramEnd s
  | .startScanEnd => Sys2Proof.Machine.execStartScanEnd s
  | .restartRequest => Sys2Proof.Machine.execRestartRequest s
  | .onAirEdge level now => Sys2Proof.Machine.execOnAirEdge level now s
  | .onAirAssertion => Sys2Proof.Machine.execOnAirAssertion s
  | .onAirDeassertion => Sys2Proof.Machine.execOnAirDeassertion s
  | .protectOn m => Sys2Proof.Machine.execProtectOn m s
  | .protectOff m => Sys2Proof.Machine.execProtectOff m s
  | .mapErase m => Sys2Proof.Machine.execMapErase m s
  | .mapProgram m => Sys2Proof.Machine.execMapProgram m s
  | .mapCompletionNotice => Sys2Proof.Machine.execMapCompletionNotice s
  | .startScanMap => Sys2Proof.Machine.execStartScanMap s
  | .rasterFrameStart => Sys2Proof.Machine.execRasterFrameStart s
  | .lineMarker => Sys2Proof.Machine.execLineMarker s
  | .rasterPixel p => Sys2Proof.Machine.execRasterPixel p s
  | .codeError => Sys2Proof.Machine.execCodeError s
  | .wallFrameStart => Sys2Proof.Machine.execWallFrameStart s
  | .scaleArrivalWall => Sys2Proof.Machine.execScaleArrivalWall s
  | .scanEnd => Sys2Proof.Machine.execScanEnd s
  | .wallFreeze => Sys2Proof.Machine.execWallFreeze s
  | .wallRun => Sys2Proof.Machine.execWallRun s
  | .wallMute => Sys2Proof.Machine.execWallMute s
  | .wallUnmute => Sys2Proof.Machine.execWallUnmute s
  | .wallProfile origin => Sys2Proof.Machine.execWallProfile origin s
  | .runNoticeWall => Sys2Proof.Machine.execRunNoticeWall s
  | .demand m => Sys2Proof.Machine.execDemand m s
  | .budgetFrameStart => Sys2Proof.Machine.execBudgetFrameStart s
  | .joinNotice => Sys2Proof.Machine.execJoinNotice s
  | .scanEndNotice => Sys2Proof.Machine.execScanEndNotice s
  | .controllerFrameStart => Sys2Proof.Machine.execControllerFrameStart s
  | .seekFramesEnd => Sys2Proof.Machine.execSeekFramesEnd s
  | .joinFramesEnd => Sys2Proof.Machine.execJoinFramesEnd s
  | .restart m => Sys2Proof.Machine.execRestart m s
  | .arrayQuiet straps => Sys2Proof.Machine.execArrayQuiet straps s
  | .queryStatus m => Sys2Proof.Machine.execQueryStatus m s
  | .queryBudget m => Sys2Proof.Machine.execQueryBudget m s
  | .queryPeer m => Sys2Proof.Machine.execQueryPeer m s
  | .queryCues m => Sys2Proof.Machine.execQueryCues m s
  | .queryLook m => Sys2Proof.Machine.execQueryLook m s
  | .queryDirectory m => Sys2Proof.Machine.execQueryDirectory m s
  | .queryCounters m => Sys2Proof.Machine.execQueryCounters m s
  | .queryChannel m => Sys2Proof.Machine.execQueryChannel m s
  | .queryWall m => Sys2Proof.Machine.execQueryWall m s
  | .queryUnknownRecord m => Sys2Proof.Machine.execQueryUnknownRecord m s
  | .setupTargetAddress b => Sys2Proof.Machine.execSetupTargetAddress b s
  | .setupAddressByte b => Sys2Proof.Machine.execSetupAddressByte b s
  | .setupDataByte b => Sys2Proof.Machine.execSetupDataByte b s
  | .setupWriteEnd => Sys2Proof.Machine.execSetupWriteEnd s
  | .rowProgrammingEnd => Sys2Proof.Machine.execRowProgrammingEnd s
  | .setupReadByte => Sys2Proof.Machine.execSetupReadByte s
  | .setupReadEnd => Sys2Proof.Machine.execSetupReadEnd s
  | .startPattern slots => Sys2Proof.Machine.execStartPattern slots s
  | .startPatternError => Sys2Proof.Machine.execStartPatternError s
  | .powerLoss => Sys2Proof.Machine.execPowerLoss s
  | .fixturePacketsSent => Sys2Proof.Machine.execFixturePacketsSent s
  | .protectCodeError m => Sys2Proof.Machine.execProtectCodeError m s
  | .mapCodeError m => Sys2Proof.Machine.execMapCodeError m s

end Sys2Proof.Machine
end

