-- ==== Sys2Proof/Safety.lean ====
section
/-! DEFINITION. What counts as a safe state, and the conditions that statements about the part share. -/

namespace Sys2Proof.Machine

/-! ### Invariants -/

/-- The configuration store and both banks are in canonical form. -/
def StoresCanonical (s : State) : Prop :=
  memWf s.configStore = true ∧ bankWf s.wall.bank0 = true ∧ bankWf s.wall.bank1 = true

/-- The bounded lists hold no more than the spec lets them: four transmit entries (R25), sixteen cue records
(R34), sixteen requests (R76), four array operations (R105), eight reads (R112). -/
def QueuesBounded (s : State) : Prop :=
  s.line.queue.length ≤ 4 ∧ s.cues.records.length ≤ 16 ∧ s.fade.requests.length ≤ 16 ∧
  s.store.ops.length ≤ 4 ∧ s.store.reads.length ≤ 8

/-- The transmit queue holds at most one DEMAND, and at most one COND for a condition (R25); the cue list holds at
most one record for an identity (R34). -/
def QueuesKeyed (s : State) : Prop :=
  (s.line.queue.countP fun e => isDemandMsg e.msg) ≤ 1 ∧
  (∀ c : ConditionNo, (s.line.queue.countP fun e => isCondFor c e.msg) ≤ 1) ∧
  s.cues.records.Pairwise fun a b => a.ident ≠ b.ident

/-- The commit in progress, if one is. -/
def runningCommit (s : State) : Option CommitRun :=
  match s.store.running with
  | some (.commit c) => some c
  | some .mapErase => none
  | some (.mapProgram _ _) => none
  | none => none

/-- A map erase or a map program (R105). -/
def isMapOp : ArrayOp → Bool
  | .commit _ _ => false
  | .mapErase => true
  | .mapProgram _ _ => true

/-- The map operations that are queued or in progress, and the completion notices on their way (R105, R128). -/
def mapWork (s : State) : Nat :=
  s.store.ops.countP isMapOp +
    (if s.store.running.isSome = true ∧ runningCommit s = none then 1 else 0) + s.transit.mapDone.length

/-- At most five map operations are outstanding, each queued, in progress or on its way as a notice (R129). -/
def OutstandingBounded (s : State) : Prop :=
  s.protection.outstanding ≤ 5 ∧ s.protection.outstanding ≤ mapWork s ∧ s.store.ops.length ≤ 4

/-- k_min ≤ k ≤ 32768 for the scale in force (R171), and k_min ≤ k ≤ k_target ≤ 32768 for the last closed
record (R169). -/
def ScaleInRange (s : State) : Prop :=
  s.image.kMin ≤ 32768 ∧ s.image.kMin ≤ s.budget.scale.k ∧ s.budget.scale.k ≤ 32768 ∧
  ∀ r ∈ s.budget.last, s.image.kMin ≤ r.k ∧ r.k ≤ r.kTarget ∧ r.kTarget ≤ 32768

/-- Each peer table entry with two announcements holds them in target order, with distinct targets (R161). -/
def PeersOrdered (s : State) : Prop :=
  ∀ (n : Fin 32) (e : PeerEntry) (b : Announcement), s.budget.peers[n] = some e → e.second = some b →
    e.first.target ≠ b.target ∧ isBefore e.first.target b.target = true

/-- The fixture links and the panel output are live in RUNNING alone (R87, R154, R185). -/
def LiveOnlyRunning (s : State) : Prop :=
  (s.station.state ≠ .running →
    s.fade.enabled = false ∧ s.wall.enabled = false ∧ s.wall.noticeWaits = false ∧
    s.transit.runFade = none ∧ s.transit.runWall = none) ∧
  (s.fade.enabled = false → s.fade.sending = [] ∧ s.fade.packets = .notDue)

/-- The outputs are dark: no level packets on the fixture links and every panel pixel black. -/
def OutputsDark (s : State) : Prop :=
  s.fade.sending = [] ∧ ∀ col row, panelPixel s.wall col row = black

/-- A preset is COMMITTING exactly while its commit is in progress or suspended, and a buffer exactly while its
commit is (R106, R107); the journal names the page of the operation in progress (R99); a commit suspends at
most 8 times and never in VERIFY (R114). -/
def CommitsConsistent (s : State) : Prop :=
  (∀ n : Fin 64, s.store.directory[n].state = .committing ↔ ∃ c ∈ runningCommit s, c.preset = n) ∧
  (∀ b : BufferName, (bufferOf b s.store).state = .committing ↔ ∃ c ∈ runningCommit s, c.buffer = b) ∧
  (∀ c ∈ runningCommit s, s.flash.journal = some (.preset c.preset) ∧ c.suspends ≤ 8 ∧
    (c.suspended = true → c.phase ≠ .verify) ∧
    (c.asked = true → c.phase ≠ .verify ∧ c.suspended = false ∧ c.suspends < 8)) ∧
  (s.store.running.isSome = true → runningCommit s = none → s.flash.journal = some .map)

/-- No operation is queued or in progress before the start scan has ended (R100, R117). -/
def ScanBeforeOperations (s : State) : Prop :=
  (s.station.state = .loading ∨ s.station.state = .setup →
    s.store.running = none ∧ s.store.ops = [] ∧ s.store.scanning = false ∧ s.transit.scanEnd = false) ∧
  (s.store.scanning = true →
    s.store.running = none ∧ s.store.ops = [] ∧ s.transit.scanEnd = false ∧
    (s.station.state = .scanning ∨ s.station.state = .safe))

/-! ### Conditions that statements share -/

/-- A message that passes the receive filter as its kind (R20 to R24). -/
structure Routed (k : Kind) (m : Message) (s : State) : Prop where
  receiving : isReceiving s = true
  check : checkAgrees (kindCode k) m = true
  length : lengthAccepted k m.body.length = true
  kind : k ≠ .report
  source : m.source ≠ s.station.number
  scope : isAddressed k = true → (messageScope m).getLsbD s.station.number.toNat = true
  state : isRouted k s.station.state = true

/-- `c` is the command of a received message of a kind: kinds whose codes name rows of their own, by the code. -/
def Carries (k : Kind) (m : Message) (c : Instr) : Prop :=
  match k with
  | .time => c = .time m
  | .take => ((takeFields m).action ≠ 8 ∧ c = .take m) ∨ ((takeFields m).action = 8 ∧ c = .cancel m)
  | .demand => c = .demand m
  | .cond => c = .cond m
  | .protect => (protectCode m = 1 ∧ c = .protectOn m) ∨ (protectCode m = 0 ∧ c = .protectOff m) ∨
      (1 < (protectCode m).toNat ∧ c = .protectCodeError m)
  | .preset => c = .preset m
  | .commit => c = .commit m
  | .map => (mapCode m = 0 ∧ c = .mapErase m) ∨ (mapCode m = 1 ∧ c = .mapProgram m) ∨
      (1 < (mapCode m).toNat ∧ c = .mapCodeError m)
  | .query => (queryRecord m = 1 ∧ c = .queryStatus m) ∨ (queryRecord m = 2 ∧ c = .queryBudget m) ∨
      (queryRecord m = 3 ∧ c = .queryPeer m) ∨ (queryRecord m = 4 ∧ c = .queryCues m) ∨
      (queryRecord m = 5 ∧ c = .queryLook m) ∨ (queryRecord m = 6 ∧ c = .queryDirectory m) ∨
      (queryRecord m = 7 ∧ c = .queryCounters m) ∨ (queryRecord m = 8 ∧ c = .queryChannel m) ∨
      (queryRecord m = 9 ∧ c = .queryWall m) ∨
      ((queryRecord m = 0 ∨ 9 < (queryRecord m).toNat) ∧ c = .queryUnknownRecord m)
  | .report => c = .reportReceived m
  | .restart => c = .restart m

/-- Every volatile block holds its restart values for a station number (R180). -/
structure AtRestart (number : StationNo) (t : State) : Prop where
  image : t.image = defaultImage
  timebase : t.timebase = timebaseAtRestart
  line : t.line = lineAtRestart number
  cues : t.cues = cuesAtRestart
  conditions : t.conditions = conditionsAtRestart
  look : t.look = lookAtRestart
  fade : t.fade = fadeAtRestart
  store : t.store = storeAtRestart
  protection : t.protection = protectionAtRestart
  wall : t.wall = wallAtRestart 0
  budget : t.budget = budgetAtRestart 4096
  setup : t.setup = setupAtEntry
  flags : t.flags = flagsAtRestart
  counters : t.counters = countersAtRestart
  transit : t.transit = transitAtRestart

/-- The station record after a restart (R179). -/
def RestartedStation (st : Station) (state : StationState) (number : StationNo) (cause : RestartCause)
    (source : Option StationNo) : Prop :=
  st.state = state ∧ st.number = number ∧ st.restartCause = cause ∧ st.restartSource = source ∧
  st.safeCause = none ∧ st.failedCheck = none ∧ st.seekOutcome = none ∧ st.framesCounted = 0 ∧
  st.entryFrame = 0 ∧ st.restartWait = false

/-- The state that entering LOADING gives with a SETUP strap (R180). -/
def loadingOrSetup (setup : Bool) : StationState := if setup then .setup else .loading

/-- The array after a break-off: the journal stands; the page of an operation broken off in the array is damaged, its
void mark as it was, and every other page stands (R99, R118). What a commit in VERIFY has programmed stands (DEDUCED,
log 13). -/
def ArrayBrokenOff (s t : State) : Prop :=
  t.flash.journal = s.flash.journal ∧
  (∀ n : Fin 64, (∀ c ∈ runningCommit s, c.preset = n → c.phase = .verify) →
    t.flash.presets[n] = s.flash.presets[n]) ∧
  (∀ c ∈ runningCommit s, c.phase ≠ .verify →
    t.flash.presets[c.preset] = { s.flash.presets[c.preset] with body := .damaged }) ∧
  t.flash.mapPage = (if s.store.running.isSome = true ∧ runningCommit s = none then
    { s.flash.mapPage with body := .damaged } else s.flash.mapPage) ∧
  (s.store.running = none → t.flash = s.flash)

/-- No row of the configuration store is being programmed. -/
def NoRowProgramming (s : State) : Prop := s.setup.busy = false

/-! ### The transmit queue -/

/-- The entry that `before` precedes is on the line: it is the head, and its copy is being sent (R25). -/
def entryOnLine (l : CueLine) (before : List TxEntry) : Bool :=
  before.isEmpty && l.attempt.any fun a => a.held

/-- `e` is the first entry of the transmit queue that satisfies `p`. -/
def FirstEntry (p : TxMessage → Bool) (l : CueLine) (before : List TxEntry) (e : TxEntry) (after : List TxEntry) :
    Prop :=
  l.queue = before ++ e :: after ∧ p e.msg = true ∧ ∀ x ∈ before, p x.msg = false

/-- `e` is the oldest entry that satisfies `p` and is not on the line. -/
def OldestFree (p : TxMessage → Bool) (l : CueLine) (before : List TxEntry) (e : TxEntry) (after : List TxEntry) :
    Prop :=
  l.queue = before ++ e :: after ∧ p e.msg = true ∧ entryOnLine l before = false ∧
  ∀ (b : List TxEntry) (x : TxEntry) (a : List TxEntry), before = b ++ x :: a → p x.msg = true →
    entryOnLine l b = true

/-- No entry satisfies `p` but one that is on the line. -/
def NoneFree (p : TxMessage → Bool) (l : CueLine) : Prop :=
  ∀ (b : List TxEntry) (x : TxEntry) (a : List TxEntry), l.queue = b ++ x :: a → p x.msg = true →
    entryOnLine l b = true

/-- The line with `m` in the place of the entry `e`: loss count 0, and the replaced mark set when that entry is on
the line (R26, R27). -/
def lineReplaced (m : TxMessage) (l : CueLine) (before : List TxEntry) (e : TxEntry) (after : List TxEntry) :
    CueLine :=
  { l with queue := before ++ { msg := m, losses := 0, replaced := entryOnLine l before || e.replaced } :: after }

/-- The line with `m` at the tail and loss count 0 (R26 to R28). -/
def lineJoined (m : TxMessage) (l : CueLine) : CueLine :=
  { l with queue := l.queue ++ [{ msg := m, losses := 0, replaced := false }] }

/-- The line with `m` at the tail and the entry between `before` and `after` removed. A backoff wait is abandoned
when that entry was the head (R26; for R27 log 21). -/
def lineMadeRoom (m : TxMessage) (l : CueLine) (before after : List TxEntry) : CueLine :=
  { l with
    queue := before ++ after ++ [{ msg := m, losses := 0, replaced := false }]
    backoff := if before = [] then none else l.backoff }

/-! ### What taken cues send -/

/-- The fade start requests of taken records, in list order (R46). -/
def fadesOf (label : FrameNo) (taken : List CueRecord) : List FadeRequest :=
  taken.filterMap fun r => match r.action with
    | .fade p n =>
      some { preset := p, frame := label + 1, total := n, airSafe := r.airSafe, source := .cue r.ident }
    | _ => none

/-- The LOOK HOME actions of taken records, in list order (R46). -/
def homesOf (label : FrameNo) (taken : List CueRecord) : List HomeAction :=
  taken.filterMap fun r => if r.action = .lookHome then some { label := label, ident := r.ident } else none

/-- The wall actions of taken records, in list order (R46). -/
def wallActionsOf (label : FrameNo) (taken : List CueRecord) : List WallAction :=
  taken.filterMap fun r => match r.action with
    | .fade _ _ | .lookHome => none
    | a => some { action := a, label := label, ident := r.ident }

/-! ### The array -/

/-- `u` is `s` with every head read that names an EMPTY or BAD preset off the read queue and answered, in queue
order (R113). -/
def HeadsAnswered (s u : State) : Prop :=
  ∃ flat rest : List ReadRequest, s.store.reads = flat ++ rest ∧
    (∀ r ∈ flat, s.store.directory[r.preset].state = .empty ∨ s.store.directory[r.preset].state = .bad) ∧
    (∀ r ∈ rest.head?, s.store.directory[r.preset].state ≠ .empty ∧ s.store.directory[r.preset].state ≠ .bad) ∧
    u = { s with
      store := { s.store with reads := rest }
      transit := { s.transit with
        answers := s.transit.answers ++ flat.map fun r =>
          { tag := r.tag, kind := if s.store.directory[r.preset].state = .empty then .empty else .bad } } }

/-- The state after the first of the queued operations, `op`, has left the queue `op :: ops` and started: the
journal names its page, and a commit begins in ERASE with suspend count 0 (R99, R106, R107, R111). -/
def operationStarted (op : ArrayOp) (ops : List ArrayOp) (u : State) : State :=
  match op with
  | .commit b n =>
    { u with
      flash := { u.flash with journal := some (.preset n) }
      store := { setBuffer b { bufferOf b u.store with state := .committing } u.store with
        ops := ops
        directory := setAt u.store.directory n { state := .committing, airSafe := false }
        running := some (.commit { buffer := b, preset := n, phase := .erase, suspended := false,
                                   asked := false, suspends := 0 }) } }
  | .mapErase =>
    { u with
      flash := { u.flash with journal := some .map }
      store := { u.store with ops := ops, running := some .mapErase } }
  | .mapProgram first mask =>
    { u with
      flash := { u.flash with journal := some .map }
      store := { u.store with ops := ops, running := some (.mapProgram first mask) } }

/-! ### The budget -/

/-- `t` is what the own demand for the frame after next and the close for the next frame make of `s` at frame
`f` (R160, R164 to R167, R170): the own announcement in the own entry and placed in the transmit queue, the other
entries aged, and the record closed. -/
def AnnouncedAndClosed (s t : State) (f : FrameNo) : Prop :=
  ∃ a : Announcement, a.target = f + 2 ∧
    a.x.toNat = min 65535 (rawFixed s (f + 2)) ∧ a.s.toNat = min 65535 (rawScalable s (f + 2)) ∧
    (a.clamp = true ↔ 65535 < rawFixed s (f + 2) ∨ 65535 < rawScalable s (f + 2)) ∧
    t.line = (placeDemand s.image.group a s).line ∧
    t.budget.peers[s.station.number.toFin] =
      some (entryAfter s.image.group a f s.budget.peers[s.station.number.toFin]) ∧
    (∃ lost : Fin 32 → Bool,
      (∀ n : Fin 32, lost n = true ↔ n ≠ s.station.number.toFin ∧ ∃ p : PeerEntry, s.budget.peers[n] = some p ∧
        isBefore (p.second.getD p.first).target (f + 1) = true ∧
        s.image.peerHold < frameDistance (p.second.getD p.first).target (f + 1)) ∧
      (∀ n : Fin 32, n ≠ s.station.number.toFin →
        t.budget.peers[n] = if lost n then none else s.budget.peers[n]) ∧
      counterOf t .peerLost = saturatingAdd (counterOf s .peerLost) ((List.finRange 32).countP lost)) ∧
    t.budget.last = some (closeRecord { s with budget := t.budget } (f + 1)) ∧
    counterOf t .demandLate = (if ∃ r ∈ s.budget.last, f + 2 = r.target ∨ isBefore (f + 2) r.target = true then
      saturatingAdd (counterOf s .demandLate) 1 else counterOf s .demandLate) ∧
    ∀ x : Counter, x ≠ .peerLost → x ≠ .demandLate →
      counterOf t x = counterOf (placeDemand s.image.group a s) x

/-! ### Records -/

/-- The bytes of a record or a message body hold these fields, each an offset, a number of bytes and a value, most significant byte
first (R194, R195). -/
def HoldsFields (bytes : List Byte) (fields : List (Nat × Nat × Nat)) : Prop :=
  ∀ f ∈ fields, ofBytes ((bytes.drop f.1).take f.2.1) = f.2.2

/-! ### The configuration store -/

/-- Check `n` of R182 passes, with the ranges of R159, R138 and R61, on the bytes of the store at the addresses of
R197. -/
def PassesCheck (m : Memory) (n : Nat) : Prop :=
  let b := fun a : Nat => (memRead m a).toNat
  let w := fun a : Nat => 256 * b a + b (a + 1)
  let used := fun l : Nat => l < 8 ∧ b (580 + 7 * l) = 1
  match n with
  | 1 => 10000 ≤ w 11 ∧ w 11 ≤ 50000
  | 2 => (1 ≤ b 13 ∧ b 13 ≤ 255) ∧ (2 ≤ b 14 ∧ b 14 ≤ 15)
  | 3 => b 10 ≤ 15
  | 4 => (1 ≤ w 1 ∧ w 1 ≤ 65535) ∧ w 3 ≤ 32768 ∧ (1 ≤ w 5 ∧ w 5 ≤ 32768) ∧ (1 ≤ b 9 ∧ b 9 ≤ 255)
  | 5 => ∀ c : Channel, b (64 + 4 * c.val) ≤ 2
  | 6 => b 16 < 64 ∨ b 16 = 255
  | 7 =>
    (1 ≤ w 19 ∧ w 19 ≤ 8192) ∧ (1 ≤ w 21 ∧ w 21 ≤ 4096) ∧ (w 23 ≤ w 25 ∧ w 25 < w 19) ∧
    (w 27 ≤ w 29 ∧ w 29 < w 21) ∧ w 25 - w 23 + 1 ≤ 1024 ∧ w 29 - w 27 + 1 ≤ 576
  | 8 =>
    used (b 636) ∧
    (∀ l : LookNo, b (580 + 7 * l.val) ≤ 1 ∧ (used l.val →
      (1 ≤ b (586 + 7 * l.val) ∧ b (586 + 7 * l.val) ≤ 255) ∧
      (b (581 + 7 * l.val) < 64 ∨ b (581 + 7 * l.val) = 255) ∧
      (b (584 + 7 * l.val) < 4 ∨ b (584 + 7 * l.val) = 255) ∧ b (585 + 7 * l.val) ≤ 1)) ∧
    b 637 ≤ 24 ∧
    (∀ i < b 637, used (b (639 + 4 * i)) ∧ (b (638 + 4 * i) = 8 ∨ used (b (638 + 4 * i))) ∧
      b (638 + 4 * i) ≠ b (639 + 4 * i) ∧ b (640 + 4 * i) < 24 ∧ b (641 + 4 * i) ≤ 1) ∧
    (∀ l : LookNo, (List.range (b 637)).countP (fun i => decide (b (639 + 4 * i) = l.val)) ≤ 3) ∧
    (∀ p : Fin 4, b (576 + p.val) < 24 ∨ b (576 + p.val) = 255)
  | 9 => b 15 ≤ 1
  | _ => True

end Sys2Proof.Machine
end

