-- ==== Sys2Proof/Certificates/Slice0/Obligations.lean ====
section
/-! DEFINITION. The statements for the provers. "Completes" means: exec answers a next state. -/

open Sys2Proof Sys2Proof.Machine

/-! ### The machine as a whole -/

/-- A step runs the command at the front of the queue on the state with the queue's rest; an empty queue idles (the
model's choice, log 3). -/
def Obligations.StepRunsFrontCommand : Prop :=
  (∀ (c : Instr) (rest : List Instr) (s : State),
    step { s with pending := c :: rest } = exec c { s with pending := rest }) ∧
  ∀ s : State, s.pending = [] → step s = .next s

/-- Every command completes, and none touches the queue of waiting commands. The model's choice: a command whose
event cannot occur in a state completes with no effect (log 2), and so do commands while the supply is down (log 17).
-/
def Obligations.EveryCommandCompletes : Prop :=
  ∀ (c : Instr) (s : State), ∃ t, exec c s = .next t ∧ t.pending = s.pending

/-- Every step keeps the configuration store and both wall banks in canonical form. -/
def Obligations.StepKeepsStoresCanonical : Prop :=
  ∀ s t : State, StoresCanonical s → step s = .next t → StoresCanonical t

/-- Every step keeps the bounds of the transmit queue, the cue list, the request list, the array operation queue and
the preset read queue (R25, R34, R76, R105, R112). Every step keeps at most one DEMAND and at most one COND for a
condition in the transmit queue, and at most one record for an identity in the cue list (R25, R34). Every step keeps
the outstanding map operations at 5 or fewer, none of them without an operation queued or in progress or a notice on
its way (R105, R129; a completion notice that waits is taken before a sixth is counted, log 45). -/
def Obligations.StepKeepsQueuesBounded : Prop :=
  (∀ s t : State, QueuesBounded s → step s = .next t → QueuesBounded t) ∧
  (∀ s t : State, QueuesKeyed s → step s = .next t → QueuesKeyed t) ∧
  (∀ s t : State, OutstandingBounded s → step s = .next t → OutstandingBounded t)

/-- Every step keeps k_min ≤ k ≤ 32768 for the scale in force, and k_min ≤ k ≤ k_target ≤ 32768 for the last closed
record (R169, R171). Every step keeps every peer table entry's two announcements at distinct targets in target order
(R161). -/
def Obligations.StepKeepsBudgetConsistent : Prop :=
  (∀ s t : State, ScaleInRange s → step s = .next t → ScaleInRange t) ∧
  (∀ s t : State, PeersOrdered s → step s = .next t → PeersOrdered t)

/-- Every step keeps the backoff register from being 0, and the seed of every station is not 0 (R31). -/
def Obligations.BackoffRegisterNeverZero : Prop :=
  (∀ s t : State, s.line.register ≠ 0 → step s = .next t → t.line.register ≠ 0) ∧
  ∀ n : StationNo, 1 ≤ (backoffSeed n).toNat ∧ (backoffSeed n).toNat ≤ 218

/-- Every step keeps this: a preset is COMMITTING exactly while its commit is in progress or suspended, and the
journal names the page of the operation in progress (R99, R106, R114). -/
def Obligations.StepKeepsCommitsConsistent : Prop :=
  ∀ s t : State, CommitsConsistent s → ScanBeforeOperations s → step s = .next t →
    CommitsConsistent t ∧ ScanBeforeOperations t

/-- Every step keeps the outputs from being live outside RUNNING, and outside RUNNING they are dark (R87, R154,
R185). -/
def Obligations.OutputsDarkOutsideRunning : Prop :=
  (∀ s t : State, LiveOnlyRunning s → step s = .next t → LiveOnlyRunning t) ∧
  ∀ s : State, LiveOnlyRunning s → s.station.state ≠ .running → OutputsDark s

/-- The state after reset meets every invariant. -/
def Obligations.ResetMeetsInvariants : Prop :=
  StoresCanonical State.reset ∧ QueuesBounded State.reset ∧ ScaleInRange State.reset ∧
  PeersOrdered State.reset ∧ State.reset.line.register ≠ 0 ∧ CommitsConsistent State.reset ∧
  ScanBeforeOperations State.reset ∧ LiveOnlyRunning State.reset ∧ QueuesKeyed State.reset ∧
  OutstandingBounded State.reset

/-! ### Frame numbers and the line code -/

/-- Distances of frame numbers: at half the number space each of two frames is before the other and neither is after;
every other pair of different frames is before one way and after the other (R12). -/
def Obligations.FrameOrder : Prop :=
  ∀ a b : FrameNo,
    (frameDistance a b = 8388608 →
      isBefore b a = true ∧ isBefore a b = true ∧ isAfter b a = false ∧ isAfter a b = false) ∧
    (frameDistance a b ≠ 8388608 →
      isAfter b a = isBefore a b ∧ (a ≠ b → isAfter b a = !isBefore b a) ∧
      (a = b → isAfter b a = false ∧ isBefore b a = false))

/-- A receiver that removes the stuff bits gets back the bits the sender stuffed (R19). No run on the line exceeds 7
bits (R19). -/
def Obligations.LineCodeStuffing : Prop :=
  (∀ bs : List Bool, unstuff (stuff bs) = some bs) ∧
  (∀ bs : List Bool, longestRun (stuff bs) ≤ 7)

/-- A receiver reads from the bits of a message on the line its kind code, source, body and check value (R18, R19).
-/
def Obligations.ReadLineBitsOfMessage : Prop :=
  ∀ (code : BitVec 4) (m : Message), m.body.length ≤ 68 → readLineBits (lineBits code m) = some (code, m)

/-! ### The cue line -/

/-- The receive filter hands a message to an owner exactly when the station receives and the message meets R20 to
R24. That a station receives is the model's condition: the interface is active past its synchronising wait, also at
GAP or IDLE with no start pattern seen (log 7), and sends no attempt of its own (log 8). Entry n of a scope is bit n
mod 8 of its byte 3 − floor(n / 8) (R194). -/
def Obligations.FilterRoutesExactly : Prop :=
  (∀ (code : BitVec 4) (k : Kind) (m : Message) (s : State),
    filterMessage code m s = .routed k ↔ code = kindCode k ∧ Routed k m s) ∧
  (∀ (m : Message) (n : Fin 32) (b : Byte), 4 ≤ m.body.length → m.body[3 - n.val / 8]? = some b →
    (messageScope m).getLsbD n.val = b.getLsbD (n.val % 8))

/-- CHECK_VALUE_MISMATCH, UNKNOWN_KIND and REPORT_RECEIVED complete: the message is dropped with CRC_ERR, KIND_ERR or
no count, the line state becomes GAP and nothing else changes (R16, R20, R21). The command of any other message whose
check value agrees completes in the same way when the receive filter drops it, at the first step that does: a length
its kind does not have counts CRC_ERR (R21), the own number as source SOURCE_CLASH (R22), a scope without the own
number counts nothing (R23), and a station state that does not route the kind counts NOT_READY (R24). That the
station receives is the model's condition (logs 7 and 8). -/
def Obligations.DroppedMessages : Prop :=
  (∀ (kind : BitVec 4) (m : Message) (s : State), isReceiving s = true → checkAgrees kind m = false →
    exec (.checkValueMismatch kind m) s =
      .next (count .crcErr { s with line := { s.line with lineState := .gap } })) ∧
  (∀ (kind : BitVec 4) (m : Message) (s : State), isReceiving s = true → m.body.length ≤ 68 →
    checkAgrees kind m = true → kindOfCode kind = none →
    exec (.unknownKind kind m) s =
      .next (count .kindErr { s with line := { s.line with lineState := .gap } })) ∧
  (∀ (m : Message) (s : State), isReceiving s = true → checkAgrees 10 m = true → 2 ≤ m.body.length →
    m.body.length ≤ 64 → m.source ≠ s.station.number →
    exec (.reportReceived m) s = .next { s with line := { s.line with lineState := .gap } }) ∧
  (∀ (k : Kind) (m : Message) (c : Instr) (s : State), Carries k m c → isReceiving s = true →
    checkAgrees (kindCode k) m = true →
    let gap : State := { s with line := { s.line with lineState := .gap } }
    let length := m.body.length
    let lengthFits := match k with
      | .time => length = 3
      | .take => length = 14
      | .demand => length = 9
      | .cond => length = 2
      | .protect => length = 5
      | .preset => 12 ≤ length ∧ length ≤ 58 ∧ length % 2 = 0
      | .commit | .query => length = 6
      | .map => length = 10
      | .report => 2 ≤ length ∧ length ≤ 64
      | .restart => length = 4
    let inScope := match k with
      | .time | .demand | .cond | .report => True
      | .take | .protect | .preset | .commit | .map | .query | .restart =>
        (messageScope m).getLsbD s.station.number.toNat = true
    let st := s.station.state
    let routed := match k with
      | .time | .demand | .cond | .restart => st = .scanning ∨ st = .seeking ∨ st = .joining ∨ st = .running
      | .query => st = .scanning ∨ st = .seeking ∨ st = .joining ∨ st = .running ∨ st = .safe
      | .take | .protect | .preset | .commit | .map => st = .joining ∨ st = .running
      | .report => False
    (¬ lengthFits → exec c s = .next (count .crcErr gap)) ∧
    (lengthFits → m.source = s.station.number → exec c s = .next (count .sourceClash gap)) ∧
    (lengthFits → m.source ≠ s.station.number →
      (¬ inScope → exec c s = .next gap) ∧
      (inScope → ¬ routed → k ≠ .report → exec c s = .next (count .notReady gap))))

/-- LINE_IDLE, SYNCHRONISING_WAIT_END, START_PATTERN, START_PATTERN_ERROR, FRAMING_ERROR and BACKOFF_WAIT_END
complete with these line states and nothing else changed but the count of CRC_ERR (R16, R17, R19, R31). A backoff
wait that a dominant bit interrupts keeps the slots already counted, and ends at IDLE when none is left (R31). -/
def Obligations.LineStates : Prop :=
  ((∀ s : State, lineActive s = true → s.line.lineState = .gap → s.line.backoff = none →
     exec .lineIdle s = .next { s with line := { s.line with lineState := .idle } }) ∧
   (∀ s : State, isLive s = true → lineActive s = true → s.line.lineState = .untracked →
     exec .synchronisingWaitEnd s = .next { s with line := { s.line with lineState := .idle } }) ∧
   (∀ (s : State) (n : Nat), lineActive s = true → (s.line.lineState = .gap ∨ s.line.lineState = .idle) →
     s.line.backoff = none →
     exec (.startPattern n) s = .next { s with line := { s.line with lineState := .busy } }) ∧
   (∀ s : State, lineActive s = true → s.line.lineState = .busy → s.line.attempt = none →
     exec .startPatternError s = .next { s with line := { s.line with lineState := .gap } } ∧
     exec .framingError s = .next (count .crcErr { s with line := { s.line with lineState := .gap } })) ∧
   (∀ s : State, lineActive s = true → s.line.lineState = .idle → s.line.backoff ≠ none →
     exec .backoffWaitEnd s = .next { s with line := { s.line with backoff := none } })) ∧
  (∀ (s : State) (b : Backoff) (n : Nat), lineActive s = true → s.line.backoff = some b →
     (s.line.lineState = .idle →
       exec (.startPattern n) s = .next { s with line := { s.line with
         lineState := .busy
         backoff := some { b with counted := min b.slots (b.counted + n) } } }) ∧
     (s.line.lineState = .gap →
       exec .lineIdle s = .next { s with line := { s.line with
         lineState := .idle
         backoff := if b.slots ≤ b.counted then none else some b } }))

/-- ATTEMPT_START and ATTEMPT_WON complete: a copy of the head goes on the line under the own station number with its
replaced mark cleared; at the win the entry leaves the queue, or stays with loss count 0 when replaced, the line
becomes GAP, and DEMAND_LOST is cleared for a DEMAND (R29, R30, R32). ATTEMPT_LOST and MESSAGE_DISCARD complete.
CONTENTION_LOSS is counted. A loss that leaves a loss count below 16 draws a backoff from the stepped register; the
sixteenth discards the message with TX_DISCARD, raising DEMAND_LOST for a DEMAND, and draws none (R30 to R32). That
MESSAGE_DISCARD is the whole of the sixteenth loss is the model's choice (log 6). The bits of an attempt are those of
a message with an agreeing check value, the attempt's source and the payload of its DEMAND, COND or REPORT (R18,
R194). -/
def Obligations.AttemptsWonAndLost : Prop :=
  ((∀ (s : State) (e : TxEntry) (es : List TxEntry), lineActive s = true → s.line.lineState = .idle →
     s.line.queue = e :: es → s.line.attempt = none → s.line.backoff = none →
     exec .attemptStart s = .next { s with line := { s.line with
       lineState := .busy
       queue := { e with replaced := false } :: es
       attempt := some { copy := e.msg, source := s.station.number, held := true } } }) ∧
   (∀ (s : State) (e : TxEntry) (es : List TxEntry) (m : TxMessage) (own : StationNo),
     s.line.attempt = some { copy := m, source := own, held := true } → s.line.closing = false → s.line.queue = e :: es →
     exec .attemptWon s = .next { s with
       line := { s.line with
         lineState := .gap
         attempt := none
         queue := if e.replaced then { e with losses := 0, replaced := false } :: es else es }
       flags := { s.flags with demandLost := s.flags.demandLost && !isDemandMsg m } })) ∧
  (∀ (s : State) (e : TxEntry) (es : List TxEntry) (m : TxMessage) (own : StationNo) (n : Nat),
     s.line.attempt = some { copy := m, source := own, held := true } → s.line.closing = false → s.line.queue = e :: es →
     n = (if e.replaced then e.losses else e.losses + 1) →
     (n < 16 → exec .attemptLost s = .next (count .contentionLoss { s with line := { s.line with
       queue := { e with losses := n, replaced := false } :: es
       attempt := none
       register := stepRegister s.line.register
       backoff := some { slots := (stepRegister s.line.register).toNat % 2 ^ min n 5, counted := 0 } } })) ∧
     (16 ≤ n → exec .messageDiscard s = exec .attemptLost s ∧
       exec .messageDiscard s = .next (count .txDiscard (count .contentionLoss { s with
         line := { s.line with queue := es, attempt := none }
         flags := { s.flags with demandLost := s.flags.demandLost || isDemandMsg e.msg } })))) ∧
  (∀ (s : State) (a : Attempt), s.line.attempt = some a →
     let sent := fun (code : BitVec 4) (body : List Byte) => ∃ m : Message,
       attemptBits s = some (lineBits code m) ∧ m.source = a.source ∧ m.body = body ∧ checkAgrees code m = true
     (∀ (group : Byte) (x : Announcement), a.copy = .demand group x → ∃ body : List Byte, sent 3 body ∧
       body.length = 9 ∧ HoldsFields body [(0, 1, group.toNat), (1, 3, x.target.toNat), (4, 2, x.x.toNat),
         (6, 2, x.s.toNat), (8, 1, x.clamp.toNat)]) ∧
     (∀ (c : ConditionNo) (v : Bool), a.copy = .cond c v →
       sent 4 [BitVec.ofNat 8 c.val, BitVec.ofNat 8 v.toNat]) ∧
     (∀ (record index : Byte) (contents : List Byte), a.copy = .report record index contents →
       sent 10 (record :: index :: contents)))

/-! ### Timebase -/

/-- INTERNAL_TIMER_EXPIRY completes in ACQUIRE and FLYWHEEL: a frame start at one period after the last, with the
pending TIME value or the next number, the adoption mark and TIME_JUMP, handed to the six blocks (R8, R11, R14).
LOSS_DEADLINE and SEEK_END complete: loss of lock gives FLYWHEEL with the pulse history cleared, GENLOCK_LOSS and a
frame start P + floor(P / 4) after the reference pulse; the seek end turns ACQUIRE into FLYWHEEL, keeping the pulse
history, and does nothing in LOCKED and FLYWHEEL (R7, R9). TIME completes: the frame number of its payload becomes
the pending TIME value of a started timebase, in place of any pending before (R13). What the loss deadline issues is
the frame start of the next number, as at an internal expiry (R11, R14). The record's times are whole microseconds
(R1, log 9). -/
def Obligations.TimebaseEvents : Prop :=
  (∀ (s : State) (l : Micros) (e : FrameEvent), s.timebase.timerRunning = true →
     s.timebase.lock ≠ .locked → s.timebase.lastStart = some l →
     e.frame = s.timebase.pendingTime.getD (s.timebase.frame + 1) →
     (e.adopted = true ↔ e.frame ≠ s.timebase.frame + 1) → e.serial = s.timebase.issued + 1 →
     exec .internalTimerExpiry s = .next (countIf e.adopted .timeJump { s with
       timebase := { s.timebase with
         frame := e.frame
         pendingTime := none
         lastStart := some (l + s.image.period)
         issued := e.serial }
       transit := { s.transit with
         cueFrames := s.transit.cueFrames ++ [e]
         lookFrames := s.transit.lookFrames ++ [e]
         fadeFrames := s.transit.fadeFrames ++ [e]
         wallFrames := s.transit.wallFrames ++ [e]
         budgetFrames := s.transit.budgetFrames ++ [e]
         ctrlFrames := s.transit.ctrlFrames ++ [e] } })) ∧
  ((∀ (s : State) (r : Micros), s.timebase.timerRunning = true → s.timebase.lock = .locked →
     s.timebase.reference = some r →
     exec .lossDeadline s = .next (issueFrameStart (r + s.image.period + s.image.period / 4)
       (count .genlockLoss { s with timebase := { s.timebase with
         lock := .flywheel, reference := none, run := 0 } }))) ∧
   (∀ s : State, s.transit.seekEnd = true → s.timebase.timerRunning = true →
     (s.timebase.lock = .acquire → exec .seekEnd s = .next { s with
       timebase := { s.timebase with lock := .flywheel }
       transit := { s.transit with seekEnd := false } }) ∧
     (s.timebase.lock ≠ .acquire → exec .seekEnd s = .next { s with
       transit := { s.transit with seekEnd := false } }))) ∧
  (∀ (m : Message) (s : State), Routed .time m s → s.timebase.timerRunning = true →
     exec (.time m) s = .next { s with
       line := { s.line with lineState := .gap }
       timebase := { s.timebase with
         pendingTime := some (BitVec.ofNat 24 (ofBytes (m.body.take 3))) } }) ∧
  (∀ (s : State) (now : Micros) (e : FrameEvent),
     e.frame = s.timebase.pendingTime.getD (s.timebase.frame + 1) →
     (e.adopted = true ↔ e.frame ≠ s.timebase.frame + 1) → e.serial = s.timebase.issued + 1 →
     issueFrameStart now s = countIf e.adopted .timeJump { s with
       timebase := { s.timebase with
         frame := e.frame
         pendingTime := none
         lastStart := some now
         issued := e.serial }
       transit := { s.transit with
         cueFrames := s.transit.cueFrames ++ [e]
         lookFrames := s.transit.lookFrames ++ [e]
         fadeFrames := s.transit.fadeFrames ++ [e]
         wallFrames := s.transit.wallFrames ++ [e]
         budgetFrames := s.transit.budgetFrames ++ [e]
         ctrlFrames := s.transit.ctrlFrames ++ [e] } })

/-- GENLOCK_PULSE completes in ACQUIRE and FLYWHEEL: an interval from P − floor(P/50) to P + floor(P/50) adds one to
the run, any other pulse sets it to 0, and each becomes the reference pulse; the pulse that makes the run 4 locks
with run 0, and issues a frame start when the frame in progress has run floor(P/2) or more (R3 to R5). GENLOCK_PULSE
completes in LOCKED: a pulse in tolerance is accepted and issues a frame start at once; any other is rejected with
PULSE_REJECT and leaves the reference pulse (R6). An edge less than 1 µs after the edge before it is the same pulse
and does nothing more (R3). The record's times are whole microseconds, so an interval is the whole microseconds of
the edge less the recorded ones (R1); edges are told apart in nanoseconds, and each is compared with the one before
it (log 9). That an edge from before the timebase starts is not remembered is the model's choice (log 44). -/
def Obligations.GenlockPulses : Prop :=
  (∀ (s : State) (now : Nanos) (r l : Micros), s.timebase.timerRunning = true →
     (∀ edge : Nanos, s.timebase.lastEdge = some edge → 1000 ≤ now - edge) →
     s.timebase.lock ≠ .locked → s.timebase.lastStart = some l →
     let interval := now / 1000 - r
     (s.timebase.reference = none ∨ (s.timebase.reference = some r ∧
         ¬ (s.image.period - s.image.period / 50 ≤ interval ∧ interval ≤ s.image.period + s.image.period / 50)) →
       exec (.genlockPulse now) s = .next { s with timebase := { s.timebase with
         lastEdge := some now, reference := some (now / 1000), run := 0 } }) ∧
     (s.timebase.reference = some r →
       s.image.period - s.image.period / 50 ≤ interval → interval ≤ s.image.period + s.image.period / 50 →
       (s.timebase.run < 3 → exec (.genlockPulse now) s = .next { s with timebase := { s.timebase with
         lastEdge := some now, reference := some (now / 1000), run := s.timebase.run + 1 } }) ∧
       (s.timebase.run = 3 →
         (now / 1000 - l < s.image.period / 2 → exec (.genlockPulse now) s = .next { s with
           timebase := { s.timebase with
             lastEdge := some now, reference := some (now / 1000), run := 0, lock := .locked } }) ∧
         (s.image.period / 2 ≤ now / 1000 - l →
           exec (.genlockPulse now) s = .next (issueFrameStart (now / 1000) { s with
             timebase := { s.timebase with
               lastEdge := some now, reference := some (now / 1000), run := 0, lock := .locked } }))))) ∧
  (∀ (s : State) (now : Nanos) (r : Micros), s.timebase.timerRunning = true →
     (∀ edge : Nanos, s.timebase.lastEdge = some edge → 1000 ≤ now - edge) →
     s.timebase.lock = .locked → s.timebase.reference = some r →
     let interval := now / 1000 - r
     (s.image.period - s.image.period / 50 ≤ interval → interval ≤ s.image.period + s.image.period / 50 →
       exec (.genlockPulse now) s = .next (issueFrameStart (now / 1000) { s with timebase := { s.timebase with
         lastEdge := some now, reference := some (now / 1000) } })) ∧
     (¬ (s.image.period - s.image.period / 50 ≤ interval ∧ interval ≤ s.image.period + s.image.period / 50) →
       exec (.genlockPulse now) s = .next (count .pulseReject { s with timebase := { s.timebase with
         lastEdge := some now } }))) ∧
  (∀ (s : State) (now edge : Nanos), s.timebase.timerRunning = true → s.timebase.lastEdge = some edge →
     now - edge < 1000 →
     exec (.genlockPulse now) s = .next { s with timebase := { s.timebase with lastEdge := some now } })

/-! ### Cue list -/

/-- TAKE completes. A STALE cue counts CUE_STALE. A PENDING or LATE cue of a new identity counts CUE_OVERFLOW at a
full list, and is otherwise placed at its effective target after every record whose offset is not greater, with
CUE_LATE when LATE (R35 to R40). TAKE and CANCEL complete on a held identity: a replacement at the same effective
target keeps its place and counts CUE_REPLACED, with CUE_LATE when LATE, and one at another target is taken out and
placed after every record already at the new one; a STALE cue counts CUE_STALE alone, also on a held identity (R38);
CANCEL removes the record, and counts CANCEL_MISS when no record has the identity (R39, R42). Action codes 1 to 7
name their actions with the arguments they use; 0 and 9 to 255 count ARG_ERR (R36). The fields stand in the TAKE's
payload, which follows the scope, at the offsets of R194. -/
def Obligations.TakeAndCancel : Prop :=
  (∀ (m : Message) (s : State) (a : CueAction), Routed .take m s → cueAction (takeFields m) = some a →
     (∀ r ∈ s.cues.records, r.ident ≠ { source := m.source, id := (takeFields m).cueId }) →
     let target := (takeFields m).target
     let gap : State := { s with line := { s.line with lineState := .gap } }
     let isLate := !isAfter target s.cues.frame
     (isLate = true → s.image.lateWindow < frameDistance target s.cues.frame →
       exec (.take m) s = .next (count .cueStale gap)) ∧
     ((isLate = true → frameDistance target s.cues.frame ≤ s.image.lateWindow) →
       (16 ≤ s.cues.records.length → exec (.take m) s = .next (count .cueOverflow gap)) ∧
       (s.cues.records.length < 16 → ∃ (before after : List CueRecord) (r : CueRecord),
         s.cues.records = before ++ after ∧
         r = { ident := { source := m.source, id := (takeFields m).cueId }
               target := if isLate then s.cues.frame + 1 else target
               action := a, airSafe := (takeFields m).airSafe, late := isLate } ∧
         (∀ x ∈ before, frameOffset x.target s.cues.frame ≤ frameOffset r.target s.cues.frame) ∧
         (∀ x ∈ after.head?, frameOffset r.target s.cues.frame < frameOffset x.target s.cues.frame) ∧
         exec (.take m) s = .next (countIf isLate .cueLate
           { gap with cues := { s.cues with records := before ++ r :: after } })))) ∧
  ((∀ (m : Message) (s : State) (a : CueAction) (before after : List CueRecord) (old : CueRecord),
     Routed .take m s → cueAction (takeFields m) = some a →
     s.cues.records = before ++ old :: after →
     old.ident = { source := m.source, id := (takeFields m).cueId } →
     (∀ x ∈ before, x.ident ≠ old.ident) →
     (isAfter (takeFields m).target s.cues.frame = true ∨
       frameDistance (takeFields m).target s.cues.frame ≤ s.image.lateWindow) →
     let isLate := !isAfter (takeFields m).target s.cues.frame
     old.target = (if isLate then s.cues.frame + 1 else (takeFields m).target) →
     exec (.take m) s = .next (countIf isLate .cueLate (count .cueReplaced { s with
       line := { s.line with lineState := .gap }
       cues := { s.cues with records := before ++
         { old with action := a, airSafe := (takeFields m).airSafe, late := isLate } :: after } }))) ∧
   (∀ (m : Message) (s : State), Routed .take m s → (takeFields m).action = 8 →
     (∀ (before after : List CueRecord) (old : CueRecord), s.cues.records = before ++ old :: after →
       old.ident = { source := m.source, id := (takeFields m).cueId } →
       (∀ x ∈ before, x.ident ≠ old.ident) →
       exec (.cancel m) s = .next { s with
         line := { s.line with lineState := .gap }
         cues := { s.cues with records := before ++ after } }) ∧
     ((∀ r ∈ s.cues.records, r.ident ≠ { source := m.source, id := (takeFields m).cueId }) →
       exec (.cancel m) s = .next (count .cancelMiss { s with line := { s.line with lineState := .gap } })))) ∧
  (∀ (m : Message) (s : State) (a : CueAction), Routed .take m s → cueAction (takeFields m) = some a →
     let target := (takeFields m).target
     let gap : State := { s with line := { s.line with lineState := .gap } }
     let isLate := !isAfter target s.cues.frame
     (isLate = true → s.image.lateWindow < frameDistance target s.cues.frame →
       exec (.take m) s = .next (count .cueStale gap)) ∧
     ((isLate = true → frameDistance target s.cues.frame ≤ s.image.lateWindow) →
       ∀ (before after : List CueRecord) (old : CueRecord), s.cues.records = before ++ old :: after →
         old.ident = { source := m.source, id := (takeFields m).cueId } → (∀ x ∈ before, x.ident ≠ old.ident) →
         old.target ≠ (if isLate then s.cues.frame + 1 else target) →
         ∃ (front back : List CueRecord) (r : CueRecord), before ++ after = front ++ back ∧
           r = { ident := old.ident, target := if isLate then s.cues.frame + 1 else target
                 action := a, airSafe := (takeFields m).airSafe, late := isLate } ∧
           (∀ x ∈ front, frameOffset x.target s.cues.frame ≤ frameOffset r.target s.cues.frame) ∧
           (∀ x ∈ back.head?, frameOffset r.target s.cues.frame < frameOffset x.target s.cues.frame) ∧
           exec (.take m) s = .next (countIf isLate .cueLate (count .cueReplaced { gap with
             cues := { s.cues with records := front ++ r :: back } })))) ∧
  (∀ (m : Message) (s : State), Routed .take m s →
     ((takeFields m).action = 0 ∨ 9 ≤ (takeFields m).action.toNat →
       exec (.take m) s = .next (count .argErr { s with line := { s.line with lineState := .gap } }))) ∧
  (∀ f : TakeFields,
     (f.action = 1 → cueAction f = some (.fade f.arg f.frames)) ∧ (f.action = 2 → cueAction f = some .wallFreeze) ∧
     (f.action = 3 → cueAction f = some .wallRun) ∧ (f.action = 4 → cueAction f = some .wallMute) ∧
     (f.action = 5 → cueAction f = some .wallUnmute) ∧ (f.action = 6 → cueAction f = some (.wallProfile f.arg)) ∧
     (f.action = 7 → cueAction f = some .lookHome) ∧
     (f.action = 0 ∨ 8 ≤ f.action.toNat → cueAction f = none)) ∧
  (∀ m : Message, m.body.length = 14 →
     let f := takeFields m
     HoldsFields m.body [(4, 2, f.cueId.toNat), (6, 3, f.target.toNat), (9, 1, f.action.toNat),
       (11, 1, f.arg.toNat), (12, 2, f.frames.toNat)] ∧
     (f.airSafe = true ↔ ofBytes ((m.body.drop 10).take 1) % 2 = 1))

/-- CUE_LIST_FRAME_START completes. With the adoption mark the records whose offset the adoption carries past
+8,388,607 are removed, counting CUE_STALE for each, and the list is sorted again by increasing offset from the
adopted number, records with equal targets keeping their order (R45; an adopted number half the number space away
counts as behind the old one, log 38). Records behind by more than the late window are removed, counting CUE_STALE
for each; in TAKE mode the records from the late window to the current frame are taken, counting CUE_LATE for each
that is behind with its late flag clear, and their actions and nothing else are sent in list order, labelled F, FADE
cues with start frame F + 1; in HOLD mode none is taken (R44, R46). RUN_NOTICE_CUE_LIST completes: the mode becomes
TAKE; the records due are taken at once in the same way, labelled with the current frame, when frame start F_r has
been taken already, and stay otherwise (R48). -/
def Obligations.CueListTakesDueRecords : Prop :=
  (∀ (s : State) (e : FrameEvent) (es : List FrameEvent), s.transit.cueFrames = e :: es →
     let off := fun r : CueRecord => frameOffset r.target e.frame
     let w : Int := s.image.lateWindow
     let moved := fun r : CueRecord => frameOffset r.target s.cues.frame - frameOffset e.frame s.cues.frame
     let outrun := fun r : CueRecord => e.adopted && decide (8388607 < moved r)
     let kept := s.cues.records.filter fun r => !outrun r
     ∃ (t : State) (sorted taken : List CueRecord), exec .cueListFrameStart s = .next t ∧
       (e.adopted = false → sorted = s.cues.records) ∧
       (e.adopted = true → sorted.Perm kept ∧ sorted.Pairwise (fun a b => off a ≤ off b) ∧
         ∀ f : FrameNo, sorted.filter (fun r => r.target == f) = kept.filter (fun r => r.target == f)) ∧
       taken = (match s.cues.mode with
         | .take => sorted.filter fun r => decide (-w ≤ off r) && decide (off r ≤ 0)
         | .hold => []) ∧
       t = { s with
         cues := { s.cues with
           frame := e.frame
           taken := e.serial
           records := sorted.filter fun r =>
             decide (0 < off r) || (decide (-w ≤ off r) && decide (s.cues.mode = .hold)) }
         transit := { s.transit with
           cueFrames := es
           cueFades := s.transit.cueFades ++ fadesOf e.frame taken
           homes := s.transit.homes ++ homesOf e.frame taken
           wallActions := s.transit.wallActions ++ wallActionsOf e.frame taken }
         counters := t.counters } ∧
       counterOf t .cueStale = saturatingAdd (counterOf s .cueStale)
         (s.cues.records.countP fun r => outrun r || decide (off r < -w)) ∧
       counterOf t .cueLate = saturatingAdd (counterOf s .cueLate)
         (taken.countP fun r => decide (off r < 0) && !r.late) ∧
       ∀ x : Counter, x ≠ .cueStale → x ≠ .cueLate → counterOf t x = counterOf s x) ∧
  (∀ (s : State) (n : Notice), s.transit.runCue = some n →
     let off := fun r : CueRecord => frameOffset r.target s.cues.frame
     let w : Int := s.image.lateWindow
     (s.cues.taken < n.serial → exec .runNoticeCueList s = .next { s with
       cues := { s.cues with mode := .take }
       transit := { s.transit with runCue := none } }) ∧
     (n.serial ≤ s.cues.taken → ∃ (t : State) (taken : List CueRecord), exec .runNoticeCueList s = .next t ∧
       taken = s.cues.records.filter (fun r => decide (-w ≤ off r) && decide (off r ≤ 0)) ∧
       t = { s with
         cues := { s.cues with
           mode := .take
           records := s.cues.records.filter fun r => decide (off r < -w) || decide (0 < off r) }
         transit := { s.transit with
           runCue := none
           cueFades := s.transit.cueFades ++ fadesOf s.cues.frame taken
           homes := s.transit.homes ++ homesOf s.cues.frame taken
           wallActions := s.transit.wallActions ++ wallActionsOf s.cues.frame taken }
         counters := t.counters } ∧
       counterOf t .cueLate = saturatingAdd (counterOf s .cueLate)
         (taken.countP fun r => decide (off r < 0) && !r.late) ∧
       ∀ x : Counter, x ≠ .cueLate → counterOf t x = counterOf s x))

/-! ### Conditions and the look machine -/

/-- COND completes: a value change takes the next stamp and notifies the look machine; a touch takes the source
alone; a condition number above 23 or a value code above 1 counts ARG_ERR (R52 to R54). The notice carries the value
and the stamp from before the change (the model's field, log 37). An action of any source on an entry does the same
(R53). Condition number and value code are the first and the second payload byte (R194). -/
def Obligations.CondActsOnEntry : Prop :=
  (∀ (m : Message) (s : State), Routed .cond m s →
    let gap : State := { s with line := { s.line with lineState := .gap } }
    (∀ (c : ConditionNo) (v : Bool), (condNumber m).toNat = c.val → (condValueCode m).toNat = v.toNat →
      (s.conditions.entries[c].value = v →
        exec (.cond m) s = .next { gap with conditions := { s.conditions with
          entries := setAt s.conditions.entries c
            { s.conditions.entries[c] with source := some m.source } } }) ∧
      (s.conditions.entries[c].value ≠ v → ∀ stamp : BitVec 32,
        stamp = (if s.conditions.stamps = 4294967295 then 4294967295 else s.conditions.stamps + 1) →
        exec (.cond m) s = .next { gap with
          conditions := { s.conditions with
            entries := setAt s.conditions.entries c { value := v, stamp := stamp, source := some m.source }
            stamps := stamp }
          transit := { s.transit with condNotices := s.transit.condNotices ++
            [{ condition := c, value := s.conditions.entries[c].value, stamp := s.conditions.entries[c].stamp }] } })) ∧
    (24 ≤ (condNumber m).toNat ∨ 2 ≤ (condValueCode m).toNat →
      exec (.cond m) s = .next (count .argErr gap))) ∧
  (∀ (c : ConditionNo) (v : Bool) (source : StationNo) (s : State),
    (s.conditions.entries[c].value = v →
      actOnCondition c v source s = { s with conditions := { s.conditions with
        entries := setAt s.conditions.entries c { s.conditions.entries[c] with source := some source } } }) ∧
    (s.conditions.entries[c].value ≠ v → ∀ stamp : BitVec 32,
      stamp = (if s.conditions.stamps = 4294967295 then 4294967295 else s.conditions.stamps + 1) →
      actOnCondition c v source s = { s with
        conditions := { s.conditions with
          entries := setAt s.conditions.entries c { value := v, stamp := stamp, source := some source }
          stamps := stamp }
        transit := { s.transit with condNotices := s.transit.condNotices ++
          [{ condition := c, value := s.conditions.entries[c].value, stamp := s.conditions.entries[c].stamp }] } })) ∧
  (∀ m : Message, m.body.length = 2 →
    HoldsFields m.body [(0, 1, (condNumber m).toNat), (1, 1, (condValueCode m).toNat)])

/-- CIN_EDGE completes: the pin takes the level, and in SCANNING, SEEKING, JOINING and RUNNING an edge away from the
debounced level forms a candidate with its time, an edge back to it drops the candidate (R55). DEBOUNCED_CHANGE
completes: the debounced level takes the candidate's level; a mapped pin in RUNNING after the run notice acts on its
condition with the own station as source and queues a COND, and in any other case nothing else changes (R55 to R57).
A COND placed in the transmit queue replaces the queued one of its condition in its place, with the replaced mark
when that is on the line; joins a queue with room; or at a full one takes the room of the oldest REPORT not on the
line, counting QUERY_DROP, and without such a REPORT is dropped with COND_TX_DROP (R27). The removal of a head in a
backoff wait abandons the wait for a COND too (the model's choice, log 21). -/
def Obligations.ConditionInputs : Prop :=
  (∀ (p : Fin 4) (level : Bool) (now : Nanos) (s : State), isOperating s.station.state = true →
     ∃ t, exec (.cinEdge p level now) s = .next t ∧ t.pins.cin.getLsbD p.val = level ∧
       (∀ q : Fin 4, q ≠ p → t.pins.cin.getLsbD q.val = s.pins.cin.getLsbD q.val) ∧
       t.conditions.debouncers[p] = { s.conditions.debouncers[p] with
         candidate := if level = s.conditions.debouncers[p].level then none
           else some { level := level, since := now } } ∧
       (∀ q : Fin 4, q ≠ p → t.conditions.debouncers[q] = s.conditions.debouncers[q]) ∧
       t = { s with
         pins := { s.pins with cin := t.pins.cin }
         conditions := { s.conditions with debouncers := t.conditions.debouncers } }) ∧
  (∀ (p : Fin 4) (s : State) (c : Candidate), isOperating s.station.state = true →
     s.conditions.debouncers[p].candidate = some c →
     let moved : State := { s with conditions := { s.conditions with
       debouncers := setAt s.conditions.debouncers p { level := c.level, candidate := none } } }
     (∀ n : ConditionNo, s.image.pinMap[p] = some n → s.station.state = .running → s.conditions.sampled = true →
       exec (.debouncedChange p) s =
         .next (placeCond n c.level (actOnCondition n c.level s.station.number moved))) ∧
     (s.image.pinMap[p] = none ∨ s.station.state ≠ .running ∨ s.conditions.sampled = false →
       exec (.debouncedChange p) s = .next moved)) ∧
  (∀ (c : ConditionNo) (v : Bool) (s : State),
     let m : TxMessage := .cond c v
     (∀ (before after : List TxEntry) (e : TxEntry), FirstEntry (isCondFor c) s.line before e after →
       placeCond c v s = { s with line := lineReplaced m s.line before e after }) ∧
     ((∀ e ∈ s.line.queue, isCondFor c e.msg = false) →
       (s.line.queue.length < 4 → placeCond c v s = { s with line := lineJoined m s.line }) ∧
       (4 ≤ s.line.queue.length →
         (∀ (before after : List TxEntry) (e : TxEntry), OldestFree isReportMsg s.line before e after →
           placeCond c v s = count .queryDrop { s with line := lineMadeRoom m s.line before after }) ∧
         (NoneFree isReportMsg s.line → placeCond c v s = count .condTxDrop s))))

/-- LOOK_FRAME_START and DWELL_EXPIRY complete: a dwell above 1 goes down by one and nothing else happens; the frame
start that brings the dwell to 0 considers a transition; at dwell 0, and of a machine not started or not entered that
holds no run notice of it, a frame start sets the current frame and does nothing else (R63). LOOK_HOME and
CONDITION_CHANGE_NOTICE complete. LOOK HOME enters the initial look with cause HOME whatever the dwell: its dwell
starts afresh, LOOK_ENTRY is counted, and its preset is requested for the next frame. A run notice that is still
waiting is taken first, so that the pins are sampled before the entry (R70; that the notice is taken at the LOOK HOME
is the model's reading, log 47). A condition notice considers a transition at dwell 0 and does nothing else above it
or before the first entry (R64, R68, R70). In SAFE the machine is stopped: a LOOK HOME is discarded and a notice
considers nothing (R71). That DWELL_EXPIRY is the whole of its frame start is the model's choice (log 6). -/
def Obligations.LookMachineEvents : Prop :=
  (∀ (s : State) (e : FrameEvent) (es : List FrameEvent), s.transit.lookFrames = e :: es →
     s.look.started = true → s.look.entered = true →
     (1 < s.look.dwell → exec .lookFrameStart s = .next { s with
       look := { s.look with frame := e.frame, taken := e.serial, dwell := s.look.dwell - 1 }
       transit := { s.transit with lookFrames := es } }) ∧
     (s.look.dwell = 1 → exec .dwellExpiry s = exec .lookFrameStart s ∧
       exec .dwellExpiry s = .next (considerTransition { s with
         look := { s.look with frame := e.frame, taken := e.serial, dwell := 0 }
         transit := { s.transit with lookFrames := es } }))) ∧
  (∀ (s : State) (e : FrameEvent) (es : List FrameEvent), s.transit.lookFrames = e :: es →
     s.look.started = false ∨ (s.look.entered = false ∧ s.look.runNotice ≠ some e.serial) ∨
       (s.look.entered = true ∧ s.look.dwell = 0) →
     exec .lookFrameStart s = .next { s with
       look := { s.look with frame := e.frame, taken := e.serial }
       transit := { s.transit with lookFrames := es } }) ∧
  ((∀ (s : State) (h : HomeAction) (hs : List HomeAction), s.transit.homes = h :: hs → s.look.started = true →
     s.station.state ≠ .safe → s.transit.runLook = none →
     let r := s.image.looks[s.image.initialLook]
     exec .lookHome s = .next (count .lookEntry { s with
       look := { s.look with
         current := some s.image.initialLook
         entered := true
         dwell := r.dwell
         entryFrame := s.look.frame
         entryCause := .home }
       transit := { s.transit with
         homes := hs
         lookFades := s.transit.lookFades ++ r.preset.toList.map fun p =>
           { preset := p, frame := s.look.frame + 1, total := r.frames, airSafe := r.airSafe,
             source := .look s.image.initialLook }
         lookProfiles := s.transit.lookProfiles ++ r.profile.toList } })) ∧
   (∀ (s : State) (h : HomeAction) (hs : List HomeAction) (n : Notice), s.transit.homes = h :: hs →
     s.look.started = true → s.station.state ≠ .safe → s.transit.runLook = some n →
     let r := s.image.looks[s.image.initialLook]
     ∃ u, exec .runNoticeLook { s with transit := { s.transit with homes := hs } } = .next u ∧
       u.conditions.sampled = true ∧ u.transit.runLook = none ∧
       exec .lookHome s = .next (count .lookEntry { u with
         look := { u.look with
           current := some s.image.initialLook
           entered := true
           dwell := r.dwell
           entryFrame := s.look.frame
           entryCause := .home }
         transit := { u.transit with
           lookFades := u.transit.lookFades ++ r.preset.toList.map fun p =>
             { preset := p, frame := s.look.frame + 1, total := r.frames, airSafe := r.airSafe,
               source := .look s.image.initialLook }
           lookProfiles := u.transit.lookProfiles ++ r.profile.toList } })) ∧
   (∀ (s : State) (c : ConditionNotice) (cs : List ConditionNotice), s.transit.condNotices = c :: cs →
     s.look.started = true → s.look.entered = true → s.station.state ≠ .safe →
     let taken : State := { s with transit := { s.transit with condNotices := cs } }
     (s.look.dwell = 0 → exec .conditionChangeNotice s = .next (considerTransition taken)) ∧
     (s.look.dwell ≠ 0 → exec .conditionChangeNotice s = .next taken)) ∧
   (∀ (s : State) (c : ConditionNotice) (cs : List ConditionNotice), s.transit.condNotices = c :: cs →
     s.look.entered = false →
     exec .conditionChangeNotice s = .next { s with transit := { s.transit with condNotices := cs } })) ∧
  (∀ s : State, s.station.state = .safe →
     (∀ (h : HomeAction) (hs : List HomeAction), s.transit.homes = h :: hs →
       exec .lookHome s = .next { s with transit := { s.transit with homes := hs } }) ∧
     (∀ (c : ConditionNotice) (cs : List ConditionNotice), s.transit.condNotices = c :: cs →
       exec .conditionChangeNotice s = .next { s with transit := { s.transit with condNotices := cs } }))

/-- A transition takes, of the arcs eligible from the current look, one with the smallest change stamp, the lowest
index among those, and enters its to-look; with none eligible nothing changes (R65, R66). An arc is eligible when its
from-look is the current look, or it is ANY and its to-look is not the current one, and its condition's value is the
required one (R65). The value and the stamp are those from before the oldest change whose notice is still to be
taken, and otherwise the entry's: the model's reading of R63, R64 and R67 (log 37). Entering a look sets dwell, entry
frame and cause, counts LOOK_ENTRY and sends the look's requests (R68). -/
def Obligations.TransitionTakesOldestChange : Prop :=
  (∀ s : State,
    let value := fun c : ConditionNo => (heldCondition s c).1
    let stamp := fun c : ConditionNo => (heldCondition s c).2.toNat
    let eligible := fun a : Arc =>
      ((∃ l : LookNo, a.source = some l ∧ s.look.current = some l) ∨
        (a.source = none ∧ s.look.current ≠ some a.target)) ∧ value a.condition = a.required
    ((∃ a ∈ s.image.arcs, eligible a) → ∃ (i : Nat) (a : Arc),
      selectArc s 0 s.image.arcs = some (i, a) ∧ s.image.arcs[i]? = some a ∧ eligible a ∧
      (∀ (j : Nat) (b : Arc), s.image.arcs[j]? = some b → eligible b →
        stamp a.condition ≤ stamp b.condition ∧ (stamp b.condition = stamp a.condition → i ≤ j)) ∧
      considerTransition s = enterLook a.target (.arc i) s) ∧
    ((∀ a ∈ s.image.arcs, ¬ eligible a) → considerTransition s = s)) ∧
  (∀ (s : State) (c : ConditionNo),
    (∀ (before after : List ConditionNotice) (n : ConditionNotice),
      s.transit.condNotices = before ++ n :: after → n.condition = c → (∀ x ∈ before, x.condition ≠ c) →
      heldCondition s c = (n.value, n.stamp)) ∧
    ((∀ x ∈ s.transit.condNotices, x.condition ≠ c) →
      heldCondition s c = (s.conditions.entries[c].value, s.conditions.entries[c].stamp))) ∧
  (∀ (s : State) (l : LookNo) (cause : EntryCause),
    let r := s.image.looks[l]
    enterLook l cause s = count .lookEntry { s with
      look := { s.look with
        current := some l
        entered := true
        dwell := r.dwell
        entryFrame := s.look.frame
        entryCause := cause }
      transit := { s.transit with
        lookFades := s.transit.lookFades ++ r.preset.toList.map fun p =>
          { preset := p, frame := s.look.frame + 1, total := r.frames, airSafe := r.airSafe, source := .look l }
        lookProfiles := s.transit.lookProfiles ++ r.profile.toList } })

/-- RUN_NOTICE_LOOK completes. Each mapped pin found high acts on its condition with value true and the own station
as source and queues a COND, in the order CIN0 to CIN3; a pin found low, and one with no condition mapped, does
nothing (R58). The sampled conditions are then in place for the look machine, and the first entry is made at once
when frame start F_r has been taken already; otherwise nothing else happens (R58, R69). LOOK_FRAME_START at F_r, with
the run notice taken before it, makes the first entry (R69). That the conditions are in place before notices of them
are taken is the model's field of each notice (log 37). -/
def Obligations.RunNoticeSamplesAndEnters : Prop :=
  (∀ (s : State) (n : Notice), s.transit.runLook = some n →
     let pinHigh := fun (p : Fin 4) (t : State) => match s.image.pinMap[p] with
       | some c => if s.conditions.debouncers[p].level then
           placeCond c true (actOnCondition c true s.station.number t) else t
       | none => t
     let sampled := pinHigh 3 (pinHigh 2 (pinHigh 1 (pinHigh 0 { s with
       transit := { s.transit with runLook := none }
       conditions := { s.conditions with sampled := true }
       look := { s.look with runNotice := some n.serial } })))
     let placed : State := { sampled with transit := { sampled.transit with
       condNotices := sampled.transit.condNotices.map fun x =>
         { condition := x.condition
           value := sampled.conditions.entries[x.condition].value
           stamp := sampled.conditions.entries[x.condition].stamp } } }
     (s.look.started = true → s.look.entered = false → n.serial ≤ s.look.taken →
       exec .runNoticeLook s = .next (enterLook s.image.initialLook .start placed)) ∧
     (s.look.started = false ∨ s.look.entered = true ∨ s.look.taken < n.serial →
       exec .runNoticeLook s = .next placed)) ∧
  (∀ (s : State) (e : FrameEvent) (es : List FrameEvent), s.transit.lookFrames = e :: es →
     s.look.started = true → s.look.entered = false → s.look.runNotice = some e.serial →
     exec .lookFrameStart s = .next (enterLook s.image.initialLook .start { s with
       look := { s.look with frame := e.frame, taken := e.serial }
       transit := { s.transit with lookFrames := es } }))

/-! ### Fades -/

/-- A fade's level at step j before step n is start + trunc((target − start) × j / n), trunc toward zero; it lies
between its start and its target at every step, is the start at step 0 of a fade of one frame or more, and is exactly
the target from step n on (R85). -/
def Obligations.FadeStaysBetweenStartAndTarget : Prop :=
  ∀ (start target : Level) (n : BitVec 16) (j : Nat),
    min start.toNat target.toNat ≤ (fadeLevel start target n j).toNat ∧
    (fadeLevel start target n j).toNat ≤ max start.toNat target.toNat ∧
    (n.toNat ≤ j → fadeLevel start target n j = target) ∧
    (n ≠ 0 → fadeLevel start target n 0 = start) ∧
    (j < n.toNat → ((fadeLevel start target n j).toNat : Int) =
      start.toNat + Int.tdiv (((target.toNat : Int) - start.toNat) * j) n.toNat)

/-- FADE_START_REQUEST completes outside SAFE, for the cue list and the look machine alike: a preset above 63 counts
ARG_ERR, a full list FADE_OVERRUN, and any other request joins the tail READING with its read sent (R77). In SAFE it
is discarded: no count, no read (R94). -/
def Obligations.FadeRequestJoinsList : Prop :=
  ∀ (s u : State) (origin : Origin) (r : FadeRequest) (rs : List FadeRequest),
    (match origin with
      | .cueList => s.transit.cueFades = r :: rs ∧ u = { s with transit := { s.transit with cueFades := rs } }
      | .lookMachine =>
        s.transit.lookFades = r :: rs ∧ u = { s with transit := { s.transit with lookFades := rs } }) →
    (s.station.state = .safe → exec (.fadeStartRequest origin) s = .next u) ∧
    (s.station.state ≠ .safe → 64 ≤ r.preset.toNat →
      exec (.fadeStartRequest origin) s = .next (count .argErr u)) ∧
    (∀ n : Fin 64, s.station.state ≠ .safe → r.preset.toNat = n.val →
      (16 ≤ s.fade.requests.length → exec (.fadeStartRequest origin) s = .next (count .fadeOverrun u)) ∧
      (s.fade.requests.length < 16 → exec (.fadeStartRequest origin) s = .next { u with
        fade := { s.fade with
          requests := s.fade.requests ++
            [{ req := r, phase := .reading, content := none, tag := s.fade.nextTag }]
          nextTag := s.fade.nextTag + 1 }
        transit := { u.transit with reads := s.transit.reads ++ [{ preset := n, tag := s.fade.nextTag }] } }))

/-- CONTENT_ANSWER and ANSWER_WITHOUT_CONTENT complete. Content makes the request READY when the current frame is
before its start frame, and DEFERRED with FADE_DEFERRED otherwise; an answer without content removes the request,
counting PRESET_BAD_REF unless it was refused; an answer that matches no record is discarded (R78, R79), as is every
answer in SAFE, where the list is empty (R94). -/
def Obligations.AnswersSettleRequests : Prop :=
  ∀ (s : State) (a : Answer) (as : List Answer), s.transit.answers = a :: as →
    let taken : State := { s with transit := { s.transit with answers := as } }
    (∀ (before after : List RequestRecord) (r : RequestRecord),
      s.fade.requests = before ++ r :: after → r.tag = a.tag → (∀ x ∈ before, x.tag ≠ a.tag) →
      (∀ c : Content, a.kind = .content c →
        (isBefore s.fade.frame r.req.frame = true → exec .contentAnswer s = .next { taken with
          fade := { s.fade with requests :=
            before ++ { r with phase := .ready, content := some c } :: after } }) ∧
        (isBefore s.fade.frame r.req.frame = false → exec .contentAnswer s =
          .next (count .fadeDeferred { taken with fade := { s.fade with requests :=
            before ++ { r with phase := .deferred, content := some c } :: after } }))) ∧
      (a.kind = .empty ∨ a.kind = .bad → exec .answerWithoutContent s =
        .next (count .presetBadRef { taken with fade := { s.fade with requests := before ++ after } })) ∧
      (a.kind = .refused → exec .answerWithoutContent s =
        .next { taken with fade := { s.fade with requests := before ++ after } })) ∧
    ((∀ x ∈ s.fade.requests, x.tag ≠ a.tag) →
      (∀ c : Content, a.kind = .content c → exec .contentAnswer s = .next taken) ∧
      (a.kind = .empty ∨ a.kind = .bad ∨ a.kind = .refused → exec .answerWithoutContent s = .next taken)) ∧
    (s.station.state = .safe → s.fade.requests = [] →
      (∀ c : Content, a.kind = .content c → exec .contentAnswer s = .next taken) ∧
      (a.kind = .empty ∨ a.kind = .bad ∨ a.kind = .refused → exec .answerWithoutContent s = .next taken))

/-- FADE_FRAME_START and FADE_COMPLETION complete when no packets are pending. A channel that no due request affects
steps its running fade by one, ending it at the target, and otherwise keeps its level; a channel that due requests
affect takes the fade of the last of them from its present level; the due requests leave the list (R81 to R85). The
channels a due request affects: those of its mask, less the PINNED ones and, while protection is in force and the
fade is not air-safe, the protected ones, each of which counts PROTECT_DROP (R82). Due are every DEFERRED request,
and the READY ones whose start frame is not after F or, with the adoption mark, all of them (R81). With k(F) held and
the links enabled the packets of F go at once with its output levels as last outputs; without k(F) they are owed
(R87). A frame start waits, and nothing else happens, while the links are enabled and the packets of the frame before
it are owed or being sent, or another frame start waits (R87); that a refresh of R89 being sent holds a frame start
back as the packets themselves do is the model's reading (log 25). That FADE_COMPLETION is the whole of its frame
start is the model's choice (log 6), and so is the moment at which last outputs are set (log 41). -/
def Obligations.FrameStartStepsFades : Prop :=
  (∀ (s : State) (e : FrameEvent) (es : List FrameEvent), s.transit.fadeFrames = e :: es →
     packetsPending s.fade = false → s.fade.waiting = [] →
     ∃ t, exec .fadeFrameStart s = .next t ∧ t.fade.frame = e.frame ∧ t.transit.fadeFrames = es ∧
       t.fade.requests = s.fade.requests.filter (fun r => !requestDue e r) ∧
       t = { s with fade := t.fade, transit := { s.transit with fadeFrames := es }, counters := t.counters } ∧
       (∀ x : Counter, x ≠ .protectDrop → counterOf t x = counterOf s x) ∧
       t.fade = { s.fade with
         channels := t.fade.channels, requests := t.fade.requests, packets := t.fade.packets
         sending := t.fade.sending, frame := e.frame, taken := e.serial, k := scaleFor e.serial s.fade.scales
         scales := s.fade.scales.filter fun m => decide (e.serial < m.serial) } ∧
       (s.fade.enabled = false → t.fade.packets = .notDue ∧ t.fade.sending = s.fade.sending ∧
         ∀ c : Channel, t.fade.channels[c].lastOut = s.fade.channels[c].lastOut) ∧
       (s.fade.enabled = true →
         (scaleFor e.serial s.fade.scales = none → t.fade.packets = .owed ∧ t.fade.sending = s.fade.sending ∧
           ∀ c : Channel, t.fade.channels[c].lastOut = s.fade.channels[c].lastOut) ∧
         (∀ k : Nat, scaleFor e.serial s.fade.scales = some k → t.fade.packets = .formed ∧
           t.fade.sending = s.fade.sending ++
             [{ frame := e.frame, refresh := false, levels := Vector.ofFn (outputLevel t k) }] ∧
           ∀ c : Channel, t.fade.channels[c].lastOut = some (outputLevel t k c))) ∧
       ∀ c : Channel,
         ((∀ r ∈ s.fade.requests, requestDue e r = true → affects s r c = false) →
           (s.fade.channels[c].fade = none →
             t.fade.channels[c].level = s.fade.channels[c].level ∧ t.fade.channels[c].fade = none) ∧
           (∀ f : Fade, s.fade.channels[c].fade = some f →
             (f.steps + 1 < f.total.toNat →
               t.fade.channels[c].level = fadeLevel f.start f.target f.total (f.steps + 1) ∧
               t.fade.channels[c].fade = some { f with steps := f.steps + 1 }) ∧
             (f.total.toNat ≤ f.steps + 1 →
               t.fade.channels[c].level = f.target ∧ t.fade.channels[c].fade = none ∧
               exec .fadeCompletion s = .next t))) ∧
         (∀ (before after : List RequestRecord) (r : RequestRecord), s.fade.requests = before ++ r :: after →
           requestDue e r = true → affects s r c = true →
           (∀ x ∈ after, requestDue e x = true → affects s x c = false) →
           (r.req.total = 0 →
             t.fade.channels[c].level = requestTarget r c ∧ t.fade.channels[c].fade = none) ∧
           (r.req.total ≠ 0 →
             t.fade.channels[c].level = s.fade.channels[c].level ∧
             t.fade.channels[c].fade = some
               { start := s.fade.channels[c].level, target := requestTarget r c, total := r.req.total,
                 frame := e.frame, steps := 0, airSafe := requestAirSafe r, source := r.req.source }))) ∧
  (∀ (s : State) (r : RequestRecord) (x : Content) (c : Channel), r.content = some x →
     (affects s r c = true ↔ x.mask.getLsbD c.val = true ∧ s.image.channels[c].cls ≠ .pinned ∧
       ¬ ((s.protection.pin = true ∨ s.protection.latch = true) ∧ s.protection.map.getLsbD c.val = false ∧
         (r.req.airSafe = false ∨ x.airSafe = false))) ∧
     requestTarget r c = x.levels[c] ∧ requestAirSafe r = (r.req.airSafe && x.airSafe)) ∧
  (∀ (e : FrameEvent) (r : RequestRecord), requestDue e r = true ↔
     r.phase = .deferred ∨ (r.phase = .ready ∧ (e.adopted = true ∨ isAfter r.req.frame e.frame = false))) ∧
  (∀ (s : State) (e : FrameEvent) (es : List FrameEvent), s.transit.fadeFrames = e :: es →
     packetsPending s.fade = false → s.fade.waiting = [] →
     let dropped := fun (r : RequestRecord) (c : Channel) => match r.content with
       | some x => x.mask.getLsbD c.val && (s.image.channels[c].cls != .pinned) &&
           (s.protection.pin || s.protection.latch) && !s.protection.map.getLsbD c.val &&
           !(r.req.airSafe && x.airSafe)
       | none => false
     ∃ t, exec .fadeFrameStart s = .next t ∧
       counterOf t .protectDrop = saturatingAdd (counterOf s .protectDrop)
         ((s.fade.requests.filter (requestDue e)).map fun r => (List.finRange 128).countP (dropped r)).sum) ∧
  (∀ (s : State) (e : FrameEvent) (es : List FrameEvent), s.transit.fadeFrames = e :: es →
     (s.fade.enabled = true ∧ (s.fade.packets = .owed ∨ s.fade.sending ≠ [])) ∨ s.fade.waiting ≠ [] →
     exec .fadeFrameStart s = .next { s with
       fade := { s.fade with waiting := s.fade.waiting ++ [e] }
       transit := { s.transit with fadeFrames := es } }) ∧
  (∀ (serial : Nat) (scales : List ScaleMessage),
     (∀ k : Nat, scaleFor serial scales = some k → ∃ m ∈ scales, m.serial = serial ∧ m.k = k) ∧
     (scaleFor serial scales = none ↔ ∀ m ∈ scales, m.serial ≠ serial))

/-- The output level of a channel by class, scale and protection, and no scaled output above the current level (R88).
-/
def Obligations.OutputLevels : Prop :=
  ∀ (s : State) (k : Nat) (c : Channel), k ≤ 32768 →
    (s.image.channels[c].cls = .pinned → outputLevel s k c = s.image.channels[c].pinned) ∧
    (s.image.channels[c].cls = .unscaled → outputLevel s k c = s.fade.channels[c].level) ∧
    (s.image.channels[c].cls = .scaled →
      (protectedInForce s.protection c = true → outputLevel s k c = s.fade.channels[c].level) ∧
      (protectedInForce s.protection c = false →
        (outputLevel s k c).toNat = s.fade.channels[c].level.toNat * k / 32768 ∧
        (outputLevel s k c).toNat ≤ s.fade.channels[c].level.toNat))

/-- SCALE_ARRIVAL_FADE, PROTECTION_NOTICE and FIXTURE_PACKETS_SENT complete: packets owed go when k of the current
frame is held, a protection notice sends formed packets again with the refresh mark, each with every channel's output
level as its last output, and the end of the transmission takes them off the links; when none are left a frame start
that waits is taken, as FADE_FRAME_START takes it (R87, R89). k of a frame start not yet taken is kept for it, k of
the current frame is held when no packets are owed, and k of an earlier one is dropped (R87, R171). A protection
notice taken before the packets of the current frame are formed, or with the links silent, causes no refresh (R89). A
packet is 132 bytes: frame number, flags with the refresh mark in bit 0, and its link's 64 levels (R196).
RUN_NOTICE_FADE completes: every PINNED channel takes its pinned level, the links are enabled, the start-up preset is
requested at the head of the list with start frame F_r + 1 and its read sent, or at a full list dropped with
FADE_OVERRUN, and when frame start F_r has been taken already its packets go or are owed (R90). The model's choice: a
refresh goes behind packets still in transmission, and one end of transmission serves both links (log 25); each last
output is set as packets are formed (log 41). -/
def Obligations.PacketsAndRunNotice : Prop :=
  ((∀ (s : State) (m : ScaleMessage) (ms : List ScaleMessage), s.transit.fadeScales = m :: ms →
     m.serial = s.fade.taken → s.fade.packets = .owed →
     ∃ t, exec .scaleArrivalFade s = .next t ∧ t.fade.packets = .formed ∧ t.fade.k = some m.k ∧
       (∀ c : Channel, t.fade.channels[c] =
         { s.fade.channels[c] with lastOut := some (outputLevel s m.k c) }) ∧
       t.fade.sending = s.fade.sending ++
         [{ frame := s.fade.frame, refresh := false, levels := Vector.ofFn (outputLevel s m.k) }] ∧
       t = { s with fade := t.fade, transit := { s.transit with fadeScales := ms } } ∧
       t.fade = { s.fade with
         channels := t.fade.channels, packets := .formed, sending := t.fade.sending, k := some m.k }) ∧
   (∀ (s : State) (m : ScaleMessage) (ms : List ScaleMessage), s.transit.fadeScales = m :: ms →
     let taken : State := { s with transit := { s.transit with fadeScales := ms } }
     (s.fade.taken < m.serial → exec .scaleArrivalFade s =
       .next { taken with fade := { s.fade with scales := s.fade.scales ++ [m] } }) ∧
     (m.serial = s.fade.taken → s.fade.packets ≠ .owed → exec .scaleArrivalFade s =
       .next { taken with fade := { s.fade with k := some m.k } }) ∧
     (m.serial < s.fade.taken → exec .scaleArrivalFade s = .next taken)) ∧
   (∀ (s : State) (n : Nat), s.transit.protNotices = n + 1 →
     s.fade.enabled = false ∨ s.fade.packets ≠ .formed ∨ s.fade.k = none →
     exec .protectionNotice s = .next { s with transit := { s.transit with protNotices := n } }) ∧
   (∀ (s : State) (k n : Nat), s.transit.protNotices = n + 1 → s.fade.enabled = true →
     s.fade.packets = .formed → s.fade.k = some k →
     ∃ t, exec .protectionNotice s = .next t ∧ t.transit.protNotices = n ∧
       (∀ c : Channel, t.fade.channels[c] =
         { s.fade.channels[c] with lastOut := some (outputLevel s k c) }) ∧
       t.fade.sending = s.fade.sending ++
         [{ frame := s.fade.frame, refresh := true, levels := Vector.ofFn (outputLevel s k) }] ∧
       t = { s with fade := t.fade, transit := { s.transit with protNotices := n } } ∧
       t.fade = { s.fade with channels := t.fade.channels, sending := t.fade.sending }) ∧
   (∀ (s : State) (p : FixtureSend) (ps : List FixtureSend), s.fade.sending = p :: ps →
     (ps ≠ [] ∨ s.fade.waiting = [] →
       exec .fixturePacketsSent s = .next { s with fade := { s.fade with sending := ps } }) ∧
     (∀ (e : FrameEvent) (es : List FrameEvent), ps = [] → s.fade.waiting = e :: es → s.fade.packets ≠ .owed →
       ∃ t, exec .fadeFrameStart { s with
           fade := { s.fade with sending := [], waiting := [] }
           transit := { s.transit with fadeFrames := e :: s.transit.fadeFrames } } = .next t ∧
         exec .fixturePacketsSent s = .next { t with fade := { t.fade with waiting := es } }))) ∧
  (∀ (link : Fin 2) (p : FixtureSend),
     (packetBytes link p).length = 132 ∧
     HoldsFields (packetBytes link p) [(0, 3, p.frame.toNat), (3, 1, p.refresh.toNat)] ∧
     ∀ (i : Fin 64) (c : Channel), c.val = 64 * link.val + i.val →
       HoldsFields (packetBytes link p) [(4 + 2 * i.val, 2, p.levels[c].toNat)]) ∧
  (∀ (s : State) (n : Notice), s.transit.runFade = some n →
     ∃ t, exec .runNoticeFade s = .next t ∧ t.fade.enabled = true ∧ t.transit.runFade = none ∧
       t = { s with fade := t.fade, transit := t.transit, counters := t.counters } ∧
       t.transit = { s.transit with runFade := none, reads := t.transit.reads } ∧
       t.fade = { s.fade with
         channels := t.fade.channels, requests := t.fade.requests, nextTag := t.fade.nextTag, enabled := true
         packets := t.fade.packets, sending := t.fade.sending } ∧
       (∀ c : Channel, t.fade.channels[c].fade = s.fade.channels[c].fade ∧ t.fade.channels[c].level =
         if s.image.channels[c].cls = .pinned then s.image.channels[c].pinned else s.fade.channels[c].level) ∧
       (∀ x : Counter, x ≠ .fadeOverrun → counterOf t x = counterOf s x) ∧
       (s.image.startPreset = none → t.fade.requests = s.fade.requests ∧ t.fade.nextTag = s.fade.nextTag ∧
         t.transit.reads = s.transit.reads ∧ t.counters = s.counters) ∧
       (∀ (p : Byte) (q : Fin 64), s.image.startPreset = some p → p.toNat = q.val →
         (s.fade.requests.length < 16 →
           t.fade.requests = { req := { preset := p, frame := n.label + 1, total := s.image.startFadeFrames,
                                        airSafe := false, source := .start }
                               phase := .reading, content := none, tag := s.fade.nextTag } :: s.fade.requests ∧
           t.fade.nextTag = s.fade.nextTag + 1 ∧
           t.transit.reads = s.transit.reads ++ [{ preset := q, tag := s.fade.nextTag }] ∧
           t.counters = s.counters) ∧
         (16 ≤ s.fade.requests.length → t.fade.requests = s.fade.requests ∧
           t.fade.nextTag = s.fade.nextTag ∧ t.transit.reads = s.transit.reads ∧
           counterOf t .fadeOverrun = saturatingAdd (counterOf s .fadeOverrun) 1)) ∧
       (s.fade.taken < n.serial → t.fade.packets = s.fade.packets ∧ t.fade.sending = s.fade.sending ∧
         ∀ c : Channel, t.fade.channels[c].lastOut = s.fade.channels[c].lastOut) ∧
       (n.serial ≤ s.fade.taken →
         (s.fade.k = none → t.fade.packets = .owed ∧ t.fade.sending = s.fade.sending ∧
           ∀ c : Channel, t.fade.channels[c].lastOut = s.fade.channels[c].lastOut) ∧
         (∀ k : Nat, s.fade.k = some k → t.fade.packets = .formed ∧
           t.fade.sending = s.fade.sending ++
             [{ frame := s.fade.frame, refresh := false, levels := Vector.ofFn (outputLevel t k) }] ∧
           ∀ c : Channel, t.fade.channels[c].lastOut = some (outputLevel t k c))))

/-- The forecast level of a channel for a frame: the pinned level; or the greatest of the current level, the last
covering request's target and the running fade's level; or the running fade's level; or the current level. A covering
request is READY or DEFERRED with the channel in its content's mask (R92, R93). A running fade's level for a frame is
the one of R85 after its steps done plus, when that frame is after the current one, the distance to it (R91, R92). -/
def Obligations.ForecastCases : Prop :=
  (∀ (s : State) (target : FrameNo) (c : Channel),
    let level := s.fade.channels[c].level.toNat
    let covering := fun r : RequestRecord =>
      r.phase ≠ .reading ∧ ∃ x, r.content = some x ∧ x.mask.getLsbD c.val = true
    (s.image.channels[c].cls = .pinned → forecastLevel s target c = s.image.channels[c].pinned.toNat) ∧
    (s.image.channels[c].cls ≠ .pinned →
      (∀ (before after : List RequestRecord) (r : RequestRecord) (x : Content),
        s.fade.requests = before ++ r :: after → covering r → (∀ y ∈ after, ¬ covering y) → r.content = some x →
        (s.fade.channels[c].fade = none → forecastLevel s target c = max level x.levels[c].toNat) ∧
        (∀ f : Fade, s.fade.channels[c].fade = some f → forecastLevel s target c =
          max (max level x.levels[c].toNat) (fadeLevelAt s.fade.frame target f).toNat)) ∧
      ((∀ y ∈ s.fade.requests, ¬ covering y) →
        (s.fade.channels[c].fade = none → forecastLevel s target c = level) ∧
        (∀ f : Fade, s.fade.channels[c].fade = some f →
          forecastLevel s target c = (fadeLevelAt s.fade.frame target f).toNat)))) ∧
  (∀ (current target : FrameNo) (f : Fade) (j : Nat),
    j = f.steps + (if isAfter target current then frameDistance current target else 0) →
    (f.total.toNat ≤ j → fadeLevelAt current target f = f.target) ∧
    (j < f.total.toNat → ((fadeLevelAt current target f).toNat : Int) =
      f.start.toNat + Int.tdiv (((f.target.toNat : Int) - f.start.toNat) * j) f.total.toNat))

/-! ### Preset store -/

/-- PRESET completes: a buffer code above 1 counts ARG_ERR, a buffer not OPEN counts BUFFER_BUSY, and an OPEN buffer
takes the part and no other buffer changes (R102). What a PRESET of n levels writes: level i and mask entry i go to
channel (first + i) mod 128, and every other channel keeps its own; a first part takes the air-safe attribute; the
write point follows the continuation flag (R102). The fields stand in the payload after the scope, with level i at
payload offset 6 + 2i, and as many levels as the length gives (the layout of chapter 12). -/
def Obligations.PresetWritesOpenBuffer : Prop :=
  (∀ (m : Message) (s : State), Routed .preset m s →
     let gap : State := { s with line := { s.line with lineState := .gap } }
     let f := presetFields m
     (2 ≤ f.buffer.toNat → exec (.preset m) s = .next (count .argErr gap)) ∧
     (∀ x : BufferName, f.buffer.toNat = (if x = .a then 0 else 1) →
       ((bufferOf x s.store).state ≠ .opened → exec (.preset m) s = .next (count .bufferBusy gap)) ∧
       ((bufferOf x s.store).state = .opened →
         exec (.preset m) s = .next { gap with
           store := setBuffer x (writePart f (bufferOf x s.store)) s.store }))) ∧
  (∀ (f : PresetFields) (b : StagingBuffer), f.levels.length ≤ 24 →
     let t := writePart f b
     (∀ (i : Nat) (l : Level), f.levels[i]? = some l →
       t.content.levels[channelMod (f.firstChannel.toNat + i)] = l ∧
       t.content.mask.getLsbD (channelMod (f.firstChannel.toNat + i)).val = f.mask.getLsbD i) ∧
     (∀ c : Channel, (∀ i < f.levels.length, channelMod (f.firstChannel.toNat + i) ≠ c) →
       t.content.levels[c] = b.content.levels[c] ∧ t.content.mask.getLsbD c.val = b.content.mask.getLsbD c.val) ∧
     t.content.airSafe = (if b.writePoint = .first then f.airSafe else b.content.airSafe) ∧
     t.writePoint = (if f.continuation then .next else .first) ∧ t.state = b.state ∧ t.target = b.target) ∧
  (∀ m : Message, 12 ≤ m.body.length → m.body.length ≤ 58 → m.body.length % 2 = 0 →
     let f := presetFields m
     HoldsFields m.body [(4, 1, f.buffer.toNat), (5, 1, f.firstChannel.toNat), (7, 3, f.mask.toNat)] ∧
     (f.continuation = true ↔ ofBytes ((m.body.drop 6).take 1) % 2 = 1) ∧
     (f.airSafe = true ↔ ofBytes ((m.body.drop 6).take 1) / 2 % 2 = 1) ∧
     2 * f.levels.length + 10 = m.body.length ∧
     ∀ (i : Nat) (l : Level), f.levels[i]? = some l → HoldsFields m.body [(10 + 2 * i, 2, l.toNat)])

/-- COMMIT completes. A buffer code above 1 or a preset above 63 counts ARG_ERR, a buffer not OPEN counts
BUFFER_BUSY, four queued operations count OPQ_FULL; otherwise the operation joins the queue, and with the array free
and no read, operation or restart wait it starts at once: buffer and directory entry COMMITTING, journal, ERASE,
suspend count 0 (R103, R106, R107). Whatever stands in the array and its queues, the arbiter decides once the
operation has joined (R106). Buffer code and preset number are the two bytes after the scope (R194). -/
def Obligations.CommitJoinsOrStarts : Prop :=
  (∀ (m : Message) (s : State), Routed .commit m s →
    let gap : State := { s with line := { s.line with lineState := .gap } }
    (2 ≤ (commitBuffer m).toNat ∨ 64 ≤ (commitPreset m).toNat →
      exec (.commit m) s = .next (count .argErr gap)) ∧
    (∀ (x : BufferName) (n : Fin 64), (commitBuffer m).toNat = (if x = .a then 0 else 1) →
      (commitPreset m).toNat = n.val →
      ((bufferOf x s.store).state ≠ .opened → exec (.commit m) s = .next (count .bufferBusy gap)) ∧
      ((bufferOf x s.store).state = .opened → 4 ≤ s.store.ops.length →
        exec (.commit m) s = .next (count .opqFull gap)) ∧
      ((bufferOf x s.store).state = .opened → s.store.ops.length < 4 → s.store.serving = none →
        s.store.reads = [] →
        (∀ r : Running, s.store.running = some r → (∀ c ∈ runningCommit s, c.suspended = false) →
          exec (.commit m) s = .next { gap with store :=
            { setBuffer x { bufferOf x s.store with state := .queued, target := some n, writePoint := .first }
                s.store with
              ops := s.store.ops ++ [.commit x n] } }) ∧
        (s.store.running = none → s.store.ops = [] → s.store.restartWait = false →
          exec (.commit m) s = .next { gap with
            flash := { s.flash with journal := some (.preset n) }
            store := { setBuffer x
                { bufferOf x s.store with state := .committing, target := some n, writePoint := .first }
                s.store with
              directory := setAt s.store.directory n { state := .committing, airSafe := false }
              running := some (.commit { buffer := x, preset := n, phase := .erase, suspended := false,
                                         asked := false, suspends := 0 }) } })))) ∧
  (∀ (m : Message) (s : State) (x : BufferName) (n : Fin 64), Routed .commit m s →
    (commitBuffer m).toNat = (if x = .a then 0 else 1) → (commitPreset m).toNat = n.val →
    (bufferOf x s.store).state = .opened → s.store.ops.length < 4 →
    exec (.commit m) s = .next (arbitrate { s with
      line := { s.line with lineState := .gap }
      store := { setBuffer x { bufferOf x s.store with state := .queued, target := some n, writePoint := .first }
          s.store with
        ops := s.store.ops ++ [.commit x n] } })) ∧
  (∀ m : Message, m.body.length = 6 →
    HoldsFields m.body [(4, 1, (commitBuffer m).toNat), (5, 1, (commitPreset m).toNat)])

/-- PRESET_READ_REQUEST completes: a read of the preset being committed is answered at once with the buffer's
content; another finds a full queue and is refused with READ_OVERRUN; with the array idle and the queue empty a read
is answered EMPTY or BAD at once or given the array; behind a commit that may suspend it asks for a suspension (R112
to R114). SUSPENSION_REACHED and ARRAY_READ_END complete: the suspend count goes up, SUSPEND is counted and the head
read of a VALID preset takes the array; at its end the page's content is the answer, and with no other read the
commit resumes (R113 to R115). The arbiter, which decides at each of these moments: nothing while a read is being
served; else every head read of an EMPTY or BAD preset is answered; then a free array, or one under a suspended
commit with no restart wait, goes to the head read; with no read a free array starts the head operation, but not with
a restart wait open or in SAFE, and a suspended commit resumes, as it does at a restart wait; a commit in ERASE or
PROGRAM with suspend count below 8 and no restart wait is asked to suspend for a read; a map operation goes on (R106,
R113 to R115, R119). -/
def Obligations.ReadsAreServed : Prop :=
  (∀ (s : State) (r : ReadRequest) (rs : List ReadRequest), s.transit.reads = r :: rs →
     let taken : State := { s with transit := { s.transit with reads := rs } }
     let answered := fun k : AnswerKind =>
       { s.transit with reads := rs, answers := s.transit.answers ++ [{ tag := r.tag, kind := k }] }
     (∀ c ∈ runningCommit s, c.preset = r.preset → exec .presetReadRequest s =
       .next { s with transit := answered (.content (bufferOf c.buffer s.store).content) }) ∧
     ((∀ c ∈ runningCommit s, c.preset ≠ r.preset) → 8 ≤ s.store.reads.length →
       exec .presetReadRequest s = .next (count .readOverrun { s with transit := answered .refused })) ∧
     (s.store.running = none → s.store.serving = none → s.store.reads = [] → s.store.ops = [] →
       (s.store.directory[r.preset].state = .empty →
         exec .presetReadRequest s = .next { s with transit := answered .empty }) ∧
       (s.store.directory[r.preset].state = .bad →
         exec .presetReadRequest s = .next { s with transit := answered .bad }) ∧
       (s.store.directory[r.preset].state = .valid →
         exec .presetReadRequest s = .next { taken with store := { s.store with serving := some r } })) ∧
     (∀ c : CommitRun, s.store.running = some (.commit c) → c.preset ≠ r.preset → c.phase ≠ .verify →
       c.suspended = false → s.store.serving = none → s.store.reads = [] → s.store.restartWait = false →
       s.store.directory[r.preset].state = .valid →
       exec .presetReadRequest s = .next { taken with store := { s.store with
         reads := [r]
         running := some (.commit { c with asked := c.asked || decide (c.suspends < 8) }) } })) ∧
  ((∀ (s : State) (c : CommitRun) (r : ReadRequest) (rs : List ReadRequest),
     s.store.running = some (.commit c) → c.asked = true → c.suspended = false → c.phase ≠ .verify →
     s.store.reads = r :: rs → s.store.directory[r.preset].state = .valid →
     exec .suspensionReached s = .next (count .suspend { s with store := { s.store with
       reads := rs
       serving := some r
       running := some (.commit { c with
         suspended := true, asked := false, suspends := c.suspends + 1 }) } })) ∧
   (∀ (s : State) (r : ReadRequest) (c : CommitRun) (x : Content), s.store.serving = some r →
     s.flash.presets[r.preset].body = .programmed x → s.store.reads = [] →
     s.store.running = some (.commit c) → c.suspended = true →
     exec .arrayReadEnd s = .next { s with
       store := { s.store with serving := none, running := some (.commit { c with suspended := false }) }
       transit := { s.transit with
         answers := s.transit.answers ++ [{ tag := r.tag, kind := .content x }] } })) ∧
  ((∀ (s : State) (r : ReadRequest) (x : Content), s.store.serving = some r →
     s.flash.presets[r.preset].body = .programmed x →
     exec .arrayReadEnd s = .next (arbitrate { s with
       store := { s.store with serving := none }
       transit := { s.transit with
         answers := s.transit.answers ++ [{ tag := r.tag, kind := .content x }] } })) ∧
   (∀ (s : State) (r : ReadRequest) (rs : List ReadRequest), s.transit.reads = r :: rs →
     (∀ c ∈ runningCommit s, c.preset ≠ r.preset) → s.store.reads.length < 8 →
     exec .presetReadRequest s = .next (arbitrate { s with
       store := { s.store with reads := s.store.reads ++ [r] }
       transit := { s.transit with reads := rs } })) ∧
   (∀ (s : State) (c : CommitRun), s.store.running = some (.commit c) → c.asked = true → c.suspended = false →
     c.phase ≠ .verify → ∃ u : State,
       HeadsAnswered (count .suspend { s with store := { s.store with running := some (.commit { c with
         suspended := true, asked := false, suspends := c.suspends + 1 }) } }) u ∧
       (u.store.reads = [] → exec .suspensionReached s = .next (arbitrate u)) ∧
       (∀ (r : ReadRequest) (rs : List ReadRequest), u.store.reads = r :: rs →
         exec .suspensionReached s = .next { u with store := { u.store with reads := rs, serving := some r } }))) ∧
  (∀ s : State,
     (s.store.serving ≠ none → arbitrate s = s) ∧
     (s.store.serving = none → ∃ u : State, HeadsAnswered s u ∧
       (s.store.running = none →
         (∀ (r : ReadRequest) (rs : List ReadRequest), u.store.reads = r :: rs →
           arbitrate s = { u with store := { u.store with reads := rs, serving := some r } }) ∧
         (u.store.reads = [] →
           (s.store.restartWait = true ∨ s.station.state = .safe ∨ s.store.ops = [] → arbitrate s = u) ∧
           (∀ (op : ArrayOp) (ops : List ArrayOp), s.store.restartWait = false → s.station.state ≠ .safe →
             s.store.ops = op :: ops → arbitrate s = operationStarted op ops u))) ∧
       (∀ c : CommitRun, s.store.running = some (.commit c) →
         (c.suspended = true →
           (u.store.reads = [] ∨ s.store.restartWait = true → arbitrate s =
             { u with store := { u.store with running := some (.commit { c with suspended := false }) } }) ∧
           (∀ (r : ReadRequest) (rs : List ReadRequest), u.store.reads = r :: rs → s.store.restartWait = false →
             arbitrate s = { u with store := { u.store with reads := rs, serving := some r } })) ∧
         (c.suspended = false →
           (u.store.reads ≠ [] → c.phase ≠ .verify → c.suspends < 8 → s.store.restartWait = false → arbitrate s =
             { u with store := { u.store with running := some (.commit { c with asked := true }) } }) ∧
           (u.store.reads = [] ∨ c.phase = .verify ∨ 8 ≤ c.suspends ∨ s.store.restartWait = true →
             arbitrate s = u))) ∧
       ((s.store.running = some .mapErase ∨ ∃ first mask, s.store.running = some (.mapProgram first mask)) →
         arbitrate s = u)))

/-- ERASE_END and PROGRAM_END complete: the page is erased with its void mark clear and a standing request to suspend
is kept; the page then holds the buffer's content and the request lapses (R98, R107, R114). VERIFY_END completes.
Success makes the preset VALID with the buffer's air-safe attribute and clears COMMIT_FAIL; failure makes it BAD with
its page's void mark set, and counts and raises COMMIT_FAIL. Either way the journal is cleared and the buffer is OPEN
with its content and no target; with nothing waiting the array is free, and otherwise the arbiter decides (R106, R108
to R110). -/
def Obligations.CommitPhasesEnd : Prop :=
  (∀ (s : State) (c : CommitRun), s.store.running = some (.commit c) → c.suspended = false →
     (c.phase = .erase → exec .eraseEnd s = .next { s with
       flash := { s.flash with presets := setAt s.flash.presets c.preset { void := false, body := .erased } }
       store := { s.store with running := some (.commit { c with phase := .program }) } }) ∧
     (c.phase = .program → exec .programEnd s = .next { s with
       flash := { s.flash with
         presets := setAt s.flash.presets c.preset
           { s.flash.presets[c.preset] with body := .programmed (bufferOf c.buffer s.store).content } }
       store := { s.store with running := some (.commit { c with phase := .verify, asked := false }) } })) ∧
  (∀ (s : State) (c : CommitRun) (success : Bool), s.store.running = some (.commit c) → c.suspended = false →
     c.phase = .verify →
     ∃ t, exec (.verifyEnd success) s = .next t ∧
       t = { s with
         flash := t.flash, store := t.store, flags := t.flags, counters := t.counters, transit := t.transit } ∧
       t.flags.demandLost = s.flags.demandLost ∧
       (∀ x : Counter, x ≠ .commitFail → counterOf t x = counterOf s x) ∧
       t.flash.mapPage = s.flash.mapPage ∧
       (success = true →
         t.flags.commitFail = false ∧ counterOf t .commitFail = counterOf s .commitFail ∧
         t.flash.presets[c.preset] =
           { void := false, body := .programmed (bufferOf c.buffer s.store).content }) ∧
       (success = false →
         t.flags.commitFail = true ∧ t.flash.presets[c.preset].void = true ∧
         counterOf t .commitFail = saturatingAdd (counterOf s .commitFail) 1) ∧
       (∀ n : Fin 64, n ≠ c.preset → t.flash.presets[n] = s.flash.presets[n]) ∧
       (bufferOf c.buffer t.store).content = (bufferOf c.buffer s.store).content ∧
       (s.store.serving = none → s.store.reads = [] → s.store.ops = [] →
         t.flash.journal = none ∧ t.store.running = none ∧
         t.store.directory[c.preset] = (if success then
           { state := .valid, airSafe := (bufferOf c.buffer s.store).content.airSafe }
           else { state := .bad, airSafe := false }) ∧
         (bufferOf c.buffer t.store).state = .opened ∧ (bufferOf c.buffer t.store).target = none ∧
         t.transit.arrayQuiet = (s.transit.arrayQuiet || s.store.restartWait))) ∧
  (∀ (s : State) (c : CommitRun), s.store.running = some (.commit c) → c.suspended = false → c.phase = .verify →
     let content := (bufferOf c.buffer s.store).content
     let ended := fun (page : Page Content) (entry : DirEntry) (failed : Bool) => { s with
       flash := { s.flash with presets := setAt s.flash.presets c.preset page, journal := none }
       store := { setBuffer c.buffer { bufferOf c.buffer s.store with state := .opened, target := none } s.store with
         directory := setAt s.store.directory c.preset entry, running := none }
       flags := { s.flags with commitFail := failed }
       transit := { s.transit with arrayQuiet := s.transit.arrayQuiet || s.store.restartWait } }
     exec (.verifyEnd true) s = .next (arbitrate (ended { void := false, body := .programmed content }
       { state := .valid, airSafe := content.airSafe } false)) ∧
     ∃ body : PageBody Content, exec (.verifyEnd false) s = .next (arbitrate (count .commitFail
       (ended { void := true, body := body } { state := .bad, airSafe := false } true))))

/-- MAP_ERASE_END and MAP_PROGRAM_END complete: an erase leaves the map page EMPTY; a program releases channel (first
+ i) mod 128 for each set mask entry i and keeps every other, on an EMPTY or VALID page, and leaves a BAD page BAD;
the completion notice carries the resulting map, all PROTECTED unless the page is VALID (R111, R130, R131). With
reads or operations waiting the arbiter then decides (R106). -/
def Obligations.MapOperationsEnd : Prop :=
  (∀ s : State, s.store.serving = none → s.store.reads = [] → s.store.ops = [] →
    let ended := fun (page : Page ChannelSet) (entry : EntryState) (notice : ChannelSet) =>
      { s with
        flash := { s.flash with mapPage := page, journal := none }
        store := { s.store with mapEntry := entry, running := none }
        transit := { s.transit with
          mapDone := s.transit.mapDone ++ [notice]
          arrayQuiet := s.transit.arrayQuiet || s.store.restartWait } }
    (s.store.running = some .mapErase →
      exec .mapEraseEnd s = .next (ended { void := false, body := .erased } .empty 0)) ∧
    (∀ (first : Channel) (mask : BitVec 32), s.store.running = some (.mapProgram first mask) →
      (s.store.mapEntry = .bad → exec .mapProgramEnd s = .next (ended s.flash.mapPage .bad 0)) ∧
      (∀ old : ChannelSet,
        (s.store.mapEntry = .empty ∧ old = 0) ∨
          (s.store.mapEntry = .valid ∧ s.flash.mapPage.body = .programmed old) →
        ∃ new : ChannelSet,
          exec .mapProgramEnd s = .next (ended { void := false, body := .programmed new } .valid new) ∧
          ∀ c : Channel, new.getLsbD c.val = true ↔ old.getLsbD c.val = true ∨
            ∃ i : Nat, i < 32 ∧ mask.getLsbD i = true ∧ channelMod (first.val + i) = c))) ∧
  (∀ s : State,
    let ended := fun (page : Page ChannelSet) (entry : EntryState) (notice : ChannelSet) =>
      arbitrate { s with
        flash := { s.flash with mapPage := page, journal := none }
        store := { s.store with mapEntry := entry, running := none }
        transit := { s.transit with
          mapDone := s.transit.mapDone ++ [notice]
          arrayQuiet := s.transit.arrayQuiet || s.store.restartWait } }
    (s.store.running = some .mapErase →
      exec .mapEraseEnd s = .next (ended { void := false, body := .erased } .empty 0)) ∧
    (∀ (first : Channel) (mask : BitVec 32), s.store.running = some (.mapProgram first mask) →
      (s.store.mapEntry = .bad → exec .mapProgramEnd s = .next (ended s.flash.mapPage .bad 0)) ∧
      (∀ old : ChannelSet,
        (s.store.mapEntry = .empty ∧ old = 0) ∨
          (s.store.mapEntry = .valid ∧ s.flash.mapPage.body = .programmed old) →
        ∃ new : ChannelSet,
          exec .mapProgramEnd s = .next (ended { void := false, body := .programmed new } .valid new) ∧
          ∀ c : Channel, new.getLsbD c.val = true ↔ old.getLsbD c.val = true ∨
            ∃ i : Nat, i < 32 ∧ mask.getLsbD i = true ∧ channelMod (first.val + i) = c)))

/-- START_SCAN_END and START_SCAN_MAP complete: every page is judged, the map page too: BAD with its void mark set or
with damaged fields, else EMPTY when erased and VALID when programmed; VALID preset entries take their air-safe
attribute; outside SAFE the map, every entry PROTECTED unless its page is VALID, and the scan end are sent and
nothing else is; the protection unit takes the map with no notice (R98, R100, R117, R120, R128). That the pages are
judged together at the end of the scan is the model's choice (log 14). -/
def Obligations.StartScanJudgesPages : Prop :=
  (∀ s : State, s.store.scanning = true →
    let mapState : EntryState := match s.flash.mapPage.void, s.flash.mapPage.body with
      | false, .programmed _ => .valid
      | false, .erased => .empty
      | _, _ => .bad
    let map : ChannelSet := match s.flash.mapPage.void, s.flash.mapPage.body with
      | false, .programmed m => m
      | _, _ => 0
    ∃ t, exec .startScanEnd s = .next t ∧
      t = { s with
        store := { s.store with directory := t.store.directory, mapEntry := mapState, scanning := false }
        transit := if s.station.state = .safe then s.transit
          else { s.transit with scanMap := some map, scanEnd := true } } ∧
      ∀ n : Fin 64, t.store.directory[n] =
        match s.flash.presets[n].void, s.flash.presets[n].body with
        | false, .programmed c => { state := .valid, airSafe := c.airSafe }
        | false, .erased => { state := .empty, airSafe := false }
        | _, _ => { state := .bad, airSafe := false }) ∧
  (∀ (s : State) (m : ChannelSet), s.transit.scanMap = some m →
    exec .startScanMap s = .next { s with
      protection := { s.protection with map := m }
      transit := { s.transit with scanMap := none } })

/-! ### Protection -/

/-- ON_AIR_EDGE, ON_AIR_ASSERTION and ON_AIR_DEASSERTION complete: an edge forms or drops the candidate; a candidate
held moves the pin level, an assertion counting MAP_LATE_AIR for each outstanding map operation, and one notice is
sent when protection in force changes; the latch never changes (R124, R125, R132). MAP_COMPLETION_NOTICE completes:
the map copy is replaced in whole, the outstanding count goes down by one when above 0, and a protection notice is
sent when an entry differs (R128). -/
def Obligations.OnAirPinAndMapCopy : Prop :=
  (∀ s : State, s.protection.started = true →
     (∀ (level : Bool) (now : Nanos), exec (.onAirEdge level now) s = .next { s with
       pins := { s.pins with onAir := level }
       protection := { s.protection with
         candidate := if level = s.protection.pin then none else some { level := level, since := now } } }) ∧
     (∀ since : Nanos, s.protection.candidate = some { level := true, since := since } →
       exec .onAirAssertion s = .next (countN .mapLateAir s.protection.outstanding { s with
         protection := { s.protection with pin := true, candidate := none }
         transit := { s.transit with protNotices := s.transit.protNotices +
           (if s.protection.pin || s.protection.latch then 0 else 1) } })) ∧
     (∀ since : Nanos, s.protection.candidate = some { level := false, since := since } →
       exec .onAirDeassertion s = .next { s with
         protection := { s.protection with pin := false, candidate := none }
         transit := { s.transit with protNotices := s.transit.protNotices +
           (if s.protection.pin && !s.protection.latch then 1 else 0) } })) ∧
  (∀ (s : State) (m : ChannelSet) (ms : List ChannelSet), s.transit.mapDone = m :: ms →
     exec .mapCompletionNotice s = .next { s with
       protection := { s.protection with
         map := m
         outstanding := if 0 < s.protection.outstanding then s.protection.outstanding - 1 else 0 }
       transit := { s.transit with
         mapDone := ms
         protNotices := if m = s.protection.map then s.transit.protNotices
           else s.transit.protNotices + 1 } })

/-- PROTECT_ON, PROTECT_OFF and PROTECT_CODE_ERROR complete: ON sets the latch; OFF clears it with the pin deasserted
and is refused with PROTECT_OFF_REFUSED with the pin asserted; a code above 1 counts ARG_ERR; a notice is sent when
protection in force changes (R125 to R127). The code is the byte after the scope (the layout of chapter 12). -/
def Obligations.ProtectMessages : Prop :=
  (∀ (m : Message) (s : State), Routed .protect m s →
    let gap : State := { s with line := { s.line with lineState := .gap } }
    (protectCode m = 1 → exec (.protectOn m) s = .next { gap with
      protection := { s.protection with latch := true }
      transit := { s.transit with protNotices := s.transit.protNotices +
        (if s.protection.pin || s.protection.latch then 0 else 1) } }) ∧
    (protectCode m = 0 →
      (s.protection.pin = true → exec (.protectOff m) s = .next (count .protectOffRefused gap)) ∧
      (s.protection.pin = false → exec (.protectOff m) s = .next { gap with
        protection := { s.protection with latch := false }
        transit := { s.transit with protNotices := s.transit.protNotices +
          (if s.protection.latch then 1 else 0) } })) ∧
    (1 < (protectCode m).toNat → exec (.protectCodeError m) s = .next (count .argErr gap))) ∧
  (∀ m : Message, m.body.length = 5 → HoldsFields m.body [(4, 1, (protectCode m).toNat)])

/-- MAP_ERASE, MAP_PROGRAM and MAP_CODE_ERROR complete: with the pin asserted a MAP is refused with MAP_REFUSED; a
full operation queue counts OPQ_FULL and loses it; otherwise the operation is handed over, and behind an operation in
progress that is not suspended it joins the queue, the outstanding count going up by one; a code above 1 counts
ARG_ERR (R105, R129). Whatever stands in the array and its queues, the arbiter decides once the operation has joined
(R106). The outstanding count never exceeds 5, and a refused operation leaves it and the map copy as they are (R129):
with five outstanding, an operation that the queue has room for has a completion notice that waits taken first (the
model's reading, log 45). Code, first channel and release mask follow the scope (R194). -/
def Obligations.MapMessages : Prop :=
  (∀ (m : Message) (s : State), Routed .map m s →
    let gap : State := { s with line := { s.line with lineState := .gap } }
    (1 < (mapCode m).toNat → exec (.mapCodeError m) s = .next (count .argErr gap)) ∧
    (∀ (c : Instr) (op : ArrayOp),
      (mapCode m = 0 ∧ c = .mapErase m ∧ op = .mapErase) ∨
        (mapCode m = 1 ∧ c = .mapProgram m ∧
          op = .mapProgram (channelMod (mapFirstChannel m).toNat) (mapReleaseMask m)) →
      (s.protection.pin = true → exec c s = .next (count .mapRefused gap)) ∧
      (s.protection.pin = false → 4 ≤ s.store.ops.length → exec c s = .next (count .opqFull gap)) ∧
      (s.protection.pin = false → s.protection.outstanding < 5 → s.store.ops.length < 4 →
        s.store.serving = none → s.store.reads = [] →
        (∀ r : Running, s.store.running = some r → (∀ x ∈ runningCommit s, x.suspended = false) →
          exec c s = .next { gap with
            store := { s.store with ops := s.store.ops ++ [op] }
            protection := { s.protection with outstanding := s.protection.outstanding + 1 } }) ∧
        (s.store.running = none → s.store.ops = [] → s.store.restartWait = false →
          exec c s = .next { gap with
            flash := { s.flash with journal := some .map }
            store := { s.store with
              running := if c = .mapErase m then some .mapErase
              else some (.mapProgram (channelMod (mapFirstChannel m).toNat) (mapReleaseMask m)) }
            protection := { s.protection with outstanding := s.protection.outstanding + 1 } })))) ∧
  (∀ (m : Message) (s : State) (c : Instr) (op : ArrayOp), Routed .map m s →
    (mapCode m = 0 ∧ c = .mapErase m ∧ op = .mapErase) ∨
      (mapCode m = 1 ∧ c = .mapProgram m ∧
        op = .mapProgram (channelMod (mapFirstChannel m).toNat) (mapReleaseMask m)) →
    s.protection.pin = false → s.protection.outstanding < 5 → s.store.ops.length < 4 →
    exec c s = .next { arbitrate { s with
        line := { s.line with lineState := .gap }
        store := { s.store with ops := s.store.ops ++ [op] } } with
      protection := { s.protection with outstanding := s.protection.outstanding + 1 } }) ∧
  (∀ (m : Message) (s : State) (c : Instr) (op : ArrayOp), Routed .map m s →
    (mapCode m = 0 ∧ c = .mapErase m ∧ op = .mapErase) ∨
      (mapCode m = 1 ∧ c = .mapProgram m ∧
        op = .mapProgram (channelMod (mapFirstChannel m).toNat) (mapReleaseMask m)) →
    s.protection.pin = false → 5 ≤ s.protection.outstanding → s.store.ops.length < 4 →
    ∃ u, exec .mapCompletionNotice { s with line := { s.line with lineState := .gap } } = .next u ∧
      exec c s = .next { arbitrate { u with
          store := { u.store with ops := u.store.ops ++ [op] } } with
        protection := { u.protection with outstanding := u.protection.outstanding + 1 } }) ∧
  (∀ m : Message, m.body.length = 10 →
    HoldsFields m.body [(4, 1, (mapCode m).toNat), (5, 1, (mapFirstChannel m).toNat),
      (6, 4, (mapReleaseMask m).toNat)])

/-! ### Wall feed -/

/-- RASTER_FRAME_START, LINE_MARKER and CODE_ERROR complete. A raster frame start begins a load with the selected
profile when EMPTY, after INPUT_SHORT when FILLING, counts INPUT_DROP when COMPLETE and does neither when frozen. A
line marker goes to the next row, with a line error for a short line or an excess row. A line error abandons a
FILLING load and counts INPUT_ERR once in a raster frame (R140, R144, R146). The model's choices: an abandoned load
empties the LOAD state alone (log 23), and a code error before the first raster frame start is a line error that
counts (log 24). -/
def Obligations.RasterMarkersAndErrors : Prop :=
  ∀ s : State, takesRaster s = true →
    let fresh : WallFeed := { s.wall with raster := some { row := none, column := 0 }, errSeen := false }
    let erred : State := countIf (!s.wall.errSeen) .inputErr { s with
      wall := { s.wall with
        load := if s.wall.load = .filling then .empty else s.wall.load
        errSeen := true } }
    let begun : WallFeed := { fresh with
      load := .filling, loadProfile := s.wall.profile, luma := 0, satR := false, satG := false, satB := false,
      pointerCol := 0, pointerRow := 0 }
    (s.wall.frozen = true → exec .rasterFrameStart s = .next { s with wall := fresh }) ∧
    (s.wall.frozen = false →
      (s.wall.load = .empty → exec .rasterFrameStart s = .next { s with wall := begun }) ∧
      (s.wall.load = .filling → exec .rasterFrameStart s = .next (count .inputShort { s with wall := begun })) ∧
      (s.wall.load = .complete → exec .rasterFrameStart s = .next (count .inputDrop { s with wall := fresh }))) ∧
    (∀ p : RasterPosition, s.wall.raster = some p →
      let next : RasterPosition := { row := some (match p.row with | some r => r + 1 | none => 0), column := 0 }
      let bad := (p.row ≠ none ∧ p.column < s.image.rasterColumns) ∨
        s.image.rasterRows ≤ (match p.row with | some r => r + 1 | none => 0)
      (¬ bad → exec .lineMarker s = .next { s with wall := { s.wall with raster := some next } }) ∧
      (bad → exec .lineMarker s =
        .next { erred with wall := { erred.wall with raster := some next } })) ∧
    exec .codeError s = .next erred

/-- RASTER_PIXEL completes. A pixel before the first line marker or past the last column is a line error; a pixel
outside the window or with no load FILLING moves the column alone; a window pixel of a FILLING load is stored at the
window pointer with its components corrected, its luma is added, and the last one makes the load COMPLETE with its
mean luma (R140 to R142, R145). The pointer moves one column along its row, and after the last column to column 0 of
the next row (R145); a component's first clamp in the load sets its mark and counts GAIN_SAT (R141); a line error
leaves a load that is not FILLING as it is (R146). That an abandoned load keeps its luma, marks and pointer is the
model's choice (log 23). -/
def Obligations.PixelsFillTheLoad : Prop :=
  ∀ (s : State) (p : Pixel) (row : Option Nat) (col : Nat), takesRaster s = true →
    s.wall.raster = some { row := row, column := col } →
    ∃ t, exec (.rasterPixel p) s = .next t ∧ t.wall.raster = some { row := row, column := col + 1 } ∧
      t = { s with wall := t.wall, counters := t.counters } ∧
       (∀ x : Counter, x ≠ .inputErr → x ≠ .gainSat → counterOf t x = counterOf s x) ∧
      (row = none ∨ s.image.rasterColumns ≤ col →
        t.wall.errSeen = true ∧ (s.wall.load = .filling → t.wall.load = .empty) ∧
        counterOf t .inputErr = (if s.wall.errSeen then counterOf s .inputErr
          else saturatingAdd (counterOf s .inputErr) 1)) ∧
      (∀ r : Nat, row = some r → col < s.image.rasterColumns →
        (s.wall.load ≠ .filling ∨ inWindow s.image col r = false → t = { s with
          wall := { s.wall with raster := some { row := row, column := col + 1 } } }) ∧
        (s.wall.load = .filling → inWindow s.image col r = true →
          let g := gainsOf s.image s.wall.loadProfile
            (s.wall.pointerRow / 64 * panelColumns s.image + s.wall.pointerCol / 64)
          let q := correctPixel p g
          loadBank t.wall = bankWrite (loadBank s.wall) s.wall.pointerCol s.wall.pointerRow q ∧
          liveBank t.wall = liveBank s.wall ∧
          (s.wall.pointerCol + 1 = segmentWidth s.image ∧ s.wall.pointerRow + 1 = segmentHeight s.image →
            t.wall.load = .complete ∧ t.wall.luma = (s.wall.luma + luma q) / pixelCount s.image) ∧
          (¬ (s.wall.pointerCol + 1 = segmentWidth s.image ∧ s.wall.pointerRow + 1 = segmentHeight s.image) →
            t.wall.load = .filling ∧ t.wall.luma = s.wall.luma + luma q) ∧
          (s.wall.pointerCol + 1 < segmentWidth s.image →
            t.wall.pointerCol = s.wall.pointerCol + 1 ∧ t.wall.pointerRow = s.wall.pointerRow) ∧
          (segmentWidth s.image ≤ s.wall.pointerCol + 1 →
            t.wall.pointerCol = 0 ∧ t.wall.pointerRow = s.wall.pointerRow + 1) ∧
          (let clamped := fun (x : BitVec 10) (y : BitVec 16) => decide (1023 < (x.toNat * y.toNat + 16384) / 32768)
           t.wall.satR = (s.wall.satR || clamped p.r g.r) ∧ t.wall.satG = (s.wall.satG || clamped p.g g.g) ∧
           t.wall.satB = (s.wall.satB || clamped p.b g.b) ∧
           counterOf t .gainSat = saturatingAdd (counterOf s .gainSat)
             ((if s.wall.satR = false ∧ clamped p.r g.r = true then 1 else 0) +
              (if s.wall.satG = false ∧ clamped p.g g.g = true then 1 else 0) +
              (if s.wall.satB = false ∧ clamped p.b g.b = true then 1 else 0))) ∧
          counterOf t .inputErr = counterOf s .inputErr ∧
          t.wall = { s.wall with
            bank0 := t.wall.bank0, bank1 := t.wall.bank1, load := t.wall.load, luma := t.wall.luma
            pointerCol := t.wall.pointerCol, pointerRow := t.wall.pointerRow
            satR := t.wall.satR, satG := t.wall.satG, satB := t.wall.satB
            raster := some { row := row, column := col + 1 } })) ∧
      (row = none ∨ s.image.rasterColumns ≤ col →
        counterOf t .gainSat = counterOf s .gainSat ∧
        t.wall = { s.wall with
          load := match s.wall.load with
            | .filling => .empty
            | .empty => .empty
            | .complete => .complete
          errSeen := true
          raster := some { row := row, column := col + 1 } })

/-- A stored component: min(1023, floor((c × g + 16384) / 32768)), the component itself at gain 32768 and 0 at gain
0; and the luma of a stored pixel is at most 1023 (R141, R142). A panel pixel is black while DARK, muted or outside a
scan, and otherwise each component is floor(c' × k / 32768), never above the stored one (R153). During a scan the
link of a panel row carries the scan frame with its rows from 64 r to the lesser of 64 r + 63 and the last, each its
pixels from column 0 to width − 1; the links beyond the panel rows, and every link outside a scan, are black (R153).
-/
def Obligations.PixelArithmetic : Prop :=
  ((∀ (c : BitVec 10) (g : BitVec 16), (correct c g).toNat = min 1023 ((c.toNat * g.toNat + 16384) / 32768)) ∧
   (∀ c : BitVec 10, correct c 32768 = c ∧ correct c 0 = 0) ∧
   ∀ p : Pixel, luma p = (54 * p.r.toNat + 183 * p.g.toNat + 19 * p.b.toNat) / 256 ∧ luma p ≤ 1023) ∧
  (∀ (w : WallFeed) (col row k : Nat), k ≤ 32768 → w.k = some k →
     (w.enabled = false ∨ w.muted = true ∨ w.scan = none → panelPixel w col row = black) ∧
     (w.enabled = true → w.muted = false → w.scan ≠ none →
       let p := bankRead (liveBank w) col row
       let q := panelPixel w col row
       q.r.toNat = p.r.toNat * k / 32768 ∧ q.g.toNat = p.g.toNat * k / 32768 ∧
       q.b.toNat = p.b.toNat * k / 32768 ∧
       q.r.toNat ≤ p.r.toNat ∧ q.g.toNat ≤ p.g.toNat ∧ q.b.toNat ≤ p.b.toNat)) ∧
  (∀ (s : State) (link : Fin 9),
     (s.wall.scan = none ∨ segmentHeight s.image ≤ 64 * link.val → panelLink s link = .black) ∧
     (∀ f : FrameNo, s.wall.scan = some f → 64 * link.val < segmentHeight s.image →
       ∃ rows : List (List Pixel), panelLink s link = .scanFrame f rows ∧
         rows.length = min 64 (segmentHeight s.image - 64 * link.val) ∧
         ∀ (i : Nat) (row : List Pixel), rows[i]? = some row → row.length = segmentWidth s.image ∧
           ∀ (col : Nat) (q : Pixel), row[col]? = some q → q = panelPixel s.wall col (64 * link.val + i)))

/-- WALL_FRAME_START completes when the last scan has ended: the mute request is settled when its label is before F
or with the adoption mark; not frozen, a COMPLETE load becomes LIVE with its mean, and the LOAD state becomes EMPTY
with luma 0, marks clear and the window pointer at the origin, while any other load repeats with REPEAT and goes on
as it is; frozen repeats uncounted; the scan of F begins when k(F) is held and is owed until then (R147, R148, R153).
While the scan of the frame before it is in progress or owed, or another frame start waits, a frame start waits and
nothing else happens (R153). -/
def Obligations.WallFrameStartSwapsOrRepeats : Prop :=
  ∀ (s : State) (e : FrameEvent) (es : List FrameEvent), s.transit.wallFrames = e :: es →
    (s.wall.scan ≠ none ∨ s.wall.scanOwed = true ∨ s.wall.waiting ≠ [] → exec .wallFrameStart s = .next { s with
      wall := { s.wall with waiting := s.wall.waiting ++ [e] }
      transit := { s.transit with wallFrames := es } }) ∧
    (s.wall.scan = none → s.wall.scanOwed = false → s.wall.waiting = [] →
      ∃ t, exec .wallFrameStart s = .next t ∧
        t = { s with wall := t.wall, transit := { s.transit with wallFrames := es }, counters := t.counters } ∧
        (∀ x : Counter, x ≠ .repeated → counterOf t x = counterOf s x) ∧
        t.wall = { s.wall with
          frame := e.frame, taken := e.serial, k := scaleFor e.serial s.wall.scales
          scales := s.wall.scales.filter fun m => decide (e.serial < m.serial)
          live := t.wall.live, liveLuma := t.wall.liveLuma, load := t.wall.load, luma := t.wall.luma
          satR := t.wall.satR, satG := t.wall.satG, satB := t.wall.satB
          pointerCol := t.wall.pointerCol, pointerRow := t.wall.pointerRow
          muted := t.wall.muted, muteRequest := t.wall.muteRequest
          scan := t.wall.scan, scanOwed := t.wall.scanOwed } ∧
        (∀ r : MuteRequest, s.wall.muteRequest = some r →
          (isBefore r.label e.frame = true ∨ e.adopted = true →
            t.wall.muted = r.mute ∧ t.wall.muteRequest = none) ∧
          (isBefore r.label e.frame = false → e.adopted = false →
            t.wall.muted = s.wall.muted ∧ t.wall.muteRequest = some r)) ∧
        (s.wall.muteRequest = none → t.wall.muted = s.wall.muted ∧ t.wall.muteRequest = none) ∧
        (s.wall.frozen = false → s.wall.load = .complete →
          t.wall.live = !s.wall.live ∧ t.wall.liveLuma = s.wall.luma ∧ t.wall.load = .empty ∧
          t.wall.luma = 0 ∧ t.wall.satR = false ∧ t.wall.satG = false ∧ t.wall.satB = false ∧
          t.wall.pointerCol = 0 ∧ t.wall.pointerRow = 0 ∧ counterOf t .repeated = counterOf s .repeated) ∧
        (s.wall.frozen = true ∨ s.wall.load ≠ .complete →
          t.wall.live = s.wall.live ∧ t.wall.liveLuma = s.wall.liveLuma ∧ t.wall.load = s.wall.load ∧
          t.wall.luma = s.wall.luma ∧ t.wall.satR = s.wall.satR ∧ t.wall.satG = s.wall.satG ∧
          t.wall.satB = s.wall.satB ∧ t.wall.pointerCol = s.wall.pointerCol ∧
          t.wall.pointerRow = s.wall.pointerRow ∧
          counterOf t .repeated = if s.wall.frozen then counterOf s .repeated
            else saturatingAdd (counterOf s .repeated) 1) ∧
        (∀ k : Nat, scaleFor e.serial s.wall.scales = some k →
          t.wall.scan = some e.frame ∧ t.wall.scanOwed = false) ∧
        (scaleFor e.serial s.wall.scales = none → t.wall.scan = none ∧ t.wall.scanOwed = true))

/-- SCALE_ARRIVAL_WALL, SCAN_END and RUN_NOTICE_WALL complete: an owed scan begins when k of the current frame
arrives; the scan end makes the scan idle, takes a run notice that waited and then a frame start that waits, as
WALL_FRAME_START takes it; k of a frame start not yet taken is kept for it, k of the current frame is held when no
scan is owed, and k of an earlier one is dropped (R153, R171); a run notice enables the output at once outside a
scan, and waits during one (R153, R154). WALL_FREEZE, WALL_RUN, WALL_MUTE, WALL_UNMUTE and WALL_PROFILE complete
outside SAFE: FREEZE discards the load with its luma and marks, RUN clears frozen, MUTE and UNMUTE set the mute
request with the label, PROFILE 0 to 3 selects and above 3 counts ARG_ERR, for the cue list and the look machine
alike (R150 to R152). In SAFE they are discarded (R156). The model's choices: FREEZE puts the window pointer at the
origin (log 23), and a run notice waits for any scan in progress (log 26). -/
def Obligations.ScansAndWallActions : Prop :=
  ((∀ (s : State) (m : ScaleMessage) (ms : List ScaleMessage), s.transit.wallScales = m :: ms →
     m.serial = s.wall.taken → s.wall.scanOwed = true →
     exec .scaleArrivalWall s = .next { s with
       wall := { s.wall with k := some m.k, scan := some s.wall.frame, scanOwed := false }
       transit := { s.transit with wallScales := ms } }) ∧
   (∀ (s : State) (m : ScaleMessage) (ms : List ScaleMessage), s.transit.wallScales = m :: ms →
     let taken : State := { s with transit := { s.transit with wallScales := ms } }
     (s.wall.taken < m.serial → exec .scaleArrivalWall s =
       .next { taken with wall := { s.wall with scales := s.wall.scales ++ [m] } }) ∧
     (m.serial = s.wall.taken → s.wall.scanOwed = false → exec .scaleArrivalWall s =
       .next { taken with wall := { s.wall with k := some m.k } }) ∧
     (m.serial < s.wall.taken → exec .scaleArrivalWall s = .next taken)) ∧
   (∀ (s : State) (f : FrameNo), s.wall.scan = some f → s.wall.waiting = [] →
     exec .scanEnd s = .next { s with wall := { s.wall with
       scan := none, enabled := s.wall.enabled || s.wall.noticeWaits, noticeWaits := false } }) ∧
   (∀ (s : State) (f : FrameNo) (e : FrameEvent) (es : List FrameEvent), s.wall.scan = some f →
     s.wall.scanOwed = false → s.wall.waiting = e :: es →
     ∃ t, exec .wallFrameStart { s with
         wall := { s.wall with
           scan := none, enabled := s.wall.enabled || s.wall.noticeWaits, noticeWaits := false, waiting := [] }
         transit := { s.transit with wallFrames := e :: s.transit.wallFrames } } = .next t ∧
       exec .scanEnd s = .next { t with wall := { t.wall with waiting := es } }) ∧
   (∀ (s : State) (n : Notice), s.transit.runWall = some n →
     (s.wall.scan = none → exec .runNoticeWall s = .next { s with
       wall := { s.wall with enabled := true }
       transit := { s.transit with runWall := none } }) ∧
     (s.wall.scan ≠ none → exec .runNoticeWall s = .next { s with
       wall := { s.wall with noticeWaits := true }
       transit := { s.transit with runWall := none } }))) ∧
  ((∀ (s : State) (a : WallAction) (as : List WallAction), s.transit.wallActions = a :: as →
     s.station.state ≠ .safe →
     let taken : State := { s with transit := { s.transit with wallActions := as } }
     (a.action = .wallFreeze → s.wall.frozen = false → exec .wallFreeze s = .next { taken with
       wall := { s.wall with
         frozen := true, load := .empty, luma := 0, satR := false, satG := false, satB := false,
         pointerCol := 0, pointerRow := 0 } }) ∧
     (a.action = .wallFreeze → s.wall.frozen = true → exec .wallFreeze s = .next taken) ∧
     (a.action = .wallRun → exec .wallRun s = .next { taken with wall := { s.wall with frozen := false } }) ∧
     (a.action = .wallMute → exec .wallMute s = .next { taken with
       wall := { s.wall with muteRequest := some { mute := true, label := a.label } } }) ∧
     (a.action = .wallUnmute → exec .wallUnmute s = .next { taken with
       wall := { s.wall with muteRequest := some { mute := false, label := a.label } } }) ∧
     (∀ p : Byte, a.action = .wallProfile p →
       (∀ q : Fin 4, p.toNat = q.val → exec (.wallProfile .cueList) s =
         .next { taken with wall := { s.wall with profile := q } }) ∧
       (4 ≤ p.toNat → exec (.wallProfile .cueList) s = .next (count .argErr taken)))) ∧
   (∀ (s : State) (p : Byte) (ps : List Byte) (q : Fin 4), s.transit.lookProfiles = p :: ps →
     s.station.state ≠ .safe → p.toNat = q.val →
     exec (.wallProfile .lookMachine) s = .next { s with
       wall := { s.wall with profile := q }
       transit := { s.transit with lookProfiles := ps } }) ∧
   (∀ (s : State) (p : Byte) (ps : List Byte), s.transit.lookProfiles = p :: ps →
     s.station.state ≠ .safe → 4 ≤ p.toNat →
     exec (.wallProfile .lookMachine) s =
       .next (count .argErr { s with transit := { s.transit with lookProfiles := ps } }))) ∧
  (∀ (s : State) (c : Instr), s.station.state = .safe →
     (∀ (a : WallAction) (as : List WallAction), s.transit.wallActions = a :: as →
       (a.action = .wallFreeze ∧ c = .wallFreeze) ∨ (a.action = .wallRun ∧ c = .wallRun) ∨
         (a.action = .wallMute ∧ c = .wallMute) ∨ (a.action = .wallUnmute ∧ c = .wallUnmute) ∨
         (∃ p : Byte, a.action = .wallProfile p ∧ c = .wallProfile .cueList) →
       exec c s = .next { s with transit := { s.transit with wallActions := as } }) ∧
     (∀ (p : Byte) (ps : List Byte), s.transit.lookProfiles = p :: ps →
       exec (.wallProfile .lookMachine) s = .next { s with transit := { s.transit with lookProfiles := ps } }))

/-! ### Supply budget -/

/-- DEMAND completes: the source's entry takes the group and the current frame as last arrival; an absent entry holds
the announcement alone, one with the same target is replaced in its place, a second one is added in target order, and
of three the earliest is dropped; DEMAND_LATE is counted for a target equal to the closed frame or before it (R161,
R162). The fields stand in the payload at the offsets of R194. -/
def Obligations.DemandStored : Prop :=
  (∀ (m : Message) (s : State) (x : Announcement), Routed .demand m s →
    x = { target := (demandFields m).target, x := (demandFields m).x, s := (demandFields m).s,
          clamp := (demandFields m).clamp } →
    ∃ (t : State) (e : PeerEntry), exec (.demand m) s = .next t ∧
      t.budget.peers[m.source.toFin] = some e ∧
      e = entryAfter (demandFields m).group x s.budget.frame s.budget.peers[m.source.toFin] ∧
      (∀ n : Fin 32, n ≠ m.source.toFin → t.budget.peers[n] = s.budget.peers[n]) ∧
      e.group = (demandFields m).group ∧ e.lastArrival = s.budget.frame ∧
      t = { s with
        line := { s.line with lineState := .gap }
        budget := { s.budget with peers := t.budget.peers }
        counters := t.counters } ∧
      (∀ c : Counter, c ≠ .demandLate → counterOf t c = counterOf s c) ∧
      (s.budget.peers[m.source.toFin] = none → e.first = x ∧ e.second = none) ∧
      (∀ old : PeerEntry, s.budget.peers[m.source.toFin] = some old →
        (old.first.target = x.target → e.first = x ∧ e.second = old.second) ∧
        (old.first.target ≠ x.target → old.second = none →
          (isBefore old.first.target x.target = true → e.first = old.first ∧ e.second = some x) ∧
          (isBefore old.first.target x.target = false → e.first = x ∧ e.second = some old.first)) ∧
        (∀ b : Announcement, old.first.target ≠ x.target → old.second = some b →
          (b.target = x.target → e.first = old.first ∧ e.second = some x) ∧
          (b.target ≠ x.target → isBefore old.first.target x.target = false →
            e.first = old.first ∧ e.second = some b) ∧
          (b.target ≠ x.target → isBefore old.first.target x.target = true →
            (isBefore b.target x.target = true → e.first = b ∧ e.second = some x) ∧
            (isBefore b.target x.target = false → e.first = x ∧ e.second = some b)))) ∧
      (s.budget.last = none → counterOf t .demandLate = counterOf s .demandLate) ∧
      (∀ r : BudgetRecord, s.budget.last = some r →
        counterOf t .demandLate =
          (if x.target = r.target ∨ isBefore x.target r.target = true then
            saturatingAdd (counterOf s .demandLate) 1 else counterOf s .demandLate))) ∧
  (∀ m : Message, m.body.length = 9 →
    let f := demandFields m
    HoldsFields m.body [(0, 1, f.group.toNat), (1, 3, f.target.toNat), (4, 2, f.x.toNat), (6, 2, f.s.toNat)] ∧
    (f.clamp = true ↔ ofBytes ((m.body.drop 8).take 1) % 2 = 1))

/-- The close: X and S are the sums of the announcements taken; k_target and flags come from the first of the three
rows that applies, with the other rows' flags clear, and the factor falls at once and rises by at most one rise step;
when it is held neither by OVER nor by FLOOR, the own view of the group's draw is at most C (R168, R169). One
announcement is taken from each present entry of the own supply group and from no other, and the record counts them,
those that are stale and those ahead (R167, R170). The announcement taken from an entry: the one for G; else the
latest before G; else the earlier of those ahead (R167). -/
def Obligations.BudgetClose : Prop :=
  (∀ (s : State) (g : FrameNo),
     let r := closeRecord s g
     let taken := takenAnnouncements s g
     let f := closeFactor s.image.limitC s.image.kMin r.x r.s
     r.target = g ∧ r.x = (taken.map fun t => t.2.x.toNat).sum ∧ r.s = (taken.map fun t => t.2.s.toNat).sum ∧
     r.counted = taken.length ∧ r.stale = taken.countP (fun t => t.1 == .stale) ∧
     r.ahead = taken.countP (fun t => t.1 == .ahead) ∧ r.kTarget = f.1 ∧
     taken = (((List.finRange 32).filterMap fun n => s.budget.peers[n]).filter
       fun e => decide (e.group = s.image.group)).map (selectAnnouncement g) ∧
     r.flags = { f.2 with clamped := taken.any fun t => t.2.clamp } ∧
     r.k = min r.kTarget (s.budget.scale.k + s.image.riseStep)) ∧
  (∀ (c kMin x y base rise : Nat), kMin ≤ 32768 → kMin ≤ base →
     let f := closeFactor c kMin x y
     let k := slewFactor f.1 base rise
     (x + y ≤ c → f.1 = 32768 ∧ f.2.full = true ∧ f.2.overLimit = false ∧ f.2.floored = false) ∧
     (c < x + y → c ≤ x → f.1 = kMin ∧ f.2.full = false ∧ f.2.overLimit = true ∧ f.2.floored = false) ∧
     (c < x + y → x < c → f.1 = max ((c - x) * 32768 / y) kMin ∧ f.2.full = false ∧ f.2.overLimit = false ∧
       (f.2.floored = true ↔ (c - x) * 32768 / y < kMin)) ∧
     kMin ≤ k ∧ k ≤ f.1 ∧ f.1 ≤ 32768 ∧ k ≤ base + rise ∧ (f.1 ≤ base → k = f.1) ∧
     (f.2.overLimit = false → f.2.floored = false → x * 32768 + y * k ≤ c * 32768)) ∧
  (∀ (g : FrameNo) (e : PeerEntry),
     (∀ b : Announcement, e.second = some b →
       e.first.target ≠ b.target ∧ isBefore e.first.target b.target = true) →
     let held := e.first :: e.second.toList
     let t := selectAnnouncement g e
     t.2 ∈ held ∧
     (t.1 = .exact ↔ ∃ a ∈ held, a.target = g) ∧ (t.1 = .exact → t.2.target = g) ∧
     (t.1 = .stale → isBefore t.2.target g = true ∧
       ∀ b : Announcement, e.second = some b → isBefore b.target g = true → t.2 = b) ∧
     (t.1 = .ahead → t.2 = e.first ∧ ∀ a ∈ held, isAfter a.target g = true))

/-- Raw X_own is the sum of the demands of the fixed channels: PINNED, UNSCALED, and SCALED ones protected while
protection is in force; raw S_own the sum of the others' and the wall demand; a channel's demand is its forecast
level times its rated load over 65535, and the wall demand the demand luma times the wall full load over 1023, both
rounded up (R165). A change of protection alone therefore moves demand between the two and leaves their raw sum
(R135). The demand luma is 0 when muted, the live luma when frozen or with no load COMPLETE, and else the load's luma
(R155). -/
def Obligations.ProtectionMovesDemand : Prop :=
  (∀ (s : State) (p : Protection) (g : FrameNo),
    let fixed := fun c : Channel => s.image.channels[c].cls ≠ .scaled ∨
      ((p.pin = true ∨ p.latch = true) ∧ p.map.getLsbD c.val = false)
    let demand := fun c : Channel =>
      (forecastLevel s g c * s.image.channels[c].rated.toNat + 65534) / 65535
    rawFixed { s with protection := p } g =
      ((List.finRange 128).map fun c => if fixed c then demand c else 0).sum ∧
    rawScalable { s with protection := p } g =
      ((List.finRange 128).map fun c => if fixed c then 0 else demand c).sum +
        (demandLuma s.wall * s.image.wallFullLoad + 1022) / 1023 ∧
    rawFixed s g + rawScalable s g =
      rawFixed { s with protection := p } g + rawScalable { s with protection := p } g) ∧
  (∀ w : WallFeed,
    (w.muted = true → demandLuma w = 0) ∧
    (w.muted = false → (w.frozen = true ∨ w.load ≠ .complete → demandLuma w = w.liveLuma) ∧
      (w.frozen = false → w.load = .complete → demandLuma w = w.luma)))

/-- BUDGET_FRAME_START completes: the current frame is set, the record closed for F is put in force or the scale is
held, and k(F) goes to the fade engine and the wall feed with the OVER indication; with joined no, nothing else
happens; with joined yes, a DEMAND for F + 2 is queued and the record closed is for F + 1 (R160, R166, R170 to R172).
JOIN_NOTICE completes: joined becomes yes; when frame start F_j has been taken already, a DEMAND for two frames on is
queued and the next frame is closed at once, and otherwise nothing else happens (R174). The announcement carries the
raw figures of R165, each clamped at 65535 with CLAMP, is stored in the own entry, and goes to the transmit queue as
a DEMAND; then the other entries whose latest target is behind the close's frame by more than the peer hold are
removed with PEER_LOST, and the record is the close of what stands (R162, R164 to R167). A DEMAND placed in the
transmit queue replaces the queued one in its place, joins a queue with room, or at a full one takes the room of the
oldest REPORT, else COND, not on the line, counted (R26). -/
def Obligations.BudgetFrameStarts : Prop :=
  (∀ (s : State) (e : FrameEvent) (es : List FrameEvent), s.transit.budgetFrames = e :: es →
     ∃ (t : State) (sc : Scale), exec .budgetFrameStart s = .next t ∧ t.budget.frame = e.frame ∧
       t.budget.scale = sc ∧ sc.label = e.frame ∧
       (∀ r : BudgetRecord, s.budget.last = some r →
         (r.target = e.frame → sc.k = r.k ∧ sc.kTarget = r.kTarget ∧ sc.flags = r.flags) ∧
         (r.target ≠ e.frame → sc = { s.budget.scale with label := e.frame })) ∧
       (s.budget.last = none → sc = { s.budget.scale with label := e.frame }) ∧
       t.budget.overIndication = sc.flags.overLimit ∧ t.budget.joined = s.budget.joined ∧
       t.budget.taken = e.serial ∧
       t = { s with line := t.line, budget := t.budget, transit := t.transit, counters := t.counters } ∧
       t.transit = { s.transit with
         budgetFrames := es
         fadeScales := s.transit.fadeScales ++ [{ label := e.frame, k := sc.k, serial := e.serial }]
         wallScales := s.transit.wallScales ++ [{ label := e.frame, k := sc.k, serial := e.serial }] } ∧
       (s.budget.joined = false → t.line = s.line ∧ t.counters = s.counters ∧ t.budget = { s.budget with
         frame := e.frame, taken := e.serial, scale := sc, overIndication := sc.flags.overLimit }) ∧
       (s.budget.joined = true →
         (∃ (r : BudgetRecord), t.budget.last = some r ∧ r.target = e.frame + 1 ∧
           r.k = min r.kTarget (sc.k + s.image.riseStep)) ∧
         ∃ (q : TxEntry) (a : Announcement), q ∈ t.line.queue ∧ q.msg = .demand s.image.group a ∧
           a.target = e.frame + 2)) ∧
  (∀ (s : State) (n : Notice), s.transit.joinNotice = some n →
     let noted : State := { s with
       budget := { s.budget with joined := true }
       transit := { s.transit with joinNotice := none } }
     (s.budget.taken < n.serial → exec .joinNotice s = .next noted) ∧
     (n.serial ≤ s.budget.taken → ∃ (t : State) (r : BudgetRecord) (q : TxEntry) (a : Announcement),
       exec .joinNotice s = .next t ∧ t.budget.joined = true ∧
       t = { s with
         line := t.line, budget := t.budget, counters := t.counters
         transit := { s.transit with joinNotice := none } } ∧ t.budget.scale = s.budget.scale ∧ t.budget.last = some r ∧
       r.target = s.budget.frame + 1 ∧ q ∈ t.line.queue ∧ q.msg = .demand s.image.group a ∧
       a.target = s.budget.frame + 2)) ∧
  (∀ (s : State) (e : FrameEvent) (es : List FrameEvent), s.transit.budgetFrames = e :: es →
     s.budget.joined = true → ∃ t, exec .budgetFrameStart s = .next t ∧ AnnouncedAndClosed s t e.frame) ∧
  (∀ (s : State) (n : Notice), s.transit.joinNotice = some n → n.serial ≤ s.budget.taken →
     ∃ t, exec .joinNotice s = .next t ∧ AnnouncedAndClosed s t s.budget.frame) ∧
  (∀ (group : Byte) (a : Announcement) (s : State),
     let m : TxMessage := .demand group a
     (∀ (before after : List TxEntry) (e : TxEntry), FirstEntry isDemandMsg s.line before e after →
       placeDemand group a s = { s with line := lineReplaced m s.line before e after }) ∧
     ((∀ e ∈ s.line.queue, isDemandMsg e.msg = false) →
       (s.line.queue.length < 4 → placeDemand group a s = { s with line := lineJoined m s.line }) ∧
       (4 ≤ s.line.queue.length →
         (∀ (before after : List TxEntry) (e : TxEntry), OldestFree isReportMsg s.line before e after →
           placeDemand group a s = count .queryDrop { s with line := lineMadeRoom m s.line before after }) ∧
         (NoneFree isReportMsg s.line → ∀ (before after : List TxEntry) (e : TxEntry),
           OldestFree isCondMsg s.line before e after →
           placeDemand group a s = count .condTxDrop { s with line := lineMadeRoom m s.line before after }))))

/-! ### Start-up, restart, SAFE -/

/-- POWER_ON, POWER_LOSS, RESET_PIN_ASSERTION and RESET_PIN_DEASSERTION complete: every volatile block takes its
restart values, the station enters LOADING, or SETUP with the SETUP strap high, with its restart cause, and an
operation in progress is broken off with the journal standing and its page damaged, but that what a commit in VERIFY
has programmed stands (R99, R118, R179, R180; a page in VERIFY: log 13). The model's choices: the state while the
supply is down or the pin is held (log 17, log 18), the whole default image and k of 4096 before a store is read (log
12), the setup port's values outside SETUP (log 34), and that nothing on its way between blocks outlives a restart
(log 39). A row whose programming power-on, power loss or RESET breaks off holds in each byte its old or its new
value, and every other byte of the store its old one (R188). -/
def Obligations.SupplyAndResetRestart : Prop :=
  (∀ s : State,
     (∀ pins : Pins, ∃ t, exec (.powerOn pins) s = .next t ∧ AtRestart pins.stn t ∧ ArrayBrokenOff s t ∧
       RestartedStation t.station (loadingOrSetup pins.setup) pins.stn .powerOn none ∧
       t.power.powered = true ∧ t.pins = pins ∧ (NoRowProgramming s → t.configStore = s.configStore)) ∧
     (∃ t, exec .powerLoss s = .next t ∧ AtRestart s.station.number t ∧ ArrayBrokenOff s t ∧
       t.power.powered = false ∧ (NoRowProgramming s → t.configStore = s.configStore)) ∧
     (s.power.powered = true → ∃ t, exec .resetPinAssertion s = .next t ∧ AtRestart s.station.number t ∧
       ArrayBrokenOff s t ∧ RestartedStation t.station .loading s.station.number .resetPin none ∧
       isLive t = false ∧ (NoRowProgramming s → t.configStore = s.configStore)) ∧
     (∀ straps : Straps, s.power.powered = true → s.power.resetHeld = true →
       ∃ t, exec (.resetPinDeassertion straps) s = .next t ∧ AtRestart straps.stn t ∧
         RestartedStation t.station (loadingOrSetup straps.setup) straps.stn .resetPin none ∧
         isLive t = true ∧ t.flash = s.flash ∧ t.configStore = s.configStore)) ∧
  (∀ (s t : State) (c : Instr) (r : RowBuffer) (a : Nat), s.setup.busy = true → s.setup.rowBuffer = some r →
     memWf s.configStore = true → s.power.powered = true →
     (c = .powerLoss ∨ c = .resetPinAssertion ∨ ∃ pins, c = .powerOn pins) → exec c s = .next t →
     (∀ i : Fin 64, a = 64 * r.row.toNat + i.val →
       memRead t.configStore a = memRead s.configStore a ∨ memRead t.configStore a = r.bytes[i]) ∧
     (a < 64 * r.row.toNat ∨ 64 * r.row.toNat + 64 ≤ a →
       memRead t.configStore a = memRead s.configStore a))

/-- LOADING_END completes on a good store: the image is read, the station is SCANNING, the timebase runs in ACQUIRE
from that time, the look machine has started at the initial look, the start scan is in progress, the protection unit
has started from protect at start, the wall feed selects the profile of the initial look or 0, the scale in force is
k_min, and of the array only the void mark of the page that the journal names and the journal change (R2, R62, R117,
R123, R143, R159, R181). LOADING_END completes on a bad store: SAFE with cause CHECK_VALUE and no failed check when
the check value disagrees, and INCONSISTENT with the number of the first check that fails when it agrees; FAULT is
asserted, and every block holds its restart values, with profile 0 and k_min 4096 (R143, R181, R182, R193). The
model's choices: the journal is cleared and the void mark set at the end of LOADING already (log 14), the whole
default image stands in SAFE (log 12), and no protection notice is sent at the start (log 42). Which check fails
first, and the image of a good store, are those of CheckedImageInRange. -/
def Obligations.LoadingEnds : Prop :=
  (∀ (s : State) (now : Nanos), isLive s = true → s.station.state = .loading →
     AtRestart s.station.number s → storeCheckAgrees s.configStore = true →
     firstFailedCheck s.configStore = none →
     ∃ t, exec (.loadingEnd now) s = .next t ∧ t.station = { s.station with state := .scanning } ∧
       t.image = readImage s.configStore ∧
       t.timebase = { timebaseAtRestart with lastStart := some (now / 1000), timerRunning := true } ∧
       t.line = lineAtRestart s.station.number ∧ t.cues = cuesAtRestart ∧
       t.look = { lookAtRestart with started := true, current := some t.image.initialLook } ∧
       (∀ p : Fin 4, t.conditions.debouncers[p] = {
         level := false
         candidate := if s.pins.cin.getLsbD p.val then some { level := true, since := now } else none }) ∧
       t.store = { storeAtRestart with scanning := true } ∧ t.flash.journal = none ∧
       (∀ n : Fin 64, s.flash.journal = some (.preset n) → t.flash.mapPage = s.flash.mapPage ∧
         t.flash.presets[n] = { s.flash.presets[n] with void := true } ∧
         ∀ q : Fin 64, q ≠ n → t.flash.presets[q] = s.flash.presets[q]) ∧
       (s.flash.journal = some .map → t.flash.presets = s.flash.presets ∧
         t.flash.mapPage = { s.flash.mapPage with void := true }) ∧
       (s.flash.journal = none → t.flash = s.flash) ∧
       t.protection = { protectionAtRestart with
         started := true, latch := t.image.protectAtStart,
         candidate := some { level := s.pins.onAir, since := now } } ∧
       t.budget = budgetAtRestart t.image.kMin ∧
       t.budget.scale = { label := 0, k := t.image.kMin, kTarget := t.image.kMin, flags := noFlags } ∧
       (t.image.looks[t.image.initialLook].profile = none → t.wall = wallAtRestart 0) ∧
       (∀ (b : Byte) (q : Fin 4), t.image.looks[t.image.initialLook].profile = some b → b.toNat = q.val →
         t.wall = wallAtRestart q) ∧
       t = { s with
         station := t.station, image := t.image, timebase := t.timebase, line := t.line, look := t.look
         conditions := t.conditions, flash := t.flash, store := t.store, protection := t.protection
         wall := t.wall, budget := t.budget }) ∧
  (∀ (s : State) (now : Nanos), isLive s = true → s.station.state = .loading →
     (storeCheckAgrees s.configStore = false → ∃ t, exec (.loadingEnd now) s = .next t ∧
       t.station.state = .safe ∧ t.station.safeCause = some .checkValue ∧ t.station.failedCheck = none ∧
       faultPin t = true ∧ t.image = defaultImage ∧ t.budget = budgetAtRestart 4096 ∧ t.wall = wallAtRestart 0 ∧
       t.flash = s.flash ∧ t.configStore = s.configStore ∧ t.counters = s.counters ∧
       (AtRestart s.station.number s → AtRestart s.station.number t)) ∧
     (∀ n : Nat, storeCheckAgrees s.configStore = true → firstFailedCheck s.configStore = some n →
       ∃ t, exec (.loadingEnd now) s = .next t ∧
         t.station.state = .safe ∧ t.station.safeCause = some .inconsistent ∧
         t.station.failedCheck = some n ∧ faultPin t = true ∧ t.image = defaultImage ∧
         t.budget = budgetAtRestart 4096 ∧ t.wall = wallAtRestart 0 ∧ t.flash = s.flash ∧
         t.configStore = s.configStore ∧ t.counters = s.counters ∧
         (AtRestart s.station.number s → AtRestart s.station.number t)))

/-- A store that passes every check gives an image with each figure in its range: the period, seek and join frames,
the late window, the budget figures, the class codes, the start-up preset, the window, the look records in use with
their presets, profiles and dwells, the initial look in use, at most 24 arcs between two different looks in use with
at most three into one look, the pin map, and protect at start (R61, R138, R159, R182). For every store, the failed
check is the first of checks 1 to 9, in that order, that does not pass on the bytes of the store, and there is none
when all pass (R182); the check value agrees when the check of bytes 0 to 8189 is the last two bytes (R181). The
image of a store that passes holds every field as the bytes of the store give it (R181, R197). -/
def Obligations.CheckedImageInRange : Prop :=
  (∀ m : Memory, firstFailedCheck m = none →
    let i := readImage m
    (10000 ≤ i.period ∧ i.period ≤ 50000 ∧ 1 ≤ i.seekFrames ∧ i.seekFrames ≤ 255 ∧ 2 ≤ i.joinFrames ∧
    i.joinFrames ≤ 15 ∧ i.lateWindow ≤ 15 ∧ 1 ≤ i.limitC ∧ i.limitC ≤ 65535 ∧ i.kMin ≤ 32768 ∧
    1 ≤ i.riseStep ∧ i.riseStep ≤ 32768 ∧ 1 ≤ i.peerHold ∧ i.peerHold ≤ 255 ∧
    1 ≤ segmentWidth i ∧ segmentWidth i ≤ 1024 ∧ 1 ≤ segmentHeight i ∧ segmentHeight i ≤ 576 ∧
    i.columnEnd < i.rasterColumns ∧ i.rasterColumns ≤ 8192 ∧ i.rowEnd < i.rasterRows ∧ i.rasterRows ≤ 4096 ∧
    i.arcs.length ≤ 24 ∧ i.looks[i.initialLook].inUse = true ∧
    (∀ l : LookNo, i.looks[l].inUse = true → 1 ≤ i.looks[l].dwell ∧ i.looks[l].dwell ≤ 255) ∧
    ∀ a ∈ i.arcs, i.looks[a.target].inUse = true ∧ a.source ≠ some a.target) ∧
    i.columnStart ≤ i.columnEnd ∧ i.rowStart ≤ i.rowEnd ∧
    (∀ c : Channel, (memRead m (64 + 4 * c.val)).toNat ≤ 2) ∧
    (∀ p : Byte, i.startPreset = some p → p.toNat < 64) ∧
    (∀ l : LookNo, (memRead m (580 + 7 * l.val)).toNat ≤ 1 ∧
      (i.looks[l].inUse = true → (∀ p : Byte, i.looks[l].preset = some p → p.toNat < 64) ∧
        (∀ p : Byte, i.looks[l].profile = some p → p.toNat < 4) ∧
        (memRead m (585 + 7 * l.val)).toNat ≤ 1)) ∧
    (∀ (a : Arc) (l : LookNo), a ∈ i.arcs → a.source = some l → i.looks[l].inUse = true) ∧
    (∀ n : Nat, n < i.arcs.length →
      (memRead m (640 + 4 * n)).toNat < 24 ∧ (memRead m (641 + 4 * n)).toNat ≤ 1) ∧
    (∀ l : LookNo, (i.arcs.countP fun a => decide (a.target = l)) ≤ 3) ∧
    (∀ p : Fin 4, (memRead m (576 + p.val)).toNat < 24 ∨ (memRead m (576 + p.val)).toNat = 255) ∧
    (memRead m 15).toNat ≤ 1) ∧
  (∀ m : Memory,
    (firstFailedCheck m = none ↔ ∀ n : Nat, 1 ≤ n → n ≤ 9 → PassesCheck m n) ∧
    (∀ n : Nat, firstFailedCheck m = some n ↔
      1 ≤ n ∧ n ≤ 9 ∧ ¬ PassesCheck m n ∧ ∀ j : Nat, 1 ≤ j → j < n → PassesCheck m j) ∧
    (storeCheckAgrees m = true ↔ (checkValue ((List.range 8190).map (memRead m))).toNat =
      256 * (memRead m 8190).toNat + (memRead m 8191).toNat)) ∧
  (∀ m : Memory, firstFailedCheck m = none →
    let i := readImage m
    let b := fun a : Nat => (memRead m a).toNat
    let w := fun a : Nat => 256 * b a + b (a + 1)
    let orNone := fun a : Nat => if b a = 255 then none else some (memRead m a)
    (i.group = memRead m 0 ∧ i.limitC = w 1 ∧ i.kMin = w 3 ∧ i.riseStep = w 5 ∧ i.wallFullLoad = w 7 ∧
      i.peerHold = b 9 ∧ i.lateWindow = b 10 ∧ i.period = w 11 ∧ i.seekFrames = b 13 ∧ i.joinFrames = b 14 ∧
      (i.protectAtStart = true ↔ b 15 = 1) ∧ i.startPreset = orNone 16 ∧ i.startFadeFrames.toNat = w 17 ∧
      i.rasterColumns = w 19 ∧ i.rasterRows = w 21 ∧ i.columnStart = w 23 ∧ i.columnEnd = w 25 ∧
      i.rowStart = w 27 ∧ i.rowEnd = w 29) ∧
    (∀ c : Channel,
      (i.channels[c].cls = .scaled ↔ b (64 + 4 * c.val) = 0) ∧
      (i.channels[c].cls = .unscaled ↔ b (64 + 4 * c.val) = 1) ∧
      (i.channels[c].cls = .pinned ↔ b (64 + 4 * c.val) = 2) ∧
      i.channels[c].rated = memRead m (65 + 4 * c.val) ∧ i.channels[c].pinned.toNat = w (66 + 4 * c.val)) ∧
    (∀ p : Fin 4, (i.pinMap[p] = none ↔ b (576 + p.val) = 255) ∧
      ∀ c : ConditionNo, i.pinMap[p] = some c ↔ b (576 + p.val) = c.val) ∧
    (∀ l : LookNo, (i.looks[l].inUse = true ↔ b (580 + 7 * l.val) = 1) ∧ (i.looks[l].inUse = true →
      i.looks[l].preset = orNone (581 + 7 * l.val) ∧ i.looks[l].frames.toNat = w (582 + 7 * l.val) ∧
      i.looks[l].profile = orNone (584 + 7 * l.val) ∧
      (i.looks[l].airSafe = true ↔ b (585 + 7 * l.val) = 1) ∧ i.looks[l].dwell = b (586 + 7 * l.val))) ∧
    i.initialLook.val = b 636 ∧ i.arcs.length = b 637 ∧
    (∀ (n : Nat) (a : Arc), i.arcs[n]? = some a →
      (a.source = none ↔ b (638 + 4 * n) = 8) ∧
      (∀ l : LookNo, a.source = some l ↔ b (638 + 4 * n) = l.val) ∧ a.target.val = b (639 + 4 * n) ∧
      a.condition.val = b (640 + 4 * n) ∧ (a.required = true ↔ b (641 + 4 * n) = 1)) ∧
    (∀ (p : Fin 4) (t : Fin 144),
      i.profiles[p][t].r.toNat = w (1024 + 864 * p.val + 6 * t.val) ∧
      i.profiles[p][t].g.toNat = w (1026 + 864 * p.val + 6 * t.val) ∧
      i.profiles[p][t].b.toNat = w (1028 + 864 * p.val + 6 * t.val)))

/-- STN_EDGE and STRAP_CHANGE complete: a level that differs from the sampled station number forms a candidate; once
it has held, the station enters SAFE with cause STRAP_CHANGE, outputs dark, the timebase stopped with its genlock
state and frame number kept, DEMAND and COND entries gone and REPORT entries kept, an attempt on the line running on
(its entry and a backoff wait gone with a head that goes, log 21), the rest of the line and of the station record
kept, cue and request lists empty, the look machine stopped with its fields kept, the debouncers at their restart
values, no map operation outstanding, and the restart wait closed; queued commits are removed and their buffers
become OPEN, and the operation in progress goes on, a suspended commit resuming but while a read is served; a FILLING
load is abandoned, and banks, live luma, frozen, muted, mute request and profile are kept (R2, R33, R49, R71, R94,
R120, R136, R156, R175, R185). That each strap has a candidate of its own, which an edge of another strap leaves
alone, is the model's reading (log 19), and so is what stays on its way between blocks and what does not (log 20). -/
def Obligations.StrapChangeEntersSafe : Prop :=
  ∀ (s : State) (n : Fin 5), isOperating s.station.state = true →
    (∀ (level : Bool) (now : Nanos), ∃ t, exec (.stnEdge n level now) s = .next t ∧
      t.station.strapCandidates[n] =
        (if level = s.station.number.getLsbD n.val then none else some now) ∧
      t = { s with
        pins := { s.pins with stn := t.pins.stn }
        station := { s.station with strapCandidates := t.station.strapCandidates } } ∧
      t.pins.stn.getLsbD n.val = level ∧
      ∀ q : Fin 5, q ≠ n → t.station.strapCandidates[q] = s.station.strapCandidates[q] ∧
        t.pins.stn.getLsbD q.val = s.pins.stn.getLsbD q.val) ∧
    (s.station.strapCandidates[n] ≠ none → ∃ t, exec (.strapChange n) s = .next t ∧
      t.station.state = .safe ∧ t.station.safeCause = some .strapChange ∧ t.station.failedCheck = none ∧
      t.station.restartWait = false ∧ t.station.number = s.station.number ∧ faultPin t = true ∧
      t.timebase.timerRunning = false ∧ t.timebase.lock = s.timebase.lock ∧
      t.timebase.frame = s.timebase.frame ∧ t.timebase.pendingTime = none ∧ t.timebase.reference = none ∧
      t.station = { s.station with
        state := .safe, safeCause := some .strapChange, failedCheck := none, restartWait := false
        strapCandidates := t.station.strapCandidates } ∧
      (∀ q : Fin 5, t.station.strapCandidates[q] = none) ∧
      t.line = { s.line with
        queue := s.line.queue.filter fun e => isReportMsg e.msg
        attempt := s.line.attempt.map fun a =>
          { a with held := a.held && s.line.queue.head?.any fun e => isReportMsg e.msg }
        backoff := if s.line.queue.head?.any (fun e => isReportMsg e.msg) then s.line.backoff else none } ∧
      t.transit = { s.transit with
        cueFrames := [], lookFrames := [], fadeFrames := [], wallFrames := [], budgetFrames := [], ctrlFrames := []
        seekEnd := false, joinNotice := none, runCue := none, runLook := none, runFade := none, runWall := none
        reads := [], restartReq := false, arrayQuiet := false, fadeScales := [], wallScales := [] } ∧
      t.cues.records = [] ∧ t.cues.mode = .hold ∧ t.fade.requests = [] ∧ t.fade.channels = s.fade.channels ∧
      t.fade.enabled = false ∧ t.wall.enabled = false ∧ OutputsDark t ∧
      t.store.ops = [] ∧ t.store.reads = [] ∧ t.store.directory = s.store.directory ∧
      (∀ x : BufferName, bufferOf x t.store = if (bufferOf x s.store).state = .queued then
        { bufferOf x s.store with state := .opened, target := none } else bufferOf x s.store) ∧
      (∀ c : CommitRun, s.store.running = some (.commit c) → t.store.running =
        some (.commit { c with suspended := c.suspended && s.store.serving.isSome })) ∧
      (runningCommit s = none → t.store.running = s.store.running) ∧
      t.store = { s.store with
        bufferA := t.store.bufferA, bufferB := t.store.bufferB, ops := [], reads := []
        running := t.store.running, restartWait := false } ∧
      t.wall = { s.wall with
        load := if s.wall.load = .filling then .empty else s.wall.load
        enabled := false, scan := none, scanOwed := false, waiting := [], noticeWaits := false } ∧
      (∀ p : Fin 4, t.conditions.debouncers[p] = { level := false, candidate := none }) ∧
      t.conditions = { s.conditions with debouncers := t.conditions.debouncers } ∧
      t.timebase = { s.timebase with timerRunning := false, reference := none, run := 0, pendingTime := none } ∧
      t.cues = { s.cues with records := [], mode := .hold } ∧
      t.fade = { s.fade with requests := [], enabled := false, packets := .notDue, sending := [], waiting := [] } ∧
      t.protection = { s.protection with outstanding := 0 } ∧
      t.budget = { s.budget with overIndication := false } ∧ t.look = s.look ∧
      t.conditions.entries = s.conditions.entries ∧
      t = { s with
        station := t.station, timebase := t.timebase, line := t.line, cues := t.cues
        conditions := t.conditions, fade := t.fade, store := t.store, protection := t.protection
        wall := t.wall, budget := t.budget, transit := t.transit })

/-- SCAN_END_NOTICE, CONTROLLER_FRAME_START, SEEK_FRAMES_END and JOIN_FRAMES_END complete: SCANNING becomes SEEKING;
a frame start in SEEKING counts, and becomes JOINING when LOCKED, or at the last seek frame with the seek end sent;
one in JOINING counts, and at the last join frame becomes RUNNING with four run notices (R183, R184). In every state
a frame start sets the controller's current frame, and in no other state does it do more (R12). That SEEK_FRAMES_END
and JOIN_FRAMES_END are each the whole of their frame start is the model's choice (log 6). -/
def Obligations.StationMovesToRunning : Prop :=
  (∀ s : State, s.transit.scanEnd = true → s.station.state = .scanning →
    exec .scanEndNotice s = .next { s with
      station := { s.station with state := .seeking, framesCounted := 0 }
      transit := { s.transit with scanEnd := false } }) ∧
  ∀ (s : State) (e : FrameEvent) (es : List FrameEvent), s.transit.ctrlFrames = e :: es →
    let n := s.station.framesCounted + 1
    let notice : Notice := { label := e.frame, serial := e.serial }
    (s.station.state = .seeking →
      (s.timebase.lock = .locked → exec .controllerFrameStart s = .next { s with
        station := { s.station with
          state := .joining, seekOutcome := some .locked, framesCounted := 0, entryFrame := e.frame, frame := e.frame }
        transit := { s.transit with ctrlFrames := es, joinNotice := some notice } }) ∧
      (s.timebase.lock ≠ .locked → n < s.image.seekFrames → exec .controllerFrameStart s = .next { s with
        station := { s.station with framesCounted := n, frame := e.frame }
        transit := { s.transit with ctrlFrames := es } }) ∧
      (s.timebase.lock ≠ .locked → n = s.image.seekFrames →
        exec .seekFramesEnd s = exec .controllerFrameStart s ∧
        exec .seekFramesEnd s = .next { s with
          station := { s.station with
            state := .joining, seekOutcome := some .flywheel, framesCounted := 0, entryFrame := e.frame, frame := e.frame }
          transit := { s.transit with ctrlFrames := es, seekEnd := true, joinNotice := some notice } })) ∧
    (s.station.state = .joining →
      (n < s.image.joinFrames → exec .controllerFrameStart s = .next { s with
        station := { s.station with framesCounted := n, frame := e.frame }
        transit := { s.transit with ctrlFrames := es } }) ∧
      (n = s.image.joinFrames →
        exec .joinFramesEnd s = exec .controllerFrameStart s ∧
        exec .joinFramesEnd s = .next { s with
          station := { s.station with
            state := .running, framesCounted := n, entryFrame := e.frame, frame := e.frame }
          transit := { s.transit with
            ctrlFrames := es, runCue := some notice, runLook := some notice,
            runFade := some notice, runWall := some notice } })) ∧
    (s.station.state ≠ .seeking → s.station.state ≠ .joining → exec .controllerFrameStart s = .next { s with
      station := { s.station with frame := e.frame }
      transit := { s.transit with ctrlFrames := es } })

/-- RESTART, RESTART_REQUEST and ARRAY_QUIET complete: a RESTART opens the wait with its source and sends the
request, and has no effect on an open wait; the request opens the preset store's wait and reports the array quiet at
once when no operation is in progress; the quiet report restarts every block, with cause RESTART_MESSAGE and the
source kept, the array and the configuration store untouched (R119, R180, R186). With an operation in progress the
arbiter decides under the open wait, so that a suspension with no read served ends (R115, R119). An attempt on the
line at the restart runs on with its bits, and the interface takes its restart values with the line counters 0 when
it is won or lost (R33, as the model reads it, log 22). The model's choices: the default image and k of 4096 (log
12), the setup port's values (log 34), and that nothing on its way between blocks outlives the restart (log 39). -/
def Obligations.RestartMessageRestarts : Prop :=
  (∀ (m : Message) (s : State), Routed .restart m s →
    let gap : State := { s with line := { s.line with lineState := .gap } }
    (s.station.restartWait = true → exec (.restart m) s = .next gap) ∧
    (s.station.restartWait = false → exec (.restart m) s = .next { gap with
      station := { s.station with restartWait := true, restartSource := some m.source }
      transit := { s.transit with restartReq := true } })) ∧
  (∀ s : State, s.transit.restartReq = true →
    (s.store.running = none → exec .restartRequest s = .next { s with
      store := { s.store with restartWait := true }
      transit := { s.transit with restartReq := false, arrayQuiet := true } }) ∧
    (∀ c : CommitRun, s.store.running = some (.commit c) → c.suspended = false → s.store.reads = [] →
      exec .restartRequest s = .next { s with
        store := { s.store with restartWait := true }
        transit := { s.transit with restartReq := false } })) ∧
  (∀ (s : State) (straps : Straps), s.transit.arrayQuiet = true → s.station.restartWait = true →
    s.line.attempt = none →
    ∃ t, exec (.arrayQuiet straps) s = .next t ∧ AtRestart straps.stn t ∧
      RestartedStation t.station (loadingOrSetup straps.setup) straps.stn .restartMessage
        s.station.restartSource ∧
      t.flash = s.flash ∧ t.configStore = s.configStore) ∧
  (∀ (s : State) (straps : Straps) (a : Attempt), s.transit.arrayQuiet = true → s.station.restartWait = true →
    s.line.attempt = some a →
    ∃ t, exec (.arrayQuiet straps) s = .next t ∧ t.line = { s.line with closing := true } ∧
      attemptBits t = attemptBits s ∧ AtRestart straps.stn { t with line := lineAtRestart straps.stn } ∧
      RestartedStation t.station (loadingOrSetup straps.setup) straps.stn .restartMessage
        s.station.restartSource ∧
      t.flash = s.flash ∧ t.configStore = s.configStore) ∧
  (∀ (s : State) (a : Attempt) (c : Instr), s.line.attempt = some a → s.line.closing = true →
    c = .attemptWon ∨ c = .attemptLost →
    ∃ t, exec c s = .next t ∧ t = { s with
        line := lineAtRestart s.station.number, flags := t.flags, counters := t.counters } ∧
      ∀ i : Fin 38, t.counters[i] = if i.val < 8 then 0 else s.counters[i]) ∧
  (∀ (s : State) (r : Running), s.transit.restartReq = true → s.store.running = some r →
    exec .restartRequest s = .next (arbitrate { s with
      store := { s.store with restartWait := true }
      transit := { s.transit with restartReq := false } }))

/-! ### Status reports -/

/-- The nine QUERY commands complete: with room in the transmit queue a REPORT of the record joins its tail, with
none QUERY_DROP is counted; QUERY_UNKNOWN_RECORD counts ARG_ERR (R28, R189). Each record has its fixed length: STATUS
45, BUDGET 26, PEER 26, LOOK 14 or 40, DIRECTORY 18, 20, 7 or 8, COUNTERS 38, CHANNEL 42, WALL 31 or 21, and CUES 5
and 7 for each record shown, so that every record fits in 62 bytes (R195). Each record holds its fields at the
offsets of R195 with the codes of R194, as they stand when the QUERY is taken (R50, R72, R96, R121, R157, R177, R190,
R192); an absent part is bytes of 0 (R194). The model's choices: the slot and running-operation bytes of DIRECTORY
that an operation does not use (log 30), the order of the map copy bytes of STATUS (log 28), the source bytes that a
source kind does not use (log 40), and 1 for yes in one-byte marks (log 43). Record id and index are the two bytes
after the scope. -/
def Obligations.QueriesAreAnswered : Prop :=
  (∀ m : Message, m.body.length = 6 →
     HoldsFields m.body [(4, 1, (queryRecord m).toNat), (5, 1, (queryIndex m).toNat)]) ∧
  (∀ (m : Message) (s : State), Routed .query m s →
     let gap : State := { s with line := { s.line with lineState := .gap } }
     let i := queryIndex m
     (∀ (c : Instr) (contents : List Byte),
       (queryRecord m = 1 ∧ c = .queryStatus m ∧ contents = statusRecord gap) ∨
         (queryRecord m = 2 ∧ c = .queryBudget m ∧ contents = budgetRecord gap) ∨
         (queryRecord m = 3 ∧ c = .queryPeer m ∧ contents = peerRecord i gap) ∨
         (queryRecord m = 4 ∧ c = .queryCues m ∧ contents = cuesRecord i gap) ∨
         (queryRecord m = 5 ∧ c = .queryLook m ∧ contents = lookRecord i gap) ∨
         (queryRecord m = 6 ∧ c = .queryDirectory m ∧ contents = directoryRecord i gap) ∨
         (queryRecord m = 7 ∧ c = .queryCounters m ∧ contents = countersRecord i gap) ∨
         (queryRecord m = 8 ∧ c = .queryChannel m ∧ contents = channelRecord i gap) ∨
         (queryRecord m = 9 ∧ c = .queryWall m ∧ contents = wallRecord i gap) →
       (s.line.queue.length < 4 → exec c s = .next { s with line := { s.line with
         lineState := .gap
         queue := s.line.queue ++
           [{ msg := .report (queryRecord m) i contents, losses := 0, replaced := false }] } }) ∧
       (4 ≤ s.line.queue.length → exec c s = .next (count .queryDrop gap))) ∧
     (queryRecord m = 0 ∨ 9 < (queryRecord m).toNat →
       exec (.queryUnknownRecord m) s = .next (count .argErr gap))) ∧
  (∀ (s : State) (i : Byte), s.store.ops.length ≤ 4 →
     (statusRecord s).length = 45 ∧ (budgetRecord s).length = 26 ∧ (peerRecord i s).length = 26 ∧
     (lookRecord i s).length = (if i = 1 ∨ i = 2 ∨ i = 3 then 40 else 14) ∧
     (directoryRecord i s).length = (if i = 1 then 20 else if i = 2 then 7 else if i = 3 then 8 else 18) ∧
     (countersRecord i s).length = 38 ∧ (channelRecord i s).length = 42 ∧
     (wallRecord i s).length = (if i = 1 then 21 else 31) ∧
     (cuesRecord i s).length = 5 + 7 * (if i = 0 then min 8 s.cues.records.length
       else if i = 1 then min 8 (s.cues.records.length - 8) else 0) ∧
     (cuesRecord i s).length ≤ 61) ∧
  (∀ s : State,
     let flags := fun f : BudgetFlags => f.full.toNat + 2 * f.overLimit.toNat + 4 * f.floored.toNat + 8 * f.clamped.toNat
     let inForce := s.protection.pin || s.protection.latch
     HoldsFields (statusRecord s) [
       (0, 1, (stationStateCode s.station.state).toNat), (1, 1, s.station.number.toNat),
       (2, 1, (restartCauseCode s.station.restartCause).toNat),
       (3, 1, match s.station.restartSource with | some n => n.toNat | none => 255),
       (4, 1, (safeCauseCode s.station.safeCause).toNat),
       (5, 1, match s.station.failedCheck with | some n => n % 256 | none => 255),
       (6, 1, (seekOutcomeCode s.station.seekOutcome).toNat), (7, 1, s.station.framesCounted % 256),
       (8, 3, s.station.entryFrame.toNat), (11, 1, s.station.restartWait.toNat),
       (12, 1, (genlockCode s.timebase.lock).toNat), (13, 3, s.timebase.frame.toNat),
       (16, 1, s.timebase.pendingTime.isSome.toNat),
       (17, 1, s.protection.pin.toNat + 2 * s.protection.latch.toNat + 4 * inForce.toNat),
       (18, 1, s.protection.outstanding % 256), (19, 16, s.protection.map.toNat),
       (35, 3, s.budget.scale.label.toNat), (38, 2, s.budget.scale.k % 65536),
       (40, 2, s.budget.scale.kTarget % 65536), (42, 1, flags s.budget.scale.flags),
       (43, 1, s.budget.overIndication.toNat),
       (44, 1, s.flags.demandLost.toNat + 2 * s.flags.commitFail.toNat + 4 * (flywheelIndication s).toNat +
         8 * (faultPin s).toNat + 16 * (alertPin s).toNat)] ∧
     HoldsFields (budgetRecord s) [
       (18, 3, s.budget.scale.label.toNat), (21, 2, s.budget.scale.k % 65536),
       (23, 2, s.budget.scale.kTarget % 65536), (25, 1, flags s.budget.scale.flags)] ∧
     HoldsFields (budgetRecord s) (match s.budget.last with
       | some r => [(0, 1, 1), (1, 3, r.target.toNat), (4, 3, r.x % 16777216), (7, 3, r.s % 16777216),
           (10, 1, r.counted % 256), (11, 1, r.stale % 256), (12, 1, r.ahead % 256), (13, 2, r.kTarget % 65536),
           (15, 2, r.k % 65536), (17, 1, flags r.flags)]
       | none => [(0, 1, 0), (1, 17, 0)]) ∧
     (∀ (i : Byte) (n : Fin 32), n.val = i.toNat % 32 → HoldsFields (peerRecord i s)
       ((0, 1, n.val) :: (match s.budget.peers[n] with
         | some e => [(1, 1, 1), (2, 1, e.group.toNat), (4, 3, e.first.target.toNat), (7, 2, e.first.x.toNat),
             (9, 2, e.first.s.toNat), (11, 1, e.first.clamp.toNat), (20, 3, e.lastArrival.toNat),
             (23, 3, frameDistance e.lastArrival s.budget.frame)] ++ (match e.second with
               | some b => [(3, 1, 2), (12, 3, b.target.toNat), (15, 2, b.x.toNat), (17, 2, b.s.toNat),
                   (19, 1, b.clamp.toNat)]
               | none => [(3, 1, 1), (12, 8, 0)])
         | none => [(1, 1, 0), (2, 24, 0)]))) ∧
     (∀ i : Byte, HoldsFields (cuesRecord i s)
       [(0, 3, s.cues.frame.toNat), (3, 1, match s.cues.mode with | .hold => 0 | .take => 1),
        (4, 1, s.cues.records.length % 256)] ∧
       ∀ (j : Nat) (r : CueRecord), j < 8 →
         ((i = 0 ∧ s.cues.records[j]? = some r) ∨ (i = 1 ∧ s.cues.records[8 + j]? = some r)) →
         HoldsFields (cuesRecord i s)
           [(5 + 7 * j, 1, r.ident.source.toNat + 128 * r.late.toNat), (6 + 7 * j, 2, r.ident.id.toNat),
            (8 + 7 * j, 3, r.target.toNat), (11 + 7 * j, 1, match r.action with
              | .fade _ _ => 1 | .wallFreeze => 2 | .wallRun => 3 | .wallMute => 4 | .wallUnmute => 5
              | .wallProfile _ => 6 | .lookHome => 7)])) ∧
  (∀ (s : State) (i : Byte),
     (i ≠ 1 → i ≠ 2 → i ≠ 3 → HoldsFields (lookRecord i s)
         [(0, 1, match s.look.current with | some l => l.val | none => 255), (1, 1, s.look.entered.toNat),
          (2, 1, s.look.dwell % 256), (3, 3, s.look.entryFrame.toNat),
          (6, 1, match s.look.entryCause with | .arc k => k % 256 | .home => 254 | .start => 255),
          (7, 4, s.conditions.stamps.toNat)] ∧
       ∀ c : ConditionNo, (ofBytes ((lookRecord i s).drop 11)).testBit c.val = s.conditions.entries[c].value) ∧
     (∀ (j : Fin 8) (c : ConditionNo), 1 ≤ i.toNat → i.toNat ≤ 3 → c.val = 8 * (i.toNat - 1) + j.val →
       HoldsFields (lookRecord i s)
         [(5 * j.val, 4, s.conditions.entries[c].stamp.toNat),
          (5 * j.val + 4, 1, match s.conditions.entries[c].source with | some n => n.toNat | none => 255)])) ∧
  (∀ (s : State) (i : Byte),
     (i ≠ 1 → i ≠ 2 → i ≠ 3 →
       (∀ n : Fin 64, ofBytes ((directoryRecord i s).take 16) / 4 ^ (63 - n.val) % 4 =
         (entryStateCode s.store.directory[n].state).toNat) ∧
       HoldsFields (directoryRecord i s) [(16, 1, (entryStateCode s.store.mapEntry).toNat),
         (17, 1, match s.flash.journal with | some (.preset n) => n.val | some .map => 64 | none => 255)]) ∧
     (HoldsFields (directoryRecord 1 s)
       [(0, 1, (bufferStateCode s.store.bufferA.state).toNat),
        (1, 1, match s.store.bufferA.target with | some n => n.val | none => 255),
        (2, 1, (writePointCode s.store.bufferA.writePoint).toNat),
        (3, 1, (bufferStateCode s.store.bufferB.state).toNat),
        (4, 1, match s.store.bufferB.target with | some n => n.val | none => 255),
        (5, 1, (writePointCode s.store.bufferB.writePoint).toNat),
        (6, 1, s.store.ops.length % 256), (19, 1, s.store.reads.length % 256)] ∧
      ∀ j : Fin 4, HoldsFields (directoryRecord 1 s) (match s.store.ops[j.val]? with
        | some (.commit b n) => [(7 + 3 * j.val, 1, 1), (8 + 3 * j.val, 1, (bufferCode b).toNat),
            (9 + 3 * j.val, 1, n.val)]
        | some .mapErase => [(7 + 3 * j.val, 1, 2), (8 + 3 * j.val, 2, 0)]
        | some (.mapProgram first _) => [(7 + 3 * j.val, 1, 3), (8 + 3 * j.val, 1, 0),
            (9 + 3 * j.val, 1, first.val)]
        | none => [(7 + 3 * j.val, 3, 0)])) ∧
     HoldsFields (directoryRecord 2 s) ((6, 1, s.store.restartWait.toNat) :: (match s.store.running with
       | some (.commit c) => [(0, 1, 1), (1, 1, (bufferCode c.buffer).toNat), (2, 1, c.preset.val),
           (3, 1, (commitPhaseCode c.phase).toNat), (4, 1, c.suspended.toNat), (5, 1, c.suspends % 256)]
       | some .mapErase => [(0, 1, 2), (1, 1, 0), (2, 1, 255), (3, 3, 0)]
       | some (.mapProgram _ _) => [(0, 1, 3), (1, 1, 0), (2, 1, 255), (3, 3, 0)]
       | none => [(0, 1, 0), (1, 1, 0), (2, 1, 255), (3, 3, 0)])) ∧
     (∀ n : Fin 64, (ofBytes (directoryRecord 3 s)).testBit (63 - n.val) = s.store.directory[n].airSafe) ∧
     (∀ (j : Fin 19) (n : Fin 38), n.val = (if i = 1 then 19 else 0) + j.val →
       HoldsFields (countersRecord i s) [(2 * j.val, 2, s.counters[n].toNat)])) ∧
  (∀ (s : State) (i : Byte),
     let c := channelMod i.toNat
     let x := s.fade.channels[c]
     let covering := fun r : RequestRecord =>
       r.phase ≠ .reading ∧ ∃ y, r.content = some y ∧ y.mask.getLsbD c.val = true
     let source := fun (off : Nat) (q : FadeSource) => match q with
       | .cue k => [(off, 1, 0), (off + 1, 1, k.source.toNat), (off + 2, 2, k.id.toNat)]
       | .look l => [(off, 1, 1), (off + 1, 1, l.val), (off + 2, 2, 0)]
       | .start => [(off, 1, 2), (off + 1, 3, 0)]
     HoldsFields (channelRecord i s) [(0, 1, c.val), (1, 1, (classCode s.image.channels[c].cls).toNat),
       (2, 1, s.image.channels[c].rated.toNat), (3, 2, s.image.channels[c].pinned.toNat), (5, 2, x.level.toNat)] ∧
     HoldsFields (channelRecord i s) (match x.lastOut with
       | some o => [(7, 1, 1), (8, 2, o.toNat)]
       | none => [(7, 3, 0)]) ∧
     ((∃ r ∈ s.fade.requests, r.phase = .deferred ∧ covering r) → HoldsFields (channelRecord i s) [(10, 1, 2)]) ∧
     ((∀ r ∈ s.fade.requests, r.phase = .deferred → ¬ covering r) →
       HoldsFields (channelRecord i s) [(10, 1, x.fade.isSome.toNat)]) ∧
     HoldsFields (channelRecord i s) (match x.fade with
       | some f => [(11, 1, 1), (12, 2, f.start.toNat), (14, 2, f.target.toNat), (16, 2, f.total.toNat),
           (18, 3, f.frame.toNat), (21, 2, f.steps % 65536), (23, 1, f.airSafe.toNat)] ++ source 24 f.source
       | none => [(11, 17, 0)]) ∧
     (∀ (before after : List RequestRecord) (r : RequestRecord) (y : Content),
       s.fade.requests = before ++ r :: after → covering r → (∀ z ∈ after, ¬ covering z) → r.content = some y →
       HoldsFields (channelRecord i s) ([(28, 1, 1), (29, 1, r.req.preset.toNat), (30, 1, (phaseCode r.phase).toNat),
         (31, 3, r.req.frame.toNat), (34, 2, r.req.total.toNat), (36, 2, y.levels[c].toNat)] ++
         source 38 r.req.source)) ∧
     ((∀ r ∈ s.fade.requests, ¬ covering r) → HoldsFields (channelRecord i s) [(28, 14, 0)])) ∧
  (∀ (s : State) (i : Byte),
     (i ≠ 1 → HoldsFields (wallRecord i s) ([
         (0, 3, s.wall.frame.toNat), (3, 1, s.wall.live.toNat), (4, 1, (loadStateCode s.wall.load).toNat),
         (5, 2, s.wall.pointerCol % 65536), (7, 2, s.wall.pointerRow % 65536), (9, 1, s.wall.loadProfile.val),
         (10, 4, s.wall.luma % 4294967296),
         (14, 1, s.wall.satR.toNat + 2 * s.wall.satG.toNat + 4 * s.wall.satB.toNat),
         (15, 2, s.wall.liveLuma % 65536), (17, 1, s.wall.profile.val), (18, 1, s.wall.frozen.toNat),
         (19, 1, s.wall.muted.toNat), (24, 1, s.wall.enabled.toNat), (29, 2, demandLuma s.wall % 65536)] ++
         (match s.wall.muteRequest with
           | some r => [(20, 1, if r.mute then 1 else 2), (21, 3, r.label.toNat)]
           | none => [(20, 4, 0)]) ++
         (match s.wall.scan with
           | some f => [(25, 1, 1), (26, 3, f.toNat)]
           | none => [(25, 4, 0)]))) ∧
     HoldsFields (wallRecord 1 s) [
       (0, 2, s.image.rasterColumns % 65536), (2, 2, s.image.rasterRows % 65536),
       (4, 2, s.image.columnStart % 65536), (6, 2, s.image.columnEnd % 65536), (8, 2, s.image.rowStart % 65536),
       (10, 2, s.image.rowEnd % 65536), (12, 2, segmentWidth s.image % 65536),
       (14, 2, segmentHeight s.image % 65536), (16, 1, (segmentWidth s.image + 63) / 64 % 256),
       (17, 1, (segmentHeight s.image + 63) / 64 % 256),
       (18, 3, segmentWidth s.image * segmentHeight s.image % 16777216)]) ∧
  ([StationState.loading, .scanning, .seeking, .joining, .running, .safe, .setup].map stationStateCode =
     [0, 1, 2, 3, 4, 5, 6] ∧
   [RestartCause.powerOn, .resetPin, .restartMessage].map restartCauseCode = [0, 1, 2] ∧
   [none, some SafeCause.checkValue, some .inconsistent, some .strapChange].map safeCauseCode = [0, 1, 2, 3] ∧
   [Genlock.acquire, .locked, .flywheel].map genlockCode = [0, 1, 2] ∧
   [none, some SeekOutcome.locked, some .flywheel].map seekOutcomeCode = [0, 1, 2] ∧
   [ChannelClass.scaled, .unscaled, .pinned].map classCode = [0, 1, 2] ∧
   [Phase.reading, .ready, .deferred].map phaseCode = [0, 1, 2] ∧
   [EntryState.empty, .valid, .bad, .committing].map entryStateCode = [0, 1, 2, 3] ∧
   [BufferState.opened, .queued, .committing].map bufferStateCode = [0, 1, 2] ∧
   [WritePoint.first, .next].map writePointCode = [0, 1] ∧ [BufferName.a, .b].map bufferCode = [0, 1] ∧
   [CommitPhase.erase, .program, .verify].map commitPhaseCode = [0, 1, 2] ∧
   [LoadState.empty, .filling, .complete].map loadStateCode = [0, 1, 2])

/-- FAULT is asserted exactly in SAFE, and ALERT exactly while the FLYWHEEL indication, the OVER indication or the
COMMIT_FAIL flag is present (R10, R193). -/
def Obligations.FaultAndAlertPins : Prop :=
  ∀ s : State, (faultPin s = true ↔ s.station.state = .safe) ∧
    (alertPin s = true ↔
      (s.timebase.timerRunning = true ∧ s.timebase.lock = .flywheel) ∨ s.budget.overIndication = true ∨
        s.flags.commitFail = true)

/-! ### Setup port -/

/-- SETUP_TARGET_ADDRESS, SETUP_ADDRESS_BYTE and SETUP_WRITE_END complete: outside SETUP and while busy the port does
not acknowledge; in SETUP its own address starts a write or a read; two address bytes set the pointer modulo 8192;
the end of a write that took data programs its row unless the region is locked, and row 127 is never locked (R187).
SETUP_READ_BYTE and SETUP_READ_END complete: a read returns the store byte at the pointer, which advances from 8191
to 0, and its end leaves the pointer at the next byte (R188). A repeated start ends the write before it in the same
way, and is not acknowledged when the row's programming has begun; another target address is not acknowledged; a
write that ends before its second address byte or with no data byte programs nothing and leaves the pointer (R187).
That both address bytes are acknowledged is the model's choice (log 46). -/
def Obligations.SetupWritesAndReads : Prop :=
  ((∀ (s : State) (b : Byte), s.station.state ≠ .setup →
     exec (.setupTargetAddress b) s = .next { s with setup := { s.setup with ack := some false } }) ∧
   (∀ (s : State) (b : Byte), setupActive s = true → s.setup.transaction = .none →
     (s.setup.busy = true → exec (.setupTargetAddress b) s =
       .next { s with setup := { s.setup with ack := some false } }) ∧
     (s.setup.busy = false → b.toNat / 2 = 90 + s.station.number.toNat % 4 →
       exec (.setupTargetAddress b) s = .next { s with setup := { s.setup with
         ack := some true
         writeCount := 0
         transaction := if b.toNat % 2 = 1 then .read else .addressHigh } })) ∧
   (∀ (s : State) (b high : Byte), setupActive s = true →
     (s.setup.transaction = .addressHigh → exec (.setupAddressByte b) s = .next { s with setup := { s.setup with
       transaction := .addressLow b, ack := some true } }) ∧
     (s.setup.transaction = .addressLow high →
       exec (.setupAddressByte b) s = .next { s with setup := { s.setup with
         pointer := BitVec.ofNat 13 ((256 * high.toNat + b.toNat) % 8192)
         transaction := .data
         ack := some true } })) ∧
   (∀ (s : State) (r : RowBuffer), setupActive s = true → s.setup.transaction = .data →
     s.setup.rowBuffer = some r → 0 < s.setup.writeCount → s.setup.busy = false →
     (r.row = 127 ∨ memRead s.configStore (8182 + r.row.toNat / 16) = 0 →
       exec .setupWriteEnd s = .next { s with setup := { s.setup with transaction := .none, busy := true } }) ∧
     (r.row ≠ 127 → memRead s.configStore (8182 + r.row.toNat / 16) ≠ 0 →
       exec .setupWriteEnd s = .next { s with setup := { s.setup with transaction := .none } }))) ∧
  (∀ s : State, setupActive s = true → s.setup.transaction = .read →
     (∃ t, exec .setupReadByte s = .next t ∧
       t = { s with setup := { s.setup with
         dataOut := some (memRead s.configStore s.setup.pointer.toNat), pointer := t.setup.pointer } } ∧
       t.setup.pointer.toNat = (if s.setup.pointer.toNat = 8191 then 0 else s.setup.pointer.toNat + 1)) ∧
     exec .setupReadEnd s = .next { s with setup := { s.setup with transaction := .none } }) ∧
  ((∀ (s : State) (b : Byte), setupActive s = true → s.setup.transaction = .none →
     b.toNat / 2 ≠ 90 + s.station.number.toNat % 4 →
     exec (.setupTargetAddress b) s = .next { s with setup := { s.setup with ack := some false } }) ∧
   (∀ s : State, setupActive s = true →
     (s.setup.transaction = .addressHigh ∨ (∃ high, s.setup.transaction = .addressLow high) ∨
       (s.setup.transaction = .data ∧ s.setup.writeCount = 0)) →
     exec .setupWriteEnd s = .next { s with setup := { s.setup with transaction := .none } } ∧
     ∀ b : Byte, exec (.setupTargetAddress b) s =
       exec (.setupTargetAddress b) { s with setup := { s.setup with transaction := .none } }) ∧
   (∀ (s : State) (b : Byte) (r : RowBuffer), setupActive s = true → s.setup.transaction = .data →
     s.setup.rowBuffer = some r → 0 < s.setup.writeCount → s.setup.busy = false →
     (r.row = 127 ∨ memRead s.configStore (8182 + r.row.toNat / 16) = 0 →
       exec (.setupTargetAddress b) s =
         .next { s with setup := { s.setup with transaction := .none, busy := true, ack := some false } }) ∧
     (r.row ≠ 127 → memRead s.configStore (8182 + r.row.toNat / 16) ≠ 0 →
       exec (.setupTargetAddress b) s =
         exec (.setupTargetAddress b) { s with setup := { s.setup with transaction := .none } })) ∧
   (∀ (s : State) (b : Byte), setupActive s = true → s.setup.transaction = .read →
     exec (.setupTargetAddress b) s =
       exec (.setupTargetAddress b) { s with setup := { s.setup with transaction := .none } }))

/-- SETUP_DATA_BYTE and ROW_PROGRAMMING_END complete: each data byte goes into the row buffer at the pointer, which
stays in its row; the first of a transaction loads the row; the write count goes up by one to at most 64 and the
write goes on; the programming puts the row buffer's bytes in the row and changes no other byte of the store (R187).
-/
def Obligations.SetupDataAndProgramming : Prop :=
  (∀ (s : State) (b : Byte), setupActive s = true → s.setup.transaction = .data →
    ∃ (t : State) (r : RowBuffer), exec (.setupDataByte b) s = .next t ∧ t.setup.rowBuffer = some r ∧
      t.setup.pointer.toNat / 64 = s.setup.pointer.toNat / 64 ∧
      t.setup.pointer.toNat % 64 = (s.setup.pointer.toNat % 64 + 1) % 64 ∧
      t.setup.ack = some true ∧ t = { s with setup := t.setup } ∧
      t.setup = { s.setup with
        rowBuffer := some r, pointer := t.setup.pointer, ack := some true
        writeCount := min 64 (s.setup.writeCount + 1) } ∧
      r.bytes[placeOf s.setup.pointer] = b ∧
      (s.setup.writeCount = 0 → r.row.toNat = s.setup.pointer.toNat / 64 ∧
        ∀ i : Fin 64, i ≠ placeOf s.setup.pointer →
          r.bytes[i] = memRead s.configStore (64 * (s.setup.pointer.toNat / 64) + i.val)) ∧
      (∀ q : RowBuffer, s.setup.writeCount ≠ 0 → s.setup.rowBuffer = some q →
        r.row = q.row ∧ ∀ i : Fin 64, i ≠ placeOf s.setup.pointer → r.bytes[i] = q.bytes[i])) ∧
  (∀ (s : State) (r : RowBuffer), setupActive s = true → s.setup.busy = true → s.setup.rowBuffer = some r →
    memWf s.configStore = true →
    ∃ t, exec .rowProgrammingEnd s = .next t ∧
      t = { s with configStore := t.configStore, setup := { s.setup with busy := false } } ∧
      (∀ i : Fin 64, memRead t.configStore (64 * r.row.toNat + i.val) = r.bytes[i]) ∧
      (∀ a : Nat, a < 64 * r.row.toNat ∨ 64 * r.row.toNat + 64 ≤ a →
        memRead t.configStore a = memRead s.configStore a))
end

