-- ==== Sys2Proof/Laws/State.lean ====
section
/-! SUPPORT. What each update of State leaves in each field. -/

namespace Sys2Proof.Machine

variable (s : State)

@[simp] theorem setLine_pending (x : CueLine) : (setLine x s).pending = s.pending := rfl
@[simp] theorem setLine_power (x : CueLine) : (setLine x s).power = s.power := rfl
@[simp] theorem setLine_pins (x : CueLine) : (setLine x s).pins = s.pins := rfl
@[simp] theorem setLine_configStore (x : CueLine) : (setLine x s).configStore = s.configStore := rfl
@[simp] theorem setLine_flash (x : CueLine) : (setLine x s).flash = s.flash := rfl
@[simp] theorem setLine_station (x : CueLine) : (setLine x s).station = s.station := rfl
@[simp] theorem setLine_image (x : CueLine) : (setLine x s).image = s.image := rfl
@[simp] theorem setLine_timebase (x : CueLine) : (setLine x s).timebase = s.timebase := rfl
@[simp] theorem setLine_line (x : CueLine) : (setLine x s).line = x := rfl
@[simp] theorem setLine_cues (x : CueLine) : (setLine x s).cues = s.cues := rfl
@[simp] theorem setLine_conditions (x : CueLine) : (setLine x s).conditions = s.conditions := rfl
@[simp] theorem setLine_look (x : CueLine) : (setLine x s).look = s.look := rfl
@[simp] theorem setLine_fade (x : CueLine) : (setLine x s).fade = s.fade := rfl
@[simp] theorem setLine_store (x : CueLine) : (setLine x s).store = s.store := rfl
@[simp] theorem setLine_protection (x : CueLine) : (setLine x s).protection = s.protection := rfl
@[simp] theorem setLine_wall (x : CueLine) : (setLine x s).wall = s.wall := rfl
@[simp] theorem setLine_budget (x : CueLine) : (setLine x s).budget = s.budget := rfl
@[simp] theorem setLine_setup (x : CueLine) : (setLine x s).setup = s.setup := rfl
@[simp] theorem setLine_flags (x : CueLine) : (setLine x s).flags = s.flags := rfl
@[simp] theorem setLine_counters (x : CueLine) : (setLine x s).counters = s.counters := rfl
@[simp] theorem setLine_transit (x : CueLine) : (setLine x s).transit = s.transit := rfl
@[simp] theorem setLine_freeIndex (x : CueLine) : (setLine x s).freeIndex = s.freeIndex := rfl

@[simp] theorem setRecords_pending (x : List CueRecord) : (setRecords x s).pending = s.pending := rfl
@[simp] theorem setRecords_power (x : List CueRecord) : (setRecords x s).power = s.power := rfl
@[simp] theorem setRecords_pins (x : List CueRecord) : (setRecords x s).pins = s.pins := rfl
@[simp] theorem setRecords_configStore (x : List CueRecord) : (setRecords x s).configStore = s.configStore := rfl
@[simp] theorem setRecords_flash (x : List CueRecord) : (setRecords x s).flash = s.flash := rfl
@[simp] theorem setRecords_station (x : List CueRecord) : (setRecords x s).station = s.station := rfl
@[simp] theorem setRecords_image (x : List CueRecord) : (setRecords x s).image = s.image := rfl
@[simp] theorem setRecords_timebase (x : List CueRecord) : (setRecords x s).timebase = s.timebase := rfl
@[simp] theorem setRecords_line (x : List CueRecord) : (setRecords x s).line = s.line := rfl
@[simp] theorem setRecords_cues (x : List CueRecord) : (setRecords x s).cues = { s.cues with records := x } := rfl
@[simp] theorem setRecords_conditions (x : List CueRecord) : (setRecords x s).conditions = s.conditions := rfl
@[simp] theorem setRecords_look (x : List CueRecord) : (setRecords x s).look = s.look := rfl
@[simp] theorem setRecords_fade (x : List CueRecord) : (setRecords x s).fade = s.fade := rfl
@[simp] theorem setRecords_store (x : List CueRecord) : (setRecords x s).store = s.store := rfl
@[simp] theorem setRecords_protection (x : List CueRecord) : (setRecords x s).protection = s.protection := rfl
@[simp] theorem setRecords_wall (x : List CueRecord) : (setRecords x s).wall = s.wall := rfl
@[simp] theorem setRecords_budget (x : List CueRecord) : (setRecords x s).budget = s.budget := rfl
@[simp] theorem setRecords_setup (x : List CueRecord) : (setRecords x s).setup = s.setup := rfl
@[simp] theorem setRecords_flags (x : List CueRecord) : (setRecords x s).flags = s.flags := rfl
@[simp] theorem setRecords_counters (x : List CueRecord) : (setRecords x s).counters = s.counters := rfl
@[simp] theorem setRecords_transit (x : List CueRecord) : (setRecords x s).transit = s.transit := rfl
@[simp] theorem setRecords_freeIndex (x : List CueRecord) : (setRecords x s).freeIndex = s.freeIndex := rfl

@[simp] theorem setStore_pending (x : PresetStore) : (setStore x s).pending = s.pending := rfl
@[simp] theorem setStore_power (x : PresetStore) : (setStore x s).power = s.power := rfl
@[simp] theorem setStore_pins (x : PresetStore) : (setStore x s).pins = s.pins := rfl
@[simp] theorem setStore_configStore (x : PresetStore) : (setStore x s).configStore = s.configStore := rfl
@[simp] theorem setStore_flash (x : PresetStore) : (setStore x s).flash = s.flash := rfl
@[simp] theorem setStore_station (x : PresetStore) : (setStore x s).station = s.station := rfl
@[simp] theorem setStore_image (x : PresetStore) : (setStore x s).image = s.image := rfl
@[simp] theorem setStore_timebase (x : PresetStore) : (setStore x s).timebase = s.timebase := rfl
@[simp] theorem setStore_line (x : PresetStore) : (setStore x s).line = s.line := rfl
@[simp] theorem setStore_cues (x : PresetStore) : (setStore x s).cues = s.cues := rfl
@[simp] theorem setStore_conditions (x : PresetStore) : (setStore x s).conditions = s.conditions := rfl
@[simp] theorem setStore_look (x : PresetStore) : (setStore x s).look = s.look := rfl
@[simp] theorem setStore_fade (x : PresetStore) : (setStore x s).fade = s.fade := rfl
@[simp] theorem setStore_store (x : PresetStore) : (setStore x s).store = x := rfl
@[simp] theorem setStore_protection (x : PresetStore) : (setStore x s).protection = s.protection := rfl
@[simp] theorem setStore_wall (x : PresetStore) : (setStore x s).wall = s.wall := rfl
@[simp] theorem setStore_budget (x : PresetStore) : (setStore x s).budget = s.budget := rfl
@[simp] theorem setStore_setup (x : PresetStore) : (setStore x s).setup = s.setup := rfl
@[simp] theorem setStore_flags (x : PresetStore) : (setStore x s).flags = s.flags := rfl
@[simp] theorem setStore_counters (x : PresetStore) : (setStore x s).counters = s.counters := rfl
@[simp] theorem setStore_transit (x : PresetStore) : (setStore x s).transit = s.transit := rfl
@[simp] theorem setStore_freeIndex (x : PresetStore) : (setStore x s).freeIndex = s.freeIndex := rfl

@[simp] theorem setFade_pending (x : FadeEngine) : (setFade x s).pending = s.pending := rfl
@[simp] theorem setFade_power (x : FadeEngine) : (setFade x s).power = s.power := rfl
@[simp] theorem setFade_pins (x : FadeEngine) : (setFade x s).pins = s.pins := rfl
@[simp] theorem setFade_configStore (x : FadeEngine) : (setFade x s).configStore = s.configStore := rfl
@[simp] theorem setFade_flash (x : FadeEngine) : (setFade x s).flash = s.flash := rfl
@[simp] theorem setFade_station (x : FadeEngine) : (setFade x s).station = s.station := rfl
@[simp] theorem setFade_image (x : FadeEngine) : (setFade x s).image = s.image := rfl
@[simp] theorem setFade_timebase (x : FadeEngine) : (setFade x s).timebase = s.timebase := rfl
@[simp] theorem setFade_line (x : FadeEngine) : (setFade x s).line = s.line := rfl
@[simp] theorem setFade_cues (x : FadeEngine) : (setFade x s).cues = s.cues := rfl
@[simp] theorem setFade_conditions (x : FadeEngine) : (setFade x s).conditions = s.conditions := rfl
@[simp] theorem setFade_look (x : FadeEngine) : (setFade x s).look = s.look := rfl
@[simp] theorem setFade_fade (x : FadeEngine) : (setFade x s).fade = x := rfl
@[simp] theorem setFade_store (x : FadeEngine) : (setFade x s).store = s.store := rfl
@[simp] theorem setFade_protection (x : FadeEngine) : (setFade x s).protection = s.protection := rfl
@[simp] theorem setFade_wall (x : FadeEngine) : (setFade x s).wall = s.wall := rfl
@[simp] theorem setFade_budget (x : FadeEngine) : (setFade x s).budget = s.budget := rfl
@[simp] theorem setFade_setup (x : FadeEngine) : (setFade x s).setup = s.setup := rfl
@[simp] theorem setFade_flags (x : FadeEngine) : (setFade x s).flags = s.flags := rfl
@[simp] theorem setFade_counters (x : FadeEngine) : (setFade x s).counters = s.counters := rfl
@[simp] theorem setFade_transit (x : FadeEngine) : (setFade x s).transit = s.transit := rfl
@[simp] theorem setFade_freeIndex (x : FadeEngine) : (setFade x s).freeIndex = s.freeIndex := rfl

@[simp] theorem setWall_pending (x : WallFeed) : (setWall x s).pending = s.pending := rfl
@[simp] theorem setWall_power (x : WallFeed) : (setWall x s).power = s.power := rfl
@[simp] theorem setWall_pins (x : WallFeed) : (setWall x s).pins = s.pins := rfl
@[simp] theorem setWall_configStore (x : WallFeed) : (setWall x s).configStore = s.configStore := rfl
@[simp] theorem setWall_flash (x : WallFeed) : (setWall x s).flash = s.flash := rfl
@[simp] theorem setWall_station (x : WallFeed) : (setWall x s).station = s.station := rfl
@[simp] theorem setWall_image (x : WallFeed) : (setWall x s).image = s.image := rfl
@[simp] theorem setWall_timebase (x : WallFeed) : (setWall x s).timebase = s.timebase := rfl
@[simp] theorem setWall_line (x : WallFeed) : (setWall x s).line = s.line := rfl
@[simp] theorem setWall_cues (x : WallFeed) : (setWall x s).cues = s.cues := rfl
@[simp] theorem setWall_conditions (x : WallFeed) : (setWall x s).conditions = s.conditions := rfl
@[simp] theorem setWall_look (x : WallFeed) : (setWall x s).look = s.look := rfl
@[simp] theorem setWall_fade (x : WallFeed) : (setWall x s).fade = s.fade := rfl
@[simp] theorem setWall_store (x : WallFeed) : (setWall x s).store = s.store := rfl
@[simp] theorem setWall_protection (x : WallFeed) : (setWall x s).protection = s.protection := rfl
@[simp] theorem setWall_wall (x : WallFeed) : (setWall x s).wall = x := rfl
@[simp] theorem setWall_budget (x : WallFeed) : (setWall x s).budget = s.budget := rfl
@[simp] theorem setWall_setup (x : WallFeed) : (setWall x s).setup = s.setup := rfl
@[simp] theorem setWall_flags (x : WallFeed) : (setWall x s).flags = s.flags := rfl
@[simp] theorem setWall_counters (x : WallFeed) : (setWall x s).counters = s.counters := rfl
@[simp] theorem setWall_transit (x : WallFeed) : (setWall x s).transit = s.transit := rfl
@[simp] theorem setWall_freeIndex (x : WallFeed) : (setWall x s).freeIndex = s.freeIndex := rfl

@[simp] theorem setBudget_pending (x : Budget) : (setBudget x s).pending = s.pending := rfl
@[simp] theorem setBudget_power (x : Budget) : (setBudget x s).power = s.power := rfl
@[simp] theorem setBudget_pins (x : Budget) : (setBudget x s).pins = s.pins := rfl
@[simp] theorem setBudget_configStore (x : Budget) : (setBudget x s).configStore = s.configStore := rfl
@[simp] theorem setBudget_flash (x : Budget) : (setBudget x s).flash = s.flash := rfl
@[simp] theorem setBudget_station (x : Budget) : (setBudget x s).station = s.station := rfl
@[simp] theorem setBudget_image (x : Budget) : (setBudget x s).image = s.image := rfl
@[simp] theorem setBudget_timebase (x : Budget) : (setBudget x s).timebase = s.timebase := rfl
@[simp] theorem setBudget_line (x : Budget) : (setBudget x s).line = s.line := rfl
@[simp] theorem setBudget_cues (x : Budget) : (setBudget x s).cues = s.cues := rfl
@[simp] theorem setBudget_conditions (x : Budget) : (setBudget x s).conditions = s.conditions := rfl
@[simp] theorem setBudget_look (x : Budget) : (setBudget x s).look = s.look := rfl
@[simp] theorem setBudget_fade (x : Budget) : (setBudget x s).fade = s.fade := rfl
@[simp] theorem setBudget_store (x : Budget) : (setBudget x s).store = s.store := rfl
@[simp] theorem setBudget_protection (x : Budget) : (setBudget x s).protection = s.protection := rfl
@[simp] theorem setBudget_wall (x : Budget) : (setBudget x s).wall = s.wall := rfl
@[simp] theorem setBudget_budget (x : Budget) : (setBudget x s).budget = x := rfl
@[simp] theorem setBudget_setup (x : Budget) : (setBudget x s).setup = s.setup := rfl
@[simp] theorem setBudget_flags (x : Budget) : (setBudget x s).flags = s.flags := rfl
@[simp] theorem setBudget_counters (x : Budget) : (setBudget x s).counters = s.counters := rfl
@[simp] theorem setBudget_transit (x : Budget) : (setBudget x s).transit = s.transit := rfl
@[simp] theorem setBudget_freeIndex (x : Budget) : (setBudget x s).freeIndex = s.freeIndex := rfl

@[simp] theorem setSetup_pending (x : SetupPort) : (setSetup x s).pending = s.pending := rfl
@[simp] theorem setSetup_power (x : SetupPort) : (setSetup x s).power = s.power := rfl
@[simp] theorem setSetup_pins (x : SetupPort) : (setSetup x s).pins = s.pins := rfl
@[simp] theorem setSetup_configStore (x : SetupPort) : (setSetup x s).configStore = s.configStore := rfl
@[simp] theorem setSetup_flash (x : SetupPort) : (setSetup x s).flash = s.flash := rfl
@[simp] theorem setSetup_station (x : SetupPort) : (setSetup x s).station = s.station := rfl
@[simp] theorem setSetup_image (x : SetupPort) : (setSetup x s).image = s.image := rfl
@[simp] theorem setSetup_timebase (x : SetupPort) : (setSetup x s).timebase = s.timebase := rfl
@[simp] theorem setSetup_line (x : SetupPort) : (setSetup x s).line = s.line := rfl
@[simp] theorem setSetup_cues (x : SetupPort) : (setSetup x s).cues = s.cues := rfl
@[simp] theorem setSetup_conditions (x : SetupPort) : (setSetup x s).conditions = s.conditions := rfl
@[simp] theorem setSetup_look (x : SetupPort) : (setSetup x s).look = s.look := rfl
@[simp] theorem setSetup_fade (x : SetupPort) : (setSetup x s).fade = s.fade := rfl
@[simp] theorem setSetup_store (x : SetupPort) : (setSetup x s).store = s.store := rfl
@[simp] theorem setSetup_protection (x : SetupPort) : (setSetup x s).protection = s.protection := rfl
@[simp] theorem setSetup_wall (x : SetupPort) : (setSetup x s).wall = s.wall := rfl
@[simp] theorem setSetup_budget (x : SetupPort) : (setSetup x s).budget = s.budget := rfl
@[simp] theorem setSetup_setup (x : SetupPort) : (setSetup x s).setup = x := rfl
@[simp] theorem setSetup_flags (x : SetupPort) : (setSetup x s).flags = s.flags := rfl
@[simp] theorem setSetup_counters (x : SetupPort) : (setSetup x s).counters = s.counters := rfl
@[simp] theorem setSetup_transit (x : SetupPort) : (setSetup x s).transit = s.transit := rfl
@[simp] theorem setSetup_freeIndex (x : SetupPort) : (setSetup x s).freeIndex = s.freeIndex := rfl

@[simp] theorem countN_pending (c : Counter) (x : Nat) : (countN c x s).pending = s.pending := rfl
@[simp] theorem countN_power (c : Counter) (x : Nat) : (countN c x s).power = s.power := rfl
@[simp] theorem countN_pins (c : Counter) (x : Nat) : (countN c x s).pins = s.pins := rfl
@[simp] theorem countN_configStore (c : Counter) (x : Nat) : (countN c x s).configStore = s.configStore := rfl
@[simp] theorem countN_flash (c : Counter) (x : Nat) : (countN c x s).flash = s.flash := rfl
@[simp] theorem countN_station (c : Counter) (x : Nat) : (countN c x s).station = s.station := rfl
@[simp] theorem countN_image (c : Counter) (x : Nat) : (countN c x s).image = s.image := rfl
@[simp] theorem countN_timebase (c : Counter) (x : Nat) : (countN c x s).timebase = s.timebase := rfl
@[simp] theorem countN_line (c : Counter) (x : Nat) : (countN c x s).line = s.line := rfl
@[simp] theorem countN_cues (c : Counter) (x : Nat) : (countN c x s).cues = s.cues := rfl
@[simp] theorem countN_conditions (c : Counter) (x : Nat) : (countN c x s).conditions = s.conditions := rfl
@[simp] theorem countN_look (c : Counter) (x : Nat) : (countN c x s).look = s.look := rfl
@[simp] theorem countN_fade (c : Counter) (x : Nat) : (countN c x s).fade = s.fade := rfl
@[simp] theorem countN_store (c : Counter) (x : Nat) : (countN c x s).store = s.store := rfl
@[simp] theorem countN_protection (c : Counter) (x : Nat) : (countN c x s).protection = s.protection := rfl
@[simp] theorem countN_wall (c : Counter) (x : Nat) : (countN c x s).wall = s.wall := rfl
@[simp] theorem countN_budget (c : Counter) (x : Nat) : (countN c x s).budget = s.budget := rfl
@[simp] theorem countN_setup (c : Counter) (x : Nat) : (countN c x s).setup = s.setup := rfl
@[simp] theorem countN_flags (c : Counter) (x : Nat) : (countN c x s).flags = s.flags := rfl
@[simp] theorem countN_counters (c : Counter) (x : Nat) : (countN c x s).counters = setAt s.counters (counterNumber c) (saturatingAdd s.counters[counterNumber c] x) :=
  rfl
@[simp] theorem countN_transit (c : Counter) (x : Nat) : (countN c x s).transit = s.transit := rfl
@[simp] theorem countN_freeIndex (c : Counter) (x : Nat) : (countN c x s).freeIndex = s.freeIndex := rfl

@[simp] theorem lineToGap_pending : (lineToGap s).pending = s.pending := rfl
@[simp] theorem lineToGap_power : (lineToGap s).power = s.power := rfl
@[simp] theorem lineToGap_pins : (lineToGap s).pins = s.pins := rfl
@[simp] theorem lineToGap_configStore : (lineToGap s).configStore = s.configStore := rfl
@[simp] theorem lineToGap_flash : (lineToGap s).flash = s.flash := rfl
@[simp] theorem lineToGap_station : (lineToGap s).station = s.station := rfl
@[simp] theorem lineToGap_image : (lineToGap s).image = s.image := rfl
@[simp] theorem lineToGap_timebase : (lineToGap s).timebase = s.timebase := rfl
@[simp] theorem lineToGap_line : (lineToGap s).line = { s.line with lineState := .gap } := rfl
@[simp] theorem lineToGap_cues : (lineToGap s).cues = s.cues := rfl
@[simp] theorem lineToGap_conditions : (lineToGap s).conditions = s.conditions := rfl
@[simp] theorem lineToGap_look : (lineToGap s).look = s.look := rfl
@[simp] theorem lineToGap_fade : (lineToGap s).fade = s.fade := rfl
@[simp] theorem lineToGap_store : (lineToGap s).store = s.store := rfl
@[simp] theorem lineToGap_protection : (lineToGap s).protection = s.protection := rfl
@[simp] theorem lineToGap_wall : (lineToGap s).wall = s.wall := rfl
@[simp] theorem lineToGap_budget : (lineToGap s).budget = s.budget := rfl
@[simp] theorem lineToGap_setup : (lineToGap s).setup = s.setup := rfl
@[simp] theorem lineToGap_flags : (lineToGap s).flags = s.flags := rfl
@[simp] theorem lineToGap_counters : (lineToGap s).counters = s.counters := rfl
@[simp] theorem lineToGap_transit : (lineToGap s).transit = s.transit := rfl
@[simp] theorem lineToGap_freeIndex : (lineToGap s).freeIndex = s.freeIndex := rfl

@[simp] theorem setPage_pending (n : Fin 64) (x : Page Content) : (setPage n x s).pending = s.pending := rfl
@[simp] theorem setPage_power (n : Fin 64) (x : Page Content) : (setPage n x s).power = s.power := rfl
@[simp] theorem setPage_pins (n : Fin 64) (x : Page Content) : (setPage n x s).pins = s.pins := rfl
@[simp] theorem setPage_configStore (n : Fin 64) (x : Page Content) : (setPage n x s).configStore = s.configStore :=
  rfl
@[simp] theorem setPage_flash (n : Fin 64) (x : Page Content) : (setPage n x s).flash = { s.flash with presets := setAt s.flash.presets n x } :=
  rfl
@[simp] theorem setPage_station (n : Fin 64) (x : Page Content) : (setPage n x s).station = s.station := rfl
@[simp] theorem setPage_image (n : Fin 64) (x : Page Content) : (setPage n x s).image = s.image := rfl
@[simp] theorem setPage_timebase (n : Fin 64) (x : Page Content) : (setPage n x s).timebase = s.timebase := rfl
@[simp] theorem setPage_line (n : Fin 64) (x : Page Content) : (setPage n x s).line = s.line := rfl
@[simp] theorem setPage_cues (n : Fin 64) (x : Page Content) : (setPage n x s).cues = s.cues := rfl
@[simp] theorem setPage_conditions (n : Fin 64) (x : Page Content) : (setPage n x s).conditions = s.conditions := rfl
@[simp] theorem setPage_look (n : Fin 64) (x : Page Content) : (setPage n x s).look = s.look := rfl
@[simp] theorem setPage_fade (n : Fin 64) (x : Page Content) : (setPage n x s).fade = s.fade := rfl
@[simp] theorem setPage_store (n : Fin 64) (x : Page Content) : (setPage n x s).store = s.store := rfl
@[simp] theorem setPage_protection (n : Fin 64) (x : Page Content) : (setPage n x s).protection = s.protection := rfl
@[simp] theorem setPage_wall (n : Fin 64) (x : Page Content) : (setPage n x s).wall = s.wall := rfl
@[simp] theorem setPage_budget (n : Fin 64) (x : Page Content) : (setPage n x s).budget = s.budget := rfl
@[simp] theorem setPage_setup (n : Fin 64) (x : Page Content) : (setPage n x s).setup = s.setup := rfl
@[simp] theorem setPage_flags (n : Fin 64) (x : Page Content) : (setPage n x s).flags = s.flags := rfl
@[simp] theorem setPage_counters (n : Fin 64) (x : Page Content) : (setPage n x s).counters = s.counters := rfl
@[simp] theorem setPage_transit (n : Fin 64) (x : Page Content) : (setPage n x s).transit = s.transit := rfl
@[simp] theorem setPage_freeIndex (n : Fin 64) (x : Page Content) : (setPage n x s).freeIndex = s.freeIndex := rfl

@[simp] theorem raiseCommitFail_pending (x : Bool) : (raiseCommitFail x s).pending = s.pending := rfl
@[simp] theorem raiseCommitFail_power (x : Bool) : (raiseCommitFail x s).power = s.power := rfl
@[simp] theorem raiseCommitFail_pins (x : Bool) : (raiseCommitFail x s).pins = s.pins := rfl
@[simp] theorem raiseCommitFail_configStore (x : Bool) : (raiseCommitFail x s).configStore = s.configStore := rfl
@[simp] theorem raiseCommitFail_flash (x : Bool) : (raiseCommitFail x s).flash = s.flash := rfl
@[simp] theorem raiseCommitFail_station (x : Bool) : (raiseCommitFail x s).station = s.station := rfl
@[simp] theorem raiseCommitFail_image (x : Bool) : (raiseCommitFail x s).image = s.image := rfl
@[simp] theorem raiseCommitFail_timebase (x : Bool) : (raiseCommitFail x s).timebase = s.timebase := rfl
@[simp] theorem raiseCommitFail_line (x : Bool) : (raiseCommitFail x s).line = s.line := rfl
@[simp] theorem raiseCommitFail_cues (x : Bool) : (raiseCommitFail x s).cues = s.cues := rfl
@[simp] theorem raiseCommitFail_conditions (x : Bool) : (raiseCommitFail x s).conditions = s.conditions := rfl
@[simp] theorem raiseCommitFail_look (x : Bool) : (raiseCommitFail x s).look = s.look := rfl
@[simp] theorem raiseCommitFail_fade (x : Bool) : (raiseCommitFail x s).fade = s.fade := rfl
@[simp] theorem raiseCommitFail_store (x : Bool) : (raiseCommitFail x s).store = s.store := rfl
@[simp] theorem raiseCommitFail_protection (x : Bool) : (raiseCommitFail x s).protection = s.protection := rfl
@[simp] theorem raiseCommitFail_wall (x : Bool) : (raiseCommitFail x s).wall = s.wall := rfl
@[simp] theorem raiseCommitFail_budget (x : Bool) : (raiseCommitFail x s).budget = s.budget := rfl
@[simp] theorem raiseCommitFail_setup (x : Bool) : (raiseCommitFail x s).setup = s.setup := rfl
@[simp] theorem raiseCommitFail_flags (x : Bool) : (raiseCommitFail x s).flags = { s.flags with commitFail := x } :=
  rfl
@[simp] theorem raiseCommitFail_counters (x : Bool) : (raiseCommitFail x s).counters = s.counters := rfl
@[simp] theorem raiseCommitFail_transit (x : Bool) : (raiseCommitFail x s).transit = s.transit := rfl
@[simp] theorem raiseCommitFail_freeIndex (x : Bool) : (raiseCommitFail x s).freeIndex = s.freeIndex := rfl

/-- `count` is `countN` of one. -/
theorem count_eq (c : Counter) : count c s = countN c 1 s := rfl

@[simp] theorem count_pending (c : Counter) : (count c s).pending = s.pending := rfl
@[simp] theorem count_power (c : Counter) : (count c s).power = s.power := rfl
@[simp] theorem count_pins (c : Counter) : (count c s).pins = s.pins := rfl
@[simp] theorem count_configStore (c : Counter) : (count c s).configStore = s.configStore := rfl
@[simp] theorem count_flash (c : Counter) : (count c s).flash = s.flash := rfl
@[simp] theorem count_station (c : Counter) : (count c s).station = s.station := rfl
@[simp] theorem count_image (c : Counter) : (count c s).image = s.image := rfl
@[simp] theorem count_timebase (c : Counter) : (count c s).timebase = s.timebase := rfl
@[simp] theorem count_line (c : Counter) : (count c s).line = s.line := rfl
@[simp] theorem count_cues (c : Counter) : (count c s).cues = s.cues := rfl
@[simp] theorem count_conditions (c : Counter) : (count c s).conditions = s.conditions := rfl
@[simp] theorem count_look (c : Counter) : (count c s).look = s.look := rfl
@[simp] theorem count_fade (c : Counter) : (count c s).fade = s.fade := rfl
@[simp] theorem count_store (c : Counter) : (count c s).store = s.store := rfl
@[simp] theorem count_protection (c : Counter) : (count c s).protection = s.protection := rfl
@[simp] theorem count_wall (c : Counter) : (count c s).wall = s.wall := rfl
@[simp] theorem count_budget (c : Counter) : (count c s).budget = s.budget := rfl
@[simp] theorem count_setup (c : Counter) : (count c s).setup = s.setup := rfl
@[simp] theorem count_flags (c : Counter) : (count c s).flags = s.flags := rfl
@[simp] theorem count_transit (c : Counter) : (count c s).transit = s.transit := rfl
@[simp] theorem count_freeIndex (c : Counter) : (count c s).freeIndex = s.freeIndex := rfl

@[simp] theorem countIf_pending (b : Bool) (c : Counter) : (countIf b c s).pending = s.pending := by
  cases b <;> rfl
@[simp] theorem countIf_power (b : Bool) (c : Counter) : (countIf b c s).power = s.power := by
  cases b <;> rfl
@[simp] theorem countIf_pins (b : Bool) (c : Counter) : (countIf b c s).pins = s.pins := by
  cases b <;> rfl
@[simp] theorem countIf_configStore (b : Bool) (c : Counter) : (countIf b c s).configStore = s.configStore := by
  cases b <;> rfl
@[simp] theorem countIf_flash (b : Bool) (c : Counter) : (countIf b c s).flash = s.flash := by
  cases b <;> rfl
@[simp] theorem countIf_station (b : Bool) (c : Counter) : (countIf b c s).station = s.station := by
  cases b <;> rfl
@[simp] theorem countIf_image (b : Bool) (c : Counter) : (countIf b c s).image = s.image := by
  cases b <;> rfl
@[simp] theorem countIf_timebase (b : Bool) (c : Counter) : (countIf b c s).timebase = s.timebase := by
  cases b <;> rfl
@[simp] theorem countIf_line (b : Bool) (c : Counter) : (countIf b c s).line = s.line := by
  cases b <;> rfl
@[simp] theorem countIf_cues (b : Bool) (c : Counter) : (countIf b c s).cues = s.cues := by
  cases b <;> rfl
@[simp] theorem countIf_conditions (b : Bool) (c : Counter) : (countIf b c s).conditions = s.conditions := by
  cases b <;> rfl
@[simp] theorem countIf_look (b : Bool) (c : Counter) : (countIf b c s).look = s.look := by
  cases b <;> rfl
@[simp] theorem countIf_fade (b : Bool) (c : Counter) : (countIf b c s).fade = s.fade := by
  cases b <;> rfl
@[simp] theorem countIf_store (b : Bool) (c : Counter) : (countIf b c s).store = s.store := by
  cases b <;> rfl
@[simp] theorem countIf_protection (b : Bool) (c : Counter) : (countIf b c s).protection = s.protection := by
  cases b <;> rfl
@[simp] theorem countIf_wall (b : Bool) (c : Counter) : (countIf b c s).wall = s.wall := by
  cases b <;> rfl
@[simp] theorem countIf_budget (b : Bool) (c : Counter) : (countIf b c s).budget = s.budget := by
  cases b <;> rfl
@[simp] theorem countIf_setup (b : Bool) (c : Counter) : (countIf b c s).setup = s.setup := by
  cases b <;> rfl
@[simp] theorem countIf_flags (b : Bool) (c : Counter) : (countIf b c s).flags = s.flags := by
  cases b <;> rfl
@[simp] theorem countIf_transit (b : Bool) (c : Counter) : (countIf b c s).transit = s.transit := by
  cases b <;> rfl
@[simp] theorem countIf_freeIndex (b : Bool) (c : Counter) : (countIf b c s).freeIndex = s.freeIndex := by
  cases b <;> rfl

end Sys2Proof.Machine
end

