-- ==== Sys2Proof/Laws/Ops.lean ====
section
/-! SUPPORT. What each shared operation can do, said once. -/

namespace Sys2Proof.Machine

/-- A routed message reaches its owner with the line at GAP (R16, R24). -/
theorem receive_routed {k : Kind} {m : Message} {s : State} (h : Routed k m s) (owner : State → State) :
    receive (kindCode k) m owner s = owner (lineToGap s) := by
  have hk : kindOfCode (kindCode k) = some k := by cases k <;> rfl
  have hlen : ¬ 68 < m.body.length := by
    have := h.length
    cases k <;> simp [lengthAccepted] at this <;> omega
  have hscope : (isAddressed k && !(messageScope m).getLsbD s.station.number.toNat) = false := by
    cases ha : isAddressed k
    · rfl
    · simp [h.scope ha]
  have hf : filterMessage (kindCode k) m s = .routed k := by
    unfold filterMessage
    simp [h.receiving, hlen, h.check, hk, h.length, h.kind, h.source, hscope, h.state]
  simp [receive, hf]

/-- A message does nothing, or is dropped with at most one count, or reaches its owner (R20 to R24). -/
theorem receive_cases (code : BitVec 4) (m : Message) (owner : State → State) (s : State) :
    receive code m owner s = s ∨ receive code m owner s = lineToGap s ∨
      (∃ c, receive code m owner s = count c (lineToGap s)) ∨ receive code m owner s = owner (lineToGap s) := by
  unfold receive
  split
  · exact .inl rfl
  · exact .inr (.inl rfl)
  · exact .inr (.inr (.inl ⟨_, rfl⟩))
  · exact .inr (.inr (.inr rfl))

/-- The arbiter leaves the state, answers heads, serves one read, starts one operation, resumes the suspended
commit or asks it to suspend (R106, R113 to R115). -/
theorem arbitrate_cases (s : State) :
    arbitrate s = s ∨ arbitrate s = answerHeads s ∨
      arbitrate s = serveHead (answerHeads s) ∨
      (s.store.running = none ∧ s.store.restartWait = false ∧ s.station.state ≠ .safe ∧
        arbitrate s = startOperation (answerHeads s)) ∨
      (∃ c, s.store.running = some (.commit c) ∧ c.suspended = true ∧
        arbitrate s = resumeCommit c (answerHeads s)) ∨
      (∃ c, s.store.running = some (.commit c) ∧ c.suspended = false ∧ c.phase ≠ .verify ∧ c.suspends < 8 ∧
        s.store.restartWait = false ∧ arbitrate s = setRun { c with asked := true } (answerHeads s)) := by
  unfold arbitrate
  split
  · exact .inl rfl
  · have hr : (answerHeads s).store.running = s.store.running := rfl
    have hw : (answerHeads s).store.restartWait = s.store.restartWait := rfl
    have hst : (answerHeads s).station = s.station := rfl
    unfold arbitrateHead
    rw [hr, hw, hst]
    split
    · split
      · exact .inr (.inr (.inl rfl))
      · split
        · exact .inr (.inl rfl)
        · rename_i h
          simp only [not_or] at h
          exact .inr (.inr (.inr (.inl ⟨by assumption, by simpa using h.1, h.2, rfl⟩)))
    · rename_i c hc
      split
      · rename_i hsus
        split
        · exact .inr (.inr (.inr (.inr (.inl ⟨c, hc, hsus, rfl⟩))))
        · exact .inr (.inr (.inl rfl))
      · rename_i hsus
        split
        · rename_i h
          have h2 := h.2
          simp only [maySuspend, Bool.and_eq_true, bne_iff_ne, decide_eq_true_eq, Bool.not_eq_true'] at h2
          exact .inr (.inr (.inr (.inr (.inr
            ⟨c, hc, by simpa using hsus, h2.1.1, h2.1.2, h2.2, rfl⟩))))
        · exact .inr (.inl rfl)
    · exact .inr (.inl rfl)
    · exact .inr (.inl rfl)

/-- A DEMAND replaces the queued one, joins a queue with room, or takes the place of a REPORT or a COND (R26). -/
theorem placeDemand_cases (group : Byte) (a : Announcement) (s : State) :
    ∃ l t, placeDemand group a s = t ∧ t.line = l ∧
      (t = setLine l s ∨ t = count .queryDrop (setLine l s) ∨ t = count .condTxDrop (setLine l s)) ∧
      l.lineState = s.line.lineState ∧ l.attempt = s.line.attempt ∧ l.register = s.line.register ∧
      l.closing = s.line.closing := by
  unfold placeDemand makeRoom joinTail
  simp only []
  split
  · exact ⟨_, _, rfl, rfl, .inl rfl, rfl, rfl, rfl, rfl⟩
  · split
    · exact ⟨_, _, rfl, rfl, .inl rfl, rfl, rfl, rfl, rfl⟩
    · cases removeOldest isReportMsg (headOnLine s.line) s.line.queue with
      | some q => exact ⟨_, _, rfl, rfl, .inr (.inl rfl), rfl, rfl, rfl, rfl⟩
      | none =>
        cases removeOldest isCondMsg (headOnLine s.line) s.line.queue with
        | some q => exact ⟨_, _, rfl, rfl, .inr (.inr rfl), rfl, rfl, rfl, rfl⟩
        | none => exact ⟨_, _, rfl, rfl, .inl rfl, rfl, rfl, rfl, rfl⟩

/-! ### Map operations (R129) -/

/-- A map operation that the preset store refuses counts OPQ_FULL and changes nothing else. -/
theorem requestMap_refused (op : ArrayOp) {s : State} (h : acceptsOp s = false) :
    requestMap op s = count .opqFull s := by
  simp [requestMap, handOver, handOverMap, h]

/-- One that it accepts with fewer than five outstanding joins the queue and is counted. -/
theorem requestMap_accepted (op : ArrayOp) {s : State} (h : acceptsOp s = true) (few : s.protection.outstanding < 5) :
    requestMap op s =
      { handOverMap op s with protection := { (handOverMap op s).protection with
          outstanding := (handOverMap op s).protection.outstanding + 1 } } := by
  simp [requestMap, handOver, h, Nat.not_le.2 few]

/-! ### LOOK HOME (R70, R71) -/

/-- A LOOK HOME at a machine that runs enters after the run notice that waits, if one does. -/
theorem lookHome_runs {s : State} {a : HomeAction} {as : List HomeAction} (h : s.transit.homes = a :: as)
    (runs : lookRuns s = true) :
    lookHome s = enterLook s.image.initialLook .home
      (runNoticeLook { s with transit := { s.transit with homes := as } }) := by
  simp [lookHome, h, runs]

/-- A stopped machine discards it. -/
theorem lookHome_stopped {s : State} {a : HomeAction} {as : List HomeAction} (h : s.transit.homes = a :: as)
    (stopped : lookRuns s = false) :
    lookHome s = { s with transit := { s.transit with homes := as } } := by
  simp [lookHome, h, stopped]

/-! ### Bytes (R194) -/

/-- Bytes spell a number below 256 to their count. -/
theorem ofBytes_lt (bs : List Byte) : ofBytes bs < 256 ^ bs.length := by
  unfold ofBytes
  induction bs using List.reverseRecOn with
  | nil => simp
  | append_singleton l b ih =>
    have := b.isLt
    simp only [List.foldl_append, List.foldl_cons, List.foldl_nil, List.length_append, List.length_cons,
      List.length_nil, pow_succ]
    omega

/-- A field of `len` bytes is below 256 to the power `len`. -/
theorem fieldAt_lt (bs : List Byte) (off len : Nat) : fieldAt bs off len < 256 ^ len :=
  (ofBytes_lt _).trans_le (Nat.pow_le_pow_right (by norm_num) (by simp))

theorem toBytes_length (n v : Nat) : (toBytes n v).length = n := by
  induction n with
  | zero => rfl
  | succ n ih => simp [toBytes, ih]

/-- The bytes of a number after those already read. -/
theorem foldl_toBytes (n v acc : Nat) :
    (toBytes n v).foldl (fun acc b => acc * 256 + b.toNat) acc = acc * 256 ^ n + v % 256 ^ n := by
  induction n generalizing acc with
  | zero => simp [toBytes, Nat.mod_one]
  | succ n ih =>
    have hmod : v % 256 ^ (n + 1) = v % 256 ^ n + 256 ^ n * (v / 256 ^ n % 256) := Nat.mod_pow_succ
    have hpow : 2 ^ (8 * n) = 256 ^ n := by rw [Nat.pow_mul]
    simp only [toBytes, List.foldl_cons, ih, BitVec.toNat_ofNat, Nat.shiftRight_eq_div_pow, hpow, hmod]
    ring

/-- A field reads back as its value, cut to its bytes (R194). -/
theorem ofBytes_toBytes (n v : Nat) : ofBytes (toBytes n v) = v % 256 ^ n := by
  simp [ofBytes, foldl_toBytes]

end Sys2Proof.Machine
end

