-- ==== Sys2Proof/Laws/Frames.lean ====
section
/-! SUPPORT. The frame of every operation on State: for each, the fields it leaves as they were. -/

namespace Sys2Proof.Machine


@[simp] theorem receive_pending (code : BitVec 4) (m : Message) (owner : State → State) (s : State)
    (h : ∀ x, (owner x).pending = x.pending) : (receive code m owner s).pending = s.pending := by
  unfold receive; split <;> simp [h]

@[simp] theorem receive_power (code : BitVec 4) (m : Message) (owner : State → State) (s : State)
    (h : ∀ x, (owner x).power = x.power) : (receive code m owner s).power = s.power := by
  unfold receive; split <;> simp [h]

@[simp] theorem receive_pins (code : BitVec 4) (m : Message) (owner : State → State) (s : State)
    (h : ∀ x, (owner x).pins = x.pins) : (receive code m owner s).pins = s.pins := by
  unfold receive; split <;> simp [h]

@[simp] theorem receive_configStore (code : BitVec 4) (m : Message) (owner : State → State) (s : State)
    (h : ∀ x, (owner x).configStore = x.configStore) : (receive code m owner s).configStore = s.configStore := by
  unfold receive; split <;> simp [h]

@[simp] theorem receive_flash (code : BitVec 4) (m : Message) (owner : State → State) (s : State)
    (h : ∀ x, (owner x).flash = x.flash) : (receive code m owner s).flash = s.flash := by
  unfold receive; split <;> simp [h]

@[simp] theorem receive_station (code : BitVec 4) (m : Message) (owner : State → State) (s : State)
    (h : ∀ x, (owner x).station = x.station) : (receive code m owner s).station = s.station := by
  unfold receive; split <;> simp [h]

@[simp] theorem receive_image (code : BitVec 4) (m : Message) (owner : State → State) (s : State)
    (h : ∀ x, (owner x).image = x.image) : (receive code m owner s).image = s.image := by
  unfold receive; split <;> simp [h]

@[simp] theorem receive_timebase (code : BitVec 4) (m : Message) (owner : State → State) (s : State)
    (h : ∀ x, (owner x).timebase = x.timebase) : (receive code m owner s).timebase = s.timebase := by
  unfold receive; split <;> simp [h]

@[simp] theorem receive_cues (code : BitVec 4) (m : Message) (owner : State → State) (s : State)
    (h : ∀ x, (owner x).cues = x.cues) : (receive code m owner s).cues = s.cues := by
  unfold receive; split <;> simp [h]

@[simp] theorem receive_conditions (code : BitVec 4) (m : Message) (owner : State → State) (s : State)
    (h : ∀ x, (owner x).conditions = x.conditions) : (receive code m owner s).conditions = s.conditions := by
  unfold receive; split <;> simp [h]

@[simp] theorem receive_look (code : BitVec 4) (m : Message) (owner : State → State) (s : State)
    (h : ∀ x, (owner x).look = x.look) : (receive code m owner s).look = s.look := by
  unfold receive; split <;> simp [h]

@[simp] theorem receive_fade (code : BitVec 4) (m : Message) (owner : State → State) (s : State)
    (h : ∀ x, (owner x).fade = x.fade) : (receive code m owner s).fade = s.fade := by
  unfold receive; split <;> simp [h]

@[simp] theorem receive_store (code : BitVec 4) (m : Message) (owner : State → State) (s : State)
    (h : ∀ x, (owner x).store = x.store) : (receive code m owner s).store = s.store := by
  unfold receive; split <;> simp [h]

@[simp] theorem receive_protection (code : BitVec 4) (m : Message) (owner : State → State) (s : State)
    (h : ∀ x, (owner x).protection = x.protection) : (receive code m owner s).protection = s.protection := by
  unfold receive; split <;> simp [h]

@[simp] theorem receive_wall (code : BitVec 4) (m : Message) (owner : State → State) (s : State)
    (h : ∀ x, (owner x).wall = x.wall) : (receive code m owner s).wall = s.wall := by
  unfold receive; split <;> simp [h]

@[simp] theorem receive_budget (code : BitVec 4) (m : Message) (owner : State → State) (s : State)
    (h : ∀ x, (owner x).budget = x.budget) : (receive code m owner s).budget = s.budget := by
  unfold receive; split <;> simp [h]

@[simp] theorem receive_setup (code : BitVec 4) (m : Message) (owner : State → State) (s : State)
    (h : ∀ x, (owner x).setup = x.setup) : (receive code m owner s).setup = s.setup := by
  unfold receive; split <;> simp [h]

@[simp] theorem receive_flags (code : BitVec 4) (m : Message) (owner : State → State) (s : State)
    (h : ∀ x, (owner x).flags = x.flags) : (receive code m owner s).flags = s.flags := by
  unfold receive; split <;> simp [h]

@[simp] theorem receive_transit (code : BitVec 4) (m : Message) (owner : State → State) (s : State)
    (h : ∀ x, (owner x).transit = x.transit) : (receive code m owner s).transit = s.transit := by
  unfold receive; split <;> simp [h]

@[simp] theorem receive_freeIndex (code : BitVec 4) (m : Message) (owner : State → State) (s : State)
    (h : ∀ x, (owner x).freeIndex = x.freeIndex) : (receive code m owner s).freeIndex = s.freeIndex := by
  unfold receive; split <;> simp [h]

@[simp] theorem placeDemand_keeps (group : Byte) (a : Announcement) (s : State) :
    (placeDemand group a s).pending = s.pending ∧ (placeDemand group a s).power = s.power ∧
    (placeDemand group a s).pins = s.pins ∧ (placeDemand group a s).configStore = s.configStore ∧
    (placeDemand group a s).flash = s.flash ∧ (placeDemand group a s).station = s.station ∧
    (placeDemand group a s).image = s.image ∧ (placeDemand group a s).timebase = s.timebase ∧
    (placeDemand group a s).cues = s.cues ∧ (placeDemand group a s).conditions = s.conditions ∧
    (placeDemand group a s).look = s.look ∧ (placeDemand group a s).fade = s.fade ∧
    (placeDemand group a s).store = s.store ∧ (placeDemand group a s).protection = s.protection ∧
    (placeDemand group a s).wall = s.wall ∧ (placeDemand group a s).budget = s.budget ∧
    (placeDemand group a s).setup = s.setup ∧ (placeDemand group a s).flags = s.flags ∧
    (placeDemand group a s).transit = s.transit ∧ (placeDemand group a s).freeIndex = s.freeIndex := by
  unfold placeDemand; dsimp only; (repeat' split) <;> simp

@[simp] theorem placeCond_keeps (c : ConditionNo) (v : Bool) (s : State) :
    (placeCond c v s).pending = s.pending ∧ (placeCond c v s).power = s.power ∧
    (placeCond c v s).pins = s.pins ∧ (placeCond c v s).configStore = s.configStore ∧
    (placeCond c v s).flash = s.flash ∧ (placeCond c v s).station = s.station ∧
    (placeCond c v s).image = s.image ∧ (placeCond c v s).timebase = s.timebase ∧
    (placeCond c v s).cues = s.cues ∧ (placeCond c v s).conditions = s.conditions ∧
    (placeCond c v s).look = s.look ∧ (placeCond c v s).fade = s.fade ∧ (placeCond c v s).store = s.store ∧
    (placeCond c v s).protection = s.protection ∧ (placeCond c v s).wall = s.wall ∧
    (placeCond c v s).budget = s.budget ∧ (placeCond c v s).setup = s.setup ∧
    (placeCond c v s).flags = s.flags ∧ (placeCond c v s).transit = s.transit ∧
    (placeCond c v s).freeIndex = s.freeIndex := by
  unfold placeCond; dsimp only; (repeat' split) <;> simp

@[simp] theorem placeReport_keeps (record index : Byte) (contents : List Byte) (s : State) :
    (placeReport record index contents s).pending = s.pending ∧
    (placeReport record index contents s).power = s.power ∧
    (placeReport record index contents s).pins = s.pins ∧
    (placeReport record index contents s).configStore = s.configStore ∧
    (placeReport record index contents s).flash = s.flash ∧
    (placeReport record index contents s).station = s.station ∧
    (placeReport record index contents s).image = s.image ∧
    (placeReport record index contents s).timebase = s.timebase ∧
    (placeReport record index contents s).cues = s.cues ∧
    (placeReport record index contents s).conditions = s.conditions ∧
    (placeReport record index contents s).look = s.look ∧
    (placeReport record index contents s).fade = s.fade ∧
    (placeReport record index contents s).store = s.store ∧
    (placeReport record index contents s).protection = s.protection ∧
    (placeReport record index contents s).wall = s.wall ∧
    (placeReport record index contents s).budget = s.budget ∧
    (placeReport record index contents s).setup = s.setup ∧
    (placeReport record index contents s).flags = s.flags ∧
    (placeReport record index contents s).transit = s.transit ∧
    (placeReport record index contents s).freeIndex = s.freeIndex := by
  unfold placeReport; split <;> simp

@[simp] theorem lineIdle_keeps (s : State) :
    (lineIdle s).pending = s.pending ∧ (lineIdle s).power = s.power ∧ (lineIdle s).pins = s.pins ∧
    (lineIdle s).configStore = s.configStore ∧ (lineIdle s).flash = s.flash ∧
    (lineIdle s).station = s.station ∧ (lineIdle s).image = s.image ∧ (lineIdle s).timebase = s.timebase ∧
    (lineIdle s).cues = s.cues ∧ (lineIdle s).conditions = s.conditions ∧ (lineIdle s).look = s.look ∧
    (lineIdle s).fade = s.fade ∧ (lineIdle s).store = s.store ∧ (lineIdle s).protection = s.protection ∧
    (lineIdle s).wall = s.wall ∧ (lineIdle s).budget = s.budget ∧ (lineIdle s).setup = s.setup ∧
    (lineIdle s).flags = s.flags ∧ (lineIdle s).counters = s.counters ∧ (lineIdle s).transit = s.transit ∧
    (lineIdle s).freeIndex = s.freeIndex := by
  unfold lineIdle; split <;> simp

@[simp] theorem synchronisingWaitEnd_keeps (s : State) :
    (synchronisingWaitEnd s).pending = s.pending ∧ (synchronisingWaitEnd s).power = s.power ∧
    (synchronisingWaitEnd s).pins = s.pins ∧ (synchronisingWaitEnd s).configStore = s.configStore ∧
    (synchronisingWaitEnd s).flash = s.flash ∧ (synchronisingWaitEnd s).station = s.station ∧
    (synchronisingWaitEnd s).image = s.image ∧ (synchronisingWaitEnd s).timebase = s.timebase ∧
    (synchronisingWaitEnd s).cues = s.cues ∧ (synchronisingWaitEnd s).conditions = s.conditions ∧
    (synchronisingWaitEnd s).look = s.look ∧ (synchronisingWaitEnd s).fade = s.fade ∧
    (synchronisingWaitEnd s).store = s.store ∧ (synchronisingWaitEnd s).protection = s.protection ∧
    (synchronisingWaitEnd s).wall = s.wall ∧ (synchronisingWaitEnd s).budget = s.budget ∧
    (synchronisingWaitEnd s).setup = s.setup ∧ (synchronisingWaitEnd s).flags = s.flags ∧
    (synchronisingWaitEnd s).counters = s.counters ∧ (synchronisingWaitEnd s).transit = s.transit ∧
    (synchronisingWaitEnd s).freeIndex = s.freeIndex := by
  unfold synchronisingWaitEnd; split <;> simp

@[simp] theorem startPattern_keeps (slots : Nat) (s : State) :
    (startPattern slots s).pending = s.pending ∧ (startPattern slots s).power = s.power ∧
    (startPattern slots s).pins = s.pins ∧ (startPattern slots s).configStore = s.configStore ∧
    (startPattern slots s).flash = s.flash ∧ (startPattern slots s).station = s.station ∧
    (startPattern slots s).image = s.image ∧ (startPattern slots s).timebase = s.timebase ∧
    (startPattern slots s).cues = s.cues ∧ (startPattern slots s).conditions = s.conditions ∧
    (startPattern slots s).look = s.look ∧ (startPattern slots s).fade = s.fade ∧
    (startPattern slots s).store = s.store ∧ (startPattern slots s).protection = s.protection ∧
    (startPattern slots s).wall = s.wall ∧ (startPattern slots s).budget = s.budget ∧
    (startPattern slots s).setup = s.setup ∧ (startPattern slots s).flags = s.flags ∧
    (startPattern slots s).counters = s.counters ∧ (startPattern slots s).transit = s.transit ∧
    (startPattern slots s).freeIndex = s.freeIndex := by
  unfold startPattern; (repeat' split) <;> simp

@[simp] theorem startPatternError_keeps (s : State) :
    (startPatternError s).pending = s.pending ∧ (startPatternError s).power = s.power ∧
    (startPatternError s).pins = s.pins ∧ (startPatternError s).configStore = s.configStore ∧
    (startPatternError s).flash = s.flash ∧ (startPatternError s).station = s.station ∧
    (startPatternError s).image = s.image ∧ (startPatternError s).timebase = s.timebase ∧
    (startPatternError s).cues = s.cues ∧ (startPatternError s).conditions = s.conditions ∧
    (startPatternError s).look = s.look ∧ (startPatternError s).fade = s.fade ∧
    (startPatternError s).store = s.store ∧ (startPatternError s).protection = s.protection ∧
    (startPatternError s).wall = s.wall ∧ (startPatternError s).budget = s.budget ∧
    (startPatternError s).setup = s.setup ∧ (startPatternError s).flags = s.flags ∧
    (startPatternError s).counters = s.counters ∧ (startPatternError s).transit = s.transit ∧
    (startPatternError s).freeIndex = s.freeIndex := by
  unfold startPatternError; split <;> simp

@[simp] theorem framingError_keeps (s : State) :
    (framingError s).pending = s.pending ∧ (framingError s).power = s.power ∧
    (framingError s).pins = s.pins ∧ (framingError s).configStore = s.configStore ∧
    (framingError s).flash = s.flash ∧ (framingError s).station = s.station ∧
    (framingError s).image = s.image ∧ (framingError s).timebase = s.timebase ∧
    (framingError s).cues = s.cues ∧ (framingError s).conditions = s.conditions ∧
    (framingError s).look = s.look ∧ (framingError s).fade = s.fade ∧ (framingError s).store = s.store ∧
    (framingError s).protection = s.protection ∧ (framingError s).wall = s.wall ∧
    (framingError s).budget = s.budget ∧ (framingError s).setup = s.setup ∧
    (framingError s).flags = s.flags ∧ (framingError s).transit = s.transit ∧
    (framingError s).freeIndex = s.freeIndex := by
  unfold framingError; split <;> simp

@[simp] theorem attemptStart_keeps (s : State) :
    (attemptStart s).pending = s.pending ∧ (attemptStart s).power = s.power ∧
    (attemptStart s).pins = s.pins ∧ (attemptStart s).configStore = s.configStore ∧
    (attemptStart s).flash = s.flash ∧ (attemptStart s).station = s.station ∧
    (attemptStart s).image = s.image ∧ (attemptStart s).timebase = s.timebase ∧
    (attemptStart s).cues = s.cues ∧ (attemptStart s).conditions = s.conditions ∧
    (attemptStart s).look = s.look ∧ (attemptStart s).fade = s.fade ∧ (attemptStart s).store = s.store ∧
    (attemptStart s).protection = s.protection ∧ (attemptStart s).wall = s.wall ∧
    (attemptStart s).budget = s.budget ∧ (attemptStart s).setup = s.setup ∧
    (attemptStart s).flags = s.flags ∧ (attemptStart s).counters = s.counters ∧
    (attemptStart s).transit = s.transit ∧ (attemptStart s).freeIndex = s.freeIndex := by
  unfold attemptStart; (repeat' split) <;> simp

@[simp] theorem lineRestarted_keeps (s : State) :
    (lineRestarted s).pending = s.pending ∧ (lineRestarted s).power = s.power ∧
    (lineRestarted s).pins = s.pins ∧ (lineRestarted s).configStore = s.configStore ∧
    (lineRestarted s).flash = s.flash ∧ (lineRestarted s).station = s.station ∧
    (lineRestarted s).image = s.image ∧ (lineRestarted s).timebase = s.timebase ∧
    (lineRestarted s).cues = s.cues ∧ (lineRestarted s).conditions = s.conditions ∧
    (lineRestarted s).look = s.look ∧ (lineRestarted s).fade = s.fade ∧ (lineRestarted s).store = s.store ∧
    (lineRestarted s).protection = s.protection ∧ (lineRestarted s).wall = s.wall ∧
    (lineRestarted s).budget = s.budget ∧ (lineRestarted s).setup = s.setup ∧
    (lineRestarted s).flags = s.flags ∧ (lineRestarted s).transit = s.transit ∧
    (lineRestarted s).freeIndex = s.freeIndex := by
  unfold lineRestarted; simp

@[simp] theorem discardHead_keeps (e : TxEntry) (es : List TxEntry) (s : State) :
    (discardHead e es s).pending = s.pending ∧ (discardHead e es s).power = s.power ∧
    (discardHead e es s).pins = s.pins ∧ (discardHead e es s).configStore = s.configStore ∧
    (discardHead e es s).flash = s.flash ∧ (discardHead e es s).station = s.station ∧
    (discardHead e es s).image = s.image ∧ (discardHead e es s).timebase = s.timebase ∧
    (discardHead e es s).cues = s.cues ∧ (discardHead e es s).conditions = s.conditions ∧
    (discardHead e es s).look = s.look ∧ (discardHead e es s).fade = s.fade ∧
    (discardHead e es s).store = s.store ∧ (discardHead e es s).protection = s.protection ∧
    (discardHead e es s).wall = s.wall ∧ (discardHead e es s).budget = s.budget ∧
    (discardHead e es s).setup = s.setup ∧ (discardHead e es s).transit = s.transit ∧
    (discardHead e es s).freeIndex = s.freeIndex := by
  unfold discardHead; simp

@[simp] theorem backOff_keeps (e : TxEntry) (es : List TxEntry) (s : State) :
    (backOff e es s).pending = s.pending ∧ (backOff e es s).power = s.power ∧
    (backOff e es s).pins = s.pins ∧ (backOff e es s).configStore = s.configStore ∧
    (backOff e es s).flash = s.flash ∧ (backOff e es s).station = s.station ∧
    (backOff e es s).image = s.image ∧ (backOff e es s).timebase = s.timebase ∧
    (backOff e es s).cues = s.cues ∧ (backOff e es s).conditions = s.conditions ∧
    (backOff e es s).look = s.look ∧ (backOff e es s).fade = s.fade ∧ (backOff e es s).store = s.store ∧
    (backOff e es s).protection = s.protection ∧ (backOff e es s).wall = s.wall ∧
    (backOff e es s).budget = s.budget ∧ (backOff e es s).setup = s.setup ∧
    (backOff e es s).flags = s.flags ∧ (backOff e es s).counters = s.counters ∧
    (backOff e es s).transit = s.transit ∧ (backOff e es s).freeIndex = s.freeIndex := by
  unfold backOff; simp

@[simp] theorem attemptLost_keeps (s : State) :
    (attemptLost s).pending = s.pending ∧ (attemptLost s).power = s.power ∧ (attemptLost s).pins = s.pins ∧
    (attemptLost s).configStore = s.configStore ∧ (attemptLost s).flash = s.flash ∧
    (attemptLost s).station = s.station ∧ (attemptLost s).image = s.image ∧
    (attemptLost s).timebase = s.timebase ∧ (attemptLost s).cues = s.cues ∧
    (attemptLost s).conditions = s.conditions ∧ (attemptLost s).look = s.look ∧
    (attemptLost s).fade = s.fade ∧ (attemptLost s).store = s.store ∧
    (attemptLost s).protection = s.protection ∧ (attemptLost s).wall = s.wall ∧
    (attemptLost s).budget = s.budget ∧ (attemptLost s).setup = s.setup ∧
    (attemptLost s).transit = s.transit ∧ (attemptLost s).freeIndex = s.freeIndex := by
  unfold attemptLost; (repeat' split) <;> simp

@[simp] theorem attemptWon_keeps (s : State) :
    (attemptWon s).pending = s.pending ∧ (attemptWon s).power = s.power ∧ (attemptWon s).pins = s.pins ∧
    (attemptWon s).configStore = s.configStore ∧ (attemptWon s).flash = s.flash ∧
    (attemptWon s).station = s.station ∧ (attemptWon s).image = s.image ∧
    (attemptWon s).timebase = s.timebase ∧ (attemptWon s).cues = s.cues ∧
    (attemptWon s).conditions = s.conditions ∧ (attemptWon s).look = s.look ∧
    (attemptWon s).fade = s.fade ∧ (attemptWon s).store = s.store ∧
    (attemptWon s).protection = s.protection ∧ (attemptWon s).wall = s.wall ∧
    (attemptWon s).budget = s.budget ∧ (attemptWon s).setup = s.setup ∧
    (attemptWon s).transit = s.transit ∧ (attemptWon s).freeIndex = s.freeIndex := by
  unfold attemptWon; (repeat' split) <;> simp

@[simp] theorem backoffWaitEnd_keeps (s : State) :
    (backoffWaitEnd s).pending = s.pending ∧ (backoffWaitEnd s).power = s.power ∧
    (backoffWaitEnd s).pins = s.pins ∧ (backoffWaitEnd s).configStore = s.configStore ∧
    (backoffWaitEnd s).flash = s.flash ∧ (backoffWaitEnd s).station = s.station ∧
    (backoffWaitEnd s).image = s.image ∧ (backoffWaitEnd s).timebase = s.timebase ∧
    (backoffWaitEnd s).cues = s.cues ∧ (backoffWaitEnd s).conditions = s.conditions ∧
    (backoffWaitEnd s).look = s.look ∧ (backoffWaitEnd s).fade = s.fade ∧
    (backoffWaitEnd s).store = s.store ∧ (backoffWaitEnd s).protection = s.protection ∧
    (backoffWaitEnd s).wall = s.wall ∧ (backoffWaitEnd s).budget = s.budget ∧
    (backoffWaitEnd s).setup = s.setup ∧ (backoffWaitEnd s).flags = s.flags ∧
    (backoffWaitEnd s).counters = s.counters ∧ (backoffWaitEnd s).transit = s.transit ∧
    (backoffWaitEnd s).freeIndex = s.freeIndex := by
  unfold backoffWaitEnd; split <;> simp

@[simp] theorem issueFrameStart_keeps (now : Nanos) (s : State) :
    (issueFrameStart now s).pending = s.pending ∧ (issueFrameStart now s).power = s.power ∧
    (issueFrameStart now s).pins = s.pins ∧ (issueFrameStart now s).configStore = s.configStore ∧
    (issueFrameStart now s).flash = s.flash ∧ (issueFrameStart now s).station = s.station ∧
    (issueFrameStart now s).image = s.image ∧ (issueFrameStart now s).line = s.line ∧
    (issueFrameStart now s).cues = s.cues ∧ (issueFrameStart now s).conditions = s.conditions ∧
    (issueFrameStart now s).look = s.look ∧ (issueFrameStart now s).fade = s.fade ∧
    (issueFrameStart now s).store = s.store ∧ (issueFrameStart now s).protection = s.protection ∧
    (issueFrameStart now s).wall = s.wall ∧ (issueFrameStart now s).budget = s.budget ∧
    (issueFrameStart now s).setup = s.setup ∧ (issueFrameStart now s).flags = s.flags ∧
    (issueFrameStart now s).freeIndex = s.freeIndex := by
  unfold issueFrameStart; simp

@[simp] theorem lockTimebase_keeps (now : Nanos) (s : State) :
    (lockTimebase now s).pending = s.pending ∧ (lockTimebase now s).power = s.power ∧
    (lockTimebase now s).pins = s.pins ∧ (lockTimebase now s).configStore = s.configStore ∧
    (lockTimebase now s).flash = s.flash ∧ (lockTimebase now s).station = s.station ∧
    (lockTimebase now s).image = s.image ∧ (lockTimebase now s).line = s.line ∧
    (lockTimebase now s).cues = s.cues ∧ (lockTimebase now s).conditions = s.conditions ∧
    (lockTimebase now s).look = s.look ∧ (lockTimebase now s).fade = s.fade ∧
    (lockTimebase now s).store = s.store ∧ (lockTimebase now s).protection = s.protection ∧
    (lockTimebase now s).wall = s.wall ∧ (lockTimebase now s).budget = s.budget ∧
    (lockTimebase now s).setup = s.setup ∧ (lockTimebase now s).flags = s.flags ∧
    (lockTimebase now s).freeIndex = s.freeIndex := by
  unfold lockTimebase; split <;> simp

@[simp] theorem pulseUnlocked_keeps (now : Nanos) (s : State) :
    (pulseUnlocked now s).pending = s.pending ∧ (pulseUnlocked now s).power = s.power ∧
    (pulseUnlocked now s).pins = s.pins ∧ (pulseUnlocked now s).configStore = s.configStore ∧
    (pulseUnlocked now s).flash = s.flash ∧ (pulseUnlocked now s).station = s.station ∧
    (pulseUnlocked now s).image = s.image ∧ (pulseUnlocked now s).line = s.line ∧
    (pulseUnlocked now s).cues = s.cues ∧ (pulseUnlocked now s).conditions = s.conditions ∧
    (pulseUnlocked now s).look = s.look ∧ (pulseUnlocked now s).fade = s.fade ∧
    (pulseUnlocked now s).store = s.store ∧ (pulseUnlocked now s).protection = s.protection ∧
    (pulseUnlocked now s).wall = s.wall ∧ (pulseUnlocked now s).budget = s.budget ∧
    (pulseUnlocked now s).setup = s.setup ∧ (pulseUnlocked now s).flags = s.flags ∧
    (pulseUnlocked now s).freeIndex = s.freeIndex := by
  unfold pulseUnlocked; (repeat' split) <;> simp

@[simp] theorem pulseLocked_keeps (now : Nanos) (s : State) :
    (pulseLocked now s).pending = s.pending ∧ (pulseLocked now s).power = s.power ∧
    (pulseLocked now s).pins = s.pins ∧ (pulseLocked now s).configStore = s.configStore ∧
    (pulseLocked now s).flash = s.flash ∧ (pulseLocked now s).station = s.station ∧
    (pulseLocked now s).image = s.image ∧ (pulseLocked now s).line = s.line ∧
    (pulseLocked now s).cues = s.cues ∧ (pulseLocked now s).conditions = s.conditions ∧
    (pulseLocked now s).look = s.look ∧ (pulseLocked now s).fade = s.fade ∧
    (pulseLocked now s).store = s.store ∧ (pulseLocked now s).protection = s.protection ∧
    (pulseLocked now s).wall = s.wall ∧ (pulseLocked now s).budget = s.budget ∧
    (pulseLocked now s).setup = s.setup ∧ (pulseLocked now s).flags = s.flags ∧
    (pulseLocked now s).freeIndex = s.freeIndex := by
  unfold pulseLocked; (repeat' split) <;> simp

@[simp] theorem genlockPulse_keeps (now : Nanos) (s : State) :
    (genlockPulse now s).pending = s.pending ∧ (genlockPulse now s).power = s.power ∧
    (genlockPulse now s).pins = s.pins ∧ (genlockPulse now s).configStore = s.configStore ∧
    (genlockPulse now s).flash = s.flash ∧ (genlockPulse now s).station = s.station ∧
    (genlockPulse now s).image = s.image ∧ (genlockPulse now s).line = s.line ∧
    (genlockPulse now s).cues = s.cues ∧ (genlockPulse now s).conditions = s.conditions ∧
    (genlockPulse now s).look = s.look ∧ (genlockPulse now s).fade = s.fade ∧
    (genlockPulse now s).store = s.store ∧ (genlockPulse now s).protection = s.protection ∧
    (genlockPulse now s).wall = s.wall ∧ (genlockPulse now s).budget = s.budget ∧
    (genlockPulse now s).setup = s.setup ∧ (genlockPulse now s).flags = s.flags ∧
    (genlockPulse now s).freeIndex = s.freeIndex := by
  unfold genlockPulse; (repeat' split) <;> simp

@[simp] theorem lossDeadline_keeps (s : State) :
    (lossDeadline s).pending = s.pending ∧ (lossDeadline s).power = s.power ∧
    (lossDeadline s).pins = s.pins ∧ (lossDeadline s).configStore = s.configStore ∧
    (lossDeadline s).flash = s.flash ∧ (lossDeadline s).station = s.station ∧
    (lossDeadline s).image = s.image ∧ (lossDeadline s).line = s.line ∧ (lossDeadline s).cues = s.cues ∧
    (lossDeadline s).conditions = s.conditions ∧ (lossDeadline s).look = s.look ∧
    (lossDeadline s).fade = s.fade ∧ (lossDeadline s).store = s.store ∧
    (lossDeadline s).protection = s.protection ∧ (lossDeadline s).wall = s.wall ∧
    (lossDeadline s).budget = s.budget ∧ (lossDeadline s).setup = s.setup ∧
    (lossDeadline s).flags = s.flags ∧ (lossDeadline s).freeIndex = s.freeIndex := by
  unfold lossDeadline; split <;> simp

@[simp] theorem internalTimerExpiry_keeps (s : State) :
    (internalTimerExpiry s).pending = s.pending ∧ (internalTimerExpiry s).power = s.power ∧
    (internalTimerExpiry s).pins = s.pins ∧ (internalTimerExpiry s).configStore = s.configStore ∧
    (internalTimerExpiry s).flash = s.flash ∧ (internalTimerExpiry s).station = s.station ∧
    (internalTimerExpiry s).image = s.image ∧ (internalTimerExpiry s).line = s.line ∧
    (internalTimerExpiry s).cues = s.cues ∧ (internalTimerExpiry s).conditions = s.conditions ∧
    (internalTimerExpiry s).look = s.look ∧ (internalTimerExpiry s).fade = s.fade ∧
    (internalTimerExpiry s).store = s.store ∧ (internalTimerExpiry s).protection = s.protection ∧
    (internalTimerExpiry s).wall = s.wall ∧ (internalTimerExpiry s).budget = s.budget ∧
    (internalTimerExpiry s).setup = s.setup ∧ (internalTimerExpiry s).flags = s.flags ∧
    (internalTimerExpiry s).freeIndex = s.freeIndex := by
  unfold internalTimerExpiry; split <;> simp

@[simp] theorem seekEnd_keeps (s : State) :
    (seekEnd s).pending = s.pending ∧ (seekEnd s).power = s.power ∧ (seekEnd s).pins = s.pins ∧
    (seekEnd s).configStore = s.configStore ∧ (seekEnd s).flash = s.flash ∧
    (seekEnd s).station = s.station ∧ (seekEnd s).image = s.image ∧ (seekEnd s).line = s.line ∧
    (seekEnd s).cues = s.cues ∧ (seekEnd s).conditions = s.conditions ∧ (seekEnd s).look = s.look ∧
    (seekEnd s).fade = s.fade ∧ (seekEnd s).store = s.store ∧ (seekEnd s).protection = s.protection ∧
    (seekEnd s).wall = s.wall ∧ (seekEnd s).budget = s.budget ∧ (seekEnd s).setup = s.setup ∧
    (seekEnd s).flags = s.flags ∧ (seekEnd s).counters = s.counters ∧ (seekEnd s).freeIndex = s.freeIndex := by
  unfold seekEnd; (repeat' split) <;> simp

@[simp] theorem takeTime_keeps (m : Message) (s : State) :
    (takeTime m s).pending = s.pending ∧ (takeTime m s).power = s.power ∧ (takeTime m s).pins = s.pins ∧
    (takeTime m s).configStore = s.configStore ∧ (takeTime m s).flash = s.flash ∧
    (takeTime m s).station = s.station ∧ (takeTime m s).image = s.image ∧ (takeTime m s).line = s.line ∧
    (takeTime m s).cues = s.cues ∧ (takeTime m s).conditions = s.conditions ∧
    (takeTime m s).look = s.look ∧ (takeTime m s).fade = s.fade ∧ (takeTime m s).store = s.store ∧
    (takeTime m s).protection = s.protection ∧ (takeTime m s).wall = s.wall ∧
    (takeTime m s).budget = s.budget ∧ (takeTime m s).setup = s.setup ∧ (takeTime m s).flags = s.flags ∧
    (takeTime m s).counters = s.counters ∧ (takeTime m s).transit = s.transit ∧
    (takeTime m s).freeIndex = s.freeIndex := by
  unfold takeTime; split <;> simp

@[simp] theorem acceptCue_keeps (r : CueRecord) (s : State) :
    (acceptCue r s).pending = s.pending ∧ (acceptCue r s).power = s.power ∧ (acceptCue r s).pins = s.pins ∧
    (acceptCue r s).configStore = s.configStore ∧ (acceptCue r s).flash = s.flash ∧
    (acceptCue r s).station = s.station ∧ (acceptCue r s).image = s.image ∧
    (acceptCue r s).timebase = s.timebase ∧ (acceptCue r s).line = s.line ∧
    (acceptCue r s).conditions = s.conditions ∧ (acceptCue r s).look = s.look ∧
    (acceptCue r s).fade = s.fade ∧ (acceptCue r s).store = s.store ∧
    (acceptCue r s).protection = s.protection ∧ (acceptCue r s).wall = s.wall ∧
    (acceptCue r s).budget = s.budget ∧ (acceptCue r s).setup = s.setup ∧ (acceptCue r s).flags = s.flags ∧
    (acceptCue r s).transit = s.transit ∧ (acceptCue r s).freeIndex = s.freeIndex := by
  unfold acceptCue; (repeat' split) <;> simp

@[simp] theorem cancelCue_keeps (c : CueId) (s : State) :
    (cancelCue c s).pending = s.pending ∧ (cancelCue c s).power = s.power ∧ (cancelCue c s).pins = s.pins ∧
    (cancelCue c s).configStore = s.configStore ∧ (cancelCue c s).flash = s.flash ∧
    (cancelCue c s).station = s.station ∧ (cancelCue c s).image = s.image ∧
    (cancelCue c s).timebase = s.timebase ∧ (cancelCue c s).line = s.line ∧
    (cancelCue c s).conditions = s.conditions ∧ (cancelCue c s).look = s.look ∧
    (cancelCue c s).fade = s.fade ∧ (cancelCue c s).store = s.store ∧
    (cancelCue c s).protection = s.protection ∧ (cancelCue c s).wall = s.wall ∧
    (cancelCue c s).budget = s.budget ∧ (cancelCue c s).setup = s.setup ∧ (cancelCue c s).flags = s.flags ∧
    (cancelCue c s).transit = s.transit ∧ (cancelCue c s).freeIndex = s.freeIndex := by
  unfold cancelCue; split <;> simp

@[simp] theorem takeCue_keeps (m : Message) (s : State) :
    (takeCue m s).pending = s.pending ∧ (takeCue m s).power = s.power ∧ (takeCue m s).pins = s.pins ∧
    (takeCue m s).configStore = s.configStore ∧ (takeCue m s).flash = s.flash ∧
    (takeCue m s).station = s.station ∧ (takeCue m s).image = s.image ∧
    (takeCue m s).timebase = s.timebase ∧ (takeCue m s).line = s.line ∧
    (takeCue m s).conditions = s.conditions ∧ (takeCue m s).look = s.look ∧ (takeCue m s).fade = s.fade ∧
    (takeCue m s).store = s.store ∧ (takeCue m s).protection = s.protection ∧ (takeCue m s).wall = s.wall ∧
    (takeCue m s).budget = s.budget ∧ (takeCue m s).setup = s.setup ∧ (takeCue m s).flags = s.flags ∧
    (takeCue m s).transit = s.transit ∧ (takeCue m s).freeIndex = s.freeIndex := by
  unfold takeCue; dsimp only; (repeat' split) <;> simp

@[simp] theorem takeDue_keeps (s : State) :
    (takeDue s).pending = s.pending ∧ (takeDue s).power = s.power ∧ (takeDue s).pins = s.pins ∧
    (takeDue s).configStore = s.configStore ∧ (takeDue s).flash = s.flash ∧
    (takeDue s).station = s.station ∧ (takeDue s).image = s.image ∧ (takeDue s).timebase = s.timebase ∧
    (takeDue s).line = s.line ∧ (takeDue s).conditions = s.conditions ∧ (takeDue s).look = s.look ∧
    (takeDue s).fade = s.fade ∧ (takeDue s).store = s.store ∧ (takeDue s).protection = s.protection ∧
    (takeDue s).wall = s.wall ∧ (takeDue s).budget = s.budget ∧ (takeDue s).setup = s.setup ∧
    (takeDue s).flags = s.flags ∧ (takeDue s).freeIndex = s.freeIndex := by
  unfold takeDue; simp

@[simp] theorem removeStale_keeps (s : State) :
    (removeStale s).pending = s.pending ∧ (removeStale s).power = s.power ∧ (removeStale s).pins = s.pins ∧
    (removeStale s).configStore = s.configStore ∧ (removeStale s).flash = s.flash ∧
    (removeStale s).station = s.station ∧ (removeStale s).image = s.image ∧
    (removeStale s).timebase = s.timebase ∧ (removeStale s).line = s.line ∧
    (removeStale s).conditions = s.conditions ∧ (removeStale s).look = s.look ∧
    (removeStale s).fade = s.fade ∧ (removeStale s).store = s.store ∧
    (removeStale s).protection = s.protection ∧ (removeStale s).wall = s.wall ∧
    (removeStale s).budget = s.budget ∧ (removeStale s).setup = s.setup ∧ (removeStale s).flags = s.flags ∧
    (removeStale s).transit = s.transit ∧ (removeStale s).freeIndex = s.freeIndex := by
  unfold removeStale; simp

@[simp] theorem removeOutrun_keeps (e : FrameEvent) (s : State) :
    (removeOutrun e s).pending = s.pending ∧ (removeOutrun e s).power = s.power ∧
    (removeOutrun e s).pins = s.pins ∧ (removeOutrun e s).configStore = s.configStore ∧
    (removeOutrun e s).flash = s.flash ∧ (removeOutrun e s).station = s.station ∧
    (removeOutrun e s).image = s.image ∧ (removeOutrun e s).timebase = s.timebase ∧
    (removeOutrun e s).line = s.line ∧ (removeOutrun e s).conditions = s.conditions ∧
    (removeOutrun e s).look = s.look ∧ (removeOutrun e s).fade = s.fade ∧
    (removeOutrun e s).store = s.store ∧ (removeOutrun e s).protection = s.protection ∧
    (removeOutrun e s).wall = s.wall ∧ (removeOutrun e s).budget = s.budget ∧
    (removeOutrun e s).setup = s.setup ∧ (removeOutrun e s).flags = s.flags ∧
    (removeOutrun e s).transit = s.transit ∧ (removeOutrun e s).freeIndex = s.freeIndex := by
  unfold removeOutrun; split <;> simp [setRecords]

@[simp] theorem ageRecords_keeps (e : FrameEvent) (s : State) :
    (ageRecords e s).pending = s.pending ∧ (ageRecords e s).power = s.power ∧
    (ageRecords e s).pins = s.pins ∧ (ageRecords e s).configStore = s.configStore ∧
    (ageRecords e s).flash = s.flash ∧ (ageRecords e s).station = s.station ∧
    (ageRecords e s).image = s.image ∧ (ageRecords e s).timebase = s.timebase ∧
    (ageRecords e s).line = s.line ∧ (ageRecords e s).conditions = s.conditions ∧
    (ageRecords e s).look = s.look ∧ (ageRecords e s).fade = s.fade ∧ (ageRecords e s).store = s.store ∧
    (ageRecords e s).protection = s.protection ∧ (ageRecords e s).wall = s.wall ∧
    (ageRecords e s).budget = s.budget ∧ (ageRecords e s).setup = s.setup ∧
    (ageRecords e s).flags = s.flags ∧ (ageRecords e s).counters = s.counters ∧
    (ageRecords e s).transit = s.transit ∧ (ageRecords e s).freeIndex = s.freeIndex := by
  unfold ageRecords; simp

@[simp] theorem cueFrame_keeps (e : FrameEvent) (s : State) :
    (cueFrame e s).pending = s.pending ∧ (cueFrame e s).power = s.power ∧ (cueFrame e s).pins = s.pins ∧
    (cueFrame e s).configStore = s.configStore ∧ (cueFrame e s).flash = s.flash ∧
    (cueFrame e s).station = s.station ∧ (cueFrame e s).image = s.image ∧
    (cueFrame e s).timebase = s.timebase ∧ (cueFrame e s).line = s.line ∧
    (cueFrame e s).conditions = s.conditions ∧ (cueFrame e s).look = s.look ∧
    (cueFrame e s).fade = s.fade ∧ (cueFrame e s).store = s.store ∧
    (cueFrame e s).protection = s.protection ∧ (cueFrame e s).wall = s.wall ∧
    (cueFrame e s).budget = s.budget ∧ (cueFrame e s).setup = s.setup ∧ (cueFrame e s).flags = s.flags ∧
    (cueFrame e s).freeIndex = s.freeIndex := by
  unfold cueFrame; dsimp only; (repeat' split) <;> simp

@[simp] theorem cueListFrameStart_keeps (s : State) :
    (cueListFrameStart s).pending = s.pending ∧ (cueListFrameStart s).power = s.power ∧
    (cueListFrameStart s).pins = s.pins ∧ (cueListFrameStart s).configStore = s.configStore ∧
    (cueListFrameStart s).flash = s.flash ∧ (cueListFrameStart s).station = s.station ∧
    (cueListFrameStart s).image = s.image ∧ (cueListFrameStart s).timebase = s.timebase ∧
    (cueListFrameStart s).line = s.line ∧ (cueListFrameStart s).conditions = s.conditions ∧
    (cueListFrameStart s).look = s.look ∧ (cueListFrameStart s).fade = s.fade ∧
    (cueListFrameStart s).store = s.store ∧ (cueListFrameStart s).protection = s.protection ∧
    (cueListFrameStart s).wall = s.wall ∧ (cueListFrameStart s).budget = s.budget ∧
    (cueListFrameStart s).setup = s.setup ∧ (cueListFrameStart s).flags = s.flags ∧
    (cueListFrameStart s).freeIndex = s.freeIndex := by
  unfold cueListFrameStart; split <;> simp

@[simp] theorem runNoticeCueList_keeps (s : State) :
    (runNoticeCueList s).pending = s.pending ∧ (runNoticeCueList s).power = s.power ∧
    (runNoticeCueList s).pins = s.pins ∧ (runNoticeCueList s).configStore = s.configStore ∧
    (runNoticeCueList s).flash = s.flash ∧ (runNoticeCueList s).station = s.station ∧
    (runNoticeCueList s).image = s.image ∧ (runNoticeCueList s).timebase = s.timebase ∧
    (runNoticeCueList s).line = s.line ∧ (runNoticeCueList s).conditions = s.conditions ∧
    (runNoticeCueList s).look = s.look ∧ (runNoticeCueList s).fade = s.fade ∧
    (runNoticeCueList s).store = s.store ∧ (runNoticeCueList s).protection = s.protection ∧
    (runNoticeCueList s).wall = s.wall ∧ (runNoticeCueList s).budget = s.budget ∧
    (runNoticeCueList s).setup = s.setup ∧ (runNoticeCueList s).flags = s.flags ∧
    (runNoticeCueList s).freeIndex = s.freeIndex := by
  unfold runNoticeCueList; (repeat' split) <;> simp

@[simp] theorem actOnCondition_keeps (c : ConditionNo) (v : Bool) (source : StationNo) (s : State) :
    (actOnCondition c v source s).pending = s.pending ∧ (actOnCondition c v source s).power = s.power ∧
    (actOnCondition c v source s).pins = s.pins ∧
    (actOnCondition c v source s).configStore = s.configStore ∧
    (actOnCondition c v source s).flash = s.flash ∧ (actOnCondition c v source s).station = s.station ∧
    (actOnCondition c v source s).image = s.image ∧ (actOnCondition c v source s).timebase = s.timebase ∧
    (actOnCondition c v source s).line = s.line ∧ (actOnCondition c v source s).cues = s.cues ∧
    (actOnCondition c v source s).look = s.look ∧ (actOnCondition c v source s).fade = s.fade ∧
    (actOnCondition c v source s).store = s.store ∧
    (actOnCondition c v source s).protection = s.protection ∧ (actOnCondition c v source s).wall = s.wall ∧
    (actOnCondition c v source s).budget = s.budget ∧ (actOnCondition c v source s).setup = s.setup ∧
    (actOnCondition c v source s).flags = s.flags ∧ (actOnCondition c v source s).counters = s.counters ∧
    (actOnCondition c v source s).freeIndex = s.freeIndex := by
  unfold actOnCondition; dsimp only; (repeat' split) <;> simp

@[simp] theorem takeCond_keeps (m : Message) (s : State) :
    (takeCond m s).pending = s.pending ∧ (takeCond m s).power = s.power ∧ (takeCond m s).pins = s.pins ∧
    (takeCond m s).configStore = s.configStore ∧ (takeCond m s).flash = s.flash ∧
    (takeCond m s).station = s.station ∧ (takeCond m s).image = s.image ∧
    (takeCond m s).timebase = s.timebase ∧ (takeCond m s).line = s.line ∧ (takeCond m s).cues = s.cues ∧
    (takeCond m s).look = s.look ∧ (takeCond m s).fade = s.fade ∧ (takeCond m s).store = s.store ∧
    (takeCond m s).protection = s.protection ∧ (takeCond m s).wall = s.wall ∧
    (takeCond m s).budget = s.budget ∧ (takeCond m s).setup = s.setup ∧ (takeCond m s).flags = s.flags ∧
    (takeCond m s).freeIndex = s.freeIndex := by
  unfold takeCond; split <;> simp

@[simp] theorem cinEdge_keeps (pin : Fin 4) (level : Bool) (now : Nanos) (s : State) :
    (cinEdge pin level now s).pending = s.pending ∧ (cinEdge pin level now s).power = s.power ∧
    (cinEdge pin level now s).configStore = s.configStore ∧ (cinEdge pin level now s).flash = s.flash ∧
    (cinEdge pin level now s).station = s.station ∧ (cinEdge pin level now s).image = s.image ∧
    (cinEdge pin level now s).timebase = s.timebase ∧ (cinEdge pin level now s).line = s.line ∧
    (cinEdge pin level now s).cues = s.cues ∧ (cinEdge pin level now s).look = s.look ∧
    (cinEdge pin level now s).fade = s.fade ∧ (cinEdge pin level now s).store = s.store ∧
    (cinEdge pin level now s).protection = s.protection ∧ (cinEdge pin level now s).wall = s.wall ∧
    (cinEdge pin level now s).budget = s.budget ∧ (cinEdge pin level now s).setup = s.setup ∧
    (cinEdge pin level now s).flags = s.flags ∧ (cinEdge pin level now s).counters = s.counters ∧
    (cinEdge pin level now s).transit = s.transit ∧ (cinEdge pin level now s).freeIndex = s.freeIndex := by
  unfold cinEdge; (repeat' split) <;> simp

@[simp] theorem pinChange_keeps (c : ConditionNo) (level : Bool) (s : State) :
    (pinChange c level s).pending = s.pending ∧ (pinChange c level s).power = s.power ∧
    (pinChange c level s).pins = s.pins ∧ (pinChange c level s).configStore = s.configStore ∧
    (pinChange c level s).flash = s.flash ∧ (pinChange c level s).station = s.station ∧
    (pinChange c level s).image = s.image ∧ (pinChange c level s).timebase = s.timebase ∧
    (pinChange c level s).cues = s.cues ∧ (pinChange c level s).look = s.look ∧
    (pinChange c level s).fade = s.fade ∧ (pinChange c level s).store = s.store ∧
    (pinChange c level s).protection = s.protection ∧ (pinChange c level s).wall = s.wall ∧
    (pinChange c level s).budget = s.budget ∧ (pinChange c level s).setup = s.setup ∧
    (pinChange c level s).flags = s.flags ∧ (pinChange c level s).freeIndex = s.freeIndex := by
  unfold pinChange; simp

@[simp] theorem debouncedChange_keeps (pin : Fin 4) (s : State) :
    (debouncedChange pin s).pending = s.pending ∧ (debouncedChange pin s).power = s.power ∧
    (debouncedChange pin s).pins = s.pins ∧ (debouncedChange pin s).configStore = s.configStore ∧
    (debouncedChange pin s).flash = s.flash ∧ (debouncedChange pin s).station = s.station ∧
    (debouncedChange pin s).image = s.image ∧ (debouncedChange pin s).timebase = s.timebase ∧
    (debouncedChange pin s).cues = s.cues ∧ (debouncedChange pin s).look = s.look ∧
    (debouncedChange pin s).fade = s.fade ∧ (debouncedChange pin s).store = s.store ∧
    (debouncedChange pin s).protection = s.protection ∧ (debouncedChange pin s).wall = s.wall ∧
    (debouncedChange pin s).budget = s.budget ∧ (debouncedChange pin s).setup = s.setup ∧
    (debouncedChange pin s).flags = s.flags ∧ (debouncedChange pin s).freeIndex = s.freeIndex := by
  unfold debouncedChange; (repeat' split) <;> simp

@[simp] theorem samplePin_keeps (pin : Fin 4) (s : State) :
    (samplePin pin s).pending = s.pending ∧ (samplePin pin s).power = s.power ∧
    (samplePin pin s).pins = s.pins ∧ (samplePin pin s).configStore = s.configStore ∧
    (samplePin pin s).flash = s.flash ∧ (samplePin pin s).station = s.station ∧
    (samplePin pin s).image = s.image ∧ (samplePin pin s).timebase = s.timebase ∧
    (samplePin pin s).cues = s.cues ∧ (samplePin pin s).look = s.look ∧ (samplePin pin s).fade = s.fade ∧
    (samplePin pin s).store = s.store ∧ (samplePin pin s).protection = s.protection ∧
    (samplePin pin s).wall = s.wall ∧ (samplePin pin s).budget = s.budget ∧
    (samplePin pin s).setup = s.setup ∧ (samplePin pin s).flags = s.flags ∧
    (samplePin pin s).freeIndex = s.freeIndex := by
  unfold samplePin; (repeat' split) <;> simp

@[simp] theorem samplePins_keeps (s : State) :
    (samplePins s).pending = s.pending ∧ (samplePins s).power = s.power ∧ (samplePins s).pins = s.pins ∧
    (samplePins s).configStore = s.configStore ∧ (samplePins s).flash = s.flash ∧
    (samplePins s).station = s.station ∧ (samplePins s).image = s.image ∧
    (samplePins s).timebase = s.timebase ∧ (samplePins s).cues = s.cues ∧ (samplePins s).look = s.look ∧
    (samplePins s).fade = s.fade ∧ (samplePins s).store = s.store ∧
    (samplePins s).protection = s.protection ∧ (samplePins s).wall = s.wall ∧
    (samplePins s).budget = s.budget ∧ (samplePins s).setup = s.setup ∧ (samplePins s).flags = s.flags ∧
    (samplePins s).freeIndex = s.freeIndex := by
  unfold samplePins; simp

@[simp] theorem enterLook_keeps (l : LookNo) (cause : EntryCause) (s : State) :
    (enterLook l cause s).pending = s.pending ∧ (enterLook l cause s).power = s.power ∧
    (enterLook l cause s).pins = s.pins ∧ (enterLook l cause s).configStore = s.configStore ∧
    (enterLook l cause s).flash = s.flash ∧ (enterLook l cause s).station = s.station ∧
    (enterLook l cause s).image = s.image ∧ (enterLook l cause s).timebase = s.timebase ∧
    (enterLook l cause s).line = s.line ∧ (enterLook l cause s).cues = s.cues ∧
    (enterLook l cause s).conditions = s.conditions ∧ (enterLook l cause s).fade = s.fade ∧
    (enterLook l cause s).store = s.store ∧ (enterLook l cause s).protection = s.protection ∧
    (enterLook l cause s).wall = s.wall ∧ (enterLook l cause s).budget = s.budget ∧
    (enterLook l cause s).setup = s.setup ∧ (enterLook l cause s).flags = s.flags ∧
    (enterLook l cause s).freeIndex = s.freeIndex := by
  unfold enterLook; simp

@[simp] theorem considerTransition_keeps (s : State) :
    (considerTransition s).pending = s.pending ∧ (considerTransition s).power = s.power ∧
    (considerTransition s).pins = s.pins ∧ (considerTransition s).configStore = s.configStore ∧
    (considerTransition s).flash = s.flash ∧ (considerTransition s).station = s.station ∧
    (considerTransition s).image = s.image ∧ (considerTransition s).timebase = s.timebase ∧
    (considerTransition s).line = s.line ∧ (considerTransition s).cues = s.cues ∧
    (considerTransition s).conditions = s.conditions ∧ (considerTransition s).fade = s.fade ∧
    (considerTransition s).store = s.store ∧ (considerTransition s).protection = s.protection ∧
    (considerTransition s).wall = s.wall ∧ (considerTransition s).budget = s.budget ∧
    (considerTransition s).setup = s.setup ∧ (considerTransition s).flags = s.flags ∧
    (considerTransition s).freeIndex = s.freeIndex := by
  unfold considerTransition; split <;> simp

@[simp] theorem firstEntry_keeps (s : State) :
    (firstEntry s).pending = s.pending ∧ (firstEntry s).power = s.power ∧ (firstEntry s).pins = s.pins ∧
    (firstEntry s).configStore = s.configStore ∧ (firstEntry s).flash = s.flash ∧
    (firstEntry s).station = s.station ∧ (firstEntry s).image = s.image ∧
    (firstEntry s).timebase = s.timebase ∧ (firstEntry s).line = s.line ∧ (firstEntry s).cues = s.cues ∧
    (firstEntry s).conditions = s.conditions ∧ (firstEntry s).fade = s.fade ∧
    (firstEntry s).store = s.store ∧ (firstEntry s).protection = s.protection ∧
    (firstEntry s).wall = s.wall ∧ (firstEntry s).budget = s.budget ∧ (firstEntry s).setup = s.setup ∧
    (firstEntry s).flags = s.flags ∧ (firstEntry s).freeIndex = s.freeIndex := by
  unfold firstEntry; simp

@[simp] theorem lookFrame_keeps (e : FrameEvent) (s : State) :
    (lookFrame e s).pending = s.pending ∧ (lookFrame e s).power = s.power ∧ (lookFrame e s).pins = s.pins ∧
    (lookFrame e s).configStore = s.configStore ∧ (lookFrame e s).flash = s.flash ∧
    (lookFrame e s).station = s.station ∧ (lookFrame e s).image = s.image ∧
    (lookFrame e s).timebase = s.timebase ∧ (lookFrame e s).line = s.line ∧ (lookFrame e s).cues = s.cues ∧
    (lookFrame e s).conditions = s.conditions ∧ (lookFrame e s).fade = s.fade ∧
    (lookFrame e s).store = s.store ∧ (lookFrame e s).protection = s.protection ∧
    (lookFrame e s).wall = s.wall ∧ (lookFrame e s).budget = s.budget ∧ (lookFrame e s).setup = s.setup ∧
    (lookFrame e s).flags = s.flags ∧ (lookFrame e s).freeIndex = s.freeIndex := by
  unfold lookFrame; (repeat' split) <;> simp

@[simp] theorem lookFrameStart_keeps (s : State) :
    (lookFrameStart s).pending = s.pending ∧ (lookFrameStart s).power = s.power ∧
    (lookFrameStart s).pins = s.pins ∧ (lookFrameStart s).configStore = s.configStore ∧
    (lookFrameStart s).flash = s.flash ∧ (lookFrameStart s).station = s.station ∧
    (lookFrameStart s).image = s.image ∧ (lookFrameStart s).timebase = s.timebase ∧
    (lookFrameStart s).line = s.line ∧ (lookFrameStart s).cues = s.cues ∧
    (lookFrameStart s).conditions = s.conditions ∧ (lookFrameStart s).fade = s.fade ∧
    (lookFrameStart s).store = s.store ∧ (lookFrameStart s).protection = s.protection ∧
    (lookFrameStart s).wall = s.wall ∧ (lookFrameStart s).budget = s.budget ∧
    (lookFrameStart s).setup = s.setup ∧ (lookFrameStart s).flags = s.flags ∧
    (lookFrameStart s).freeIndex = s.freeIndex := by
  unfold lookFrameStart; split <;> simp

@[simp] theorem conditionChangeNotice_keeps (s : State) :
    (conditionChangeNotice s).pending = s.pending ∧ (conditionChangeNotice s).power = s.power ∧
    (conditionChangeNotice s).pins = s.pins ∧ (conditionChangeNotice s).configStore = s.configStore ∧
    (conditionChangeNotice s).flash = s.flash ∧ (conditionChangeNotice s).station = s.station ∧
    (conditionChangeNotice s).image = s.image ∧ (conditionChangeNotice s).timebase = s.timebase ∧
    (conditionChangeNotice s).line = s.line ∧ (conditionChangeNotice s).cues = s.cues ∧
    (conditionChangeNotice s).conditions = s.conditions ∧ (conditionChangeNotice s).fade = s.fade ∧
    (conditionChangeNotice s).store = s.store ∧ (conditionChangeNotice s).protection = s.protection ∧
    (conditionChangeNotice s).wall = s.wall ∧ (conditionChangeNotice s).budget = s.budget ∧
    (conditionChangeNotice s).setup = s.setup ∧ (conditionChangeNotice s).flags = s.flags ∧
    (conditionChangeNotice s).freeIndex = s.freeIndex := by
  unfold conditionChangeNotice; (repeat' split) <;> simp

@[simp] theorem holdConditions_keeps (s : State) :
    (holdConditions s).pending = s.pending ∧ (holdConditions s).power = s.power ∧
    (holdConditions s).pins = s.pins ∧ (holdConditions s).configStore = s.configStore ∧
    (holdConditions s).flash = s.flash ∧ (holdConditions s).station = s.station ∧
    (holdConditions s).image = s.image ∧ (holdConditions s).timebase = s.timebase ∧
    (holdConditions s).line = s.line ∧ (holdConditions s).cues = s.cues ∧
    (holdConditions s).conditions = s.conditions ∧ (holdConditions s).look = s.look ∧
    (holdConditions s).fade = s.fade ∧ (holdConditions s).store = s.store ∧
    (holdConditions s).protection = s.protection ∧ (holdConditions s).wall = s.wall ∧
    (holdConditions s).budget = s.budget ∧ (holdConditions s).setup = s.setup ∧
    (holdConditions s).flags = s.flags ∧ (holdConditions s).counters = s.counters ∧
    (holdConditions s).freeIndex = s.freeIndex := by
  unfold holdConditions; simp

@[simp] theorem runNoticeLook_keeps (s : State) :
    (runNoticeLook s).pending = s.pending ∧ (runNoticeLook s).power = s.power ∧
    (runNoticeLook s).pins = s.pins ∧ (runNoticeLook s).configStore = s.configStore ∧
    (runNoticeLook s).flash = s.flash ∧ (runNoticeLook s).station = s.station ∧
    (runNoticeLook s).image = s.image ∧ (runNoticeLook s).timebase = s.timebase ∧
    (runNoticeLook s).cues = s.cues ∧ (runNoticeLook s).fade = s.fade ∧ (runNoticeLook s).store = s.store ∧
    (runNoticeLook s).protection = s.protection ∧ (runNoticeLook s).wall = s.wall ∧
    (runNoticeLook s).budget = s.budget ∧ (runNoticeLook s).setup = s.setup ∧
    (runNoticeLook s).flags = s.flags ∧ (runNoticeLook s).freeIndex = s.freeIndex := by
  unfold runNoticeLook; (repeat' split) <;> simp

@[simp] theorem lookHome_keeps (s : State) :
    (lookHome s).pending = s.pending ∧ (lookHome s).power = s.power ∧ (lookHome s).pins = s.pins ∧
    (lookHome s).configStore = s.configStore ∧ (lookHome s).flash = s.flash ∧
    (lookHome s).station = s.station ∧ (lookHome s).image = s.image ∧ (lookHome s).timebase = s.timebase ∧
    (lookHome s).cues = s.cues ∧ (lookHome s).fade = s.fade ∧ (lookHome s).store = s.store ∧
    (lookHome s).protection = s.protection ∧ (lookHome s).wall = s.wall ∧ (lookHome s).budget = s.budget ∧
    (lookHome s).setup = s.setup ∧ (lookHome s).flags = s.flags ∧ (lookHome s).freeIndex = s.freeIndex := by
  unfold lookHome; (repeat' split) <;> simp

@[simp] theorem beginStartScan_keeps (s : State) :
    (beginStartScan s).pending = s.pending ∧ (beginStartScan s).power = s.power ∧
    (beginStartScan s).pins = s.pins ∧ (beginStartScan s).configStore = s.configStore ∧
    (beginStartScan s).station = s.station ∧ (beginStartScan s).image = s.image ∧
    (beginStartScan s).timebase = s.timebase ∧ (beginStartScan s).line = s.line ∧
    (beginStartScan s).cues = s.cues ∧ (beginStartScan s).conditions = s.conditions ∧
    (beginStartScan s).look = s.look ∧ (beginStartScan s).fade = s.fade ∧
    (beginStartScan s).protection = s.protection ∧ (beginStartScan s).wall = s.wall ∧
    (beginStartScan s).budget = s.budget ∧ (beginStartScan s).setup = s.setup ∧
    (beginStartScan s).flags = s.flags ∧ (beginStartScan s).counters = s.counters ∧
    (beginStartScan s).transit = s.transit ∧ (beginStartScan s).freeIndex = s.freeIndex := by
  unfold beginStartScan; simp

@[simp] theorem startScanEnd_keeps (s : State) :
    (startScanEnd s).pending = s.pending ∧ (startScanEnd s).power = s.power ∧
    (startScanEnd s).pins = s.pins ∧ (startScanEnd s).configStore = s.configStore ∧
    (startScanEnd s).flash = s.flash ∧ (startScanEnd s).station = s.station ∧
    (startScanEnd s).image = s.image ∧ (startScanEnd s).timebase = s.timebase ∧
    (startScanEnd s).line = s.line ∧ (startScanEnd s).cues = s.cues ∧
    (startScanEnd s).conditions = s.conditions ∧ (startScanEnd s).look = s.look ∧
    (startScanEnd s).fade = s.fade ∧ (startScanEnd s).protection = s.protection ∧
    (startScanEnd s).wall = s.wall ∧ (startScanEnd s).budget = s.budget ∧
    (startScanEnd s).setup = s.setup ∧ (startScanEnd s).flags = s.flags ∧
    (startScanEnd s).counters = s.counters ∧ (startScanEnd s).freeIndex = s.freeIndex := by
  unfold startScanEnd; (repeat' split) <;> simp

@[simp] theorem takePreset_keeps (m : Message) (s : State) :
    (takePreset m s).pending = s.pending ∧ (takePreset m s).power = s.power ∧
    (takePreset m s).pins = s.pins ∧ (takePreset m s).configStore = s.configStore ∧
    (takePreset m s).flash = s.flash ∧ (takePreset m s).station = s.station ∧
    (takePreset m s).image = s.image ∧ (takePreset m s).timebase = s.timebase ∧
    (takePreset m s).line = s.line ∧ (takePreset m s).cues = s.cues ∧
    (takePreset m s).conditions = s.conditions ∧ (takePreset m s).look = s.look ∧
    (takePreset m s).fade = s.fade ∧ (takePreset m s).protection = s.protection ∧
    (takePreset m s).wall = s.wall ∧ (takePreset m s).budget = s.budget ∧
    (takePreset m s).setup = s.setup ∧ (takePreset m s).flags = s.flags ∧
    (takePreset m s).transit = s.transit ∧ (takePreset m s).freeIndex = s.freeIndex := by
  unfold takePreset; dsimp only; (repeat' split) <;> simp

@[simp] theorem answerRead_keeps (tag : Nat) (kind : AnswerKind) (s : State) :
    (answerRead tag kind s).pending = s.pending ∧ (answerRead tag kind s).power = s.power ∧
    (answerRead tag kind s).pins = s.pins ∧ (answerRead tag kind s).configStore = s.configStore ∧
    (answerRead tag kind s).flash = s.flash ∧ (answerRead tag kind s).station = s.station ∧
    (answerRead tag kind s).image = s.image ∧ (answerRead tag kind s).timebase = s.timebase ∧
    (answerRead tag kind s).line = s.line ∧ (answerRead tag kind s).cues = s.cues ∧
    (answerRead tag kind s).conditions = s.conditions ∧ (answerRead tag kind s).look = s.look ∧
    (answerRead tag kind s).fade = s.fade ∧ (answerRead tag kind s).store = s.store ∧
    (answerRead tag kind s).protection = s.protection ∧ (answerRead tag kind s).wall = s.wall ∧
    (answerRead tag kind s).budget = s.budget ∧ (answerRead tag kind s).setup = s.setup ∧
    (answerRead tag kind s).flags = s.flags ∧ (answerRead tag kind s).counters = s.counters ∧
    (answerRead tag kind s).freeIndex = s.freeIndex := by
  unfold answerRead; simp

@[simp] theorem answerHeads_keeps (s : State) :
    (answerHeads s).pending = s.pending ∧ (answerHeads s).power = s.power ∧ (answerHeads s).pins = s.pins ∧
    (answerHeads s).configStore = s.configStore ∧ (answerHeads s).flash = s.flash ∧
    (answerHeads s).station = s.station ∧ (answerHeads s).image = s.image ∧
    (answerHeads s).timebase = s.timebase ∧ (answerHeads s).line = s.line ∧ (answerHeads s).cues = s.cues ∧
    (answerHeads s).conditions = s.conditions ∧ (answerHeads s).look = s.look ∧
    (answerHeads s).fade = s.fade ∧ (answerHeads s).protection = s.protection ∧
    (answerHeads s).wall = s.wall ∧ (answerHeads s).budget = s.budget ∧ (answerHeads s).setup = s.setup ∧
    (answerHeads s).flags = s.flags ∧ (answerHeads s).counters = s.counters ∧
    (answerHeads s).freeIndex = s.freeIndex := by
  unfold answerHeads; simp

@[simp] theorem serveHead_keeps (s : State) :
    (serveHead s).pending = s.pending ∧ (serveHead s).power = s.power ∧ (serveHead s).pins = s.pins ∧
    (serveHead s).configStore = s.configStore ∧ (serveHead s).flash = s.flash ∧
    (serveHead s).station = s.station ∧ (serveHead s).image = s.image ∧
    (serveHead s).timebase = s.timebase ∧ (serveHead s).line = s.line ∧ (serveHead s).cues = s.cues ∧
    (serveHead s).conditions = s.conditions ∧ (serveHead s).look = s.look ∧ (serveHead s).fade = s.fade ∧
    (serveHead s).protection = s.protection ∧ (serveHead s).wall = s.wall ∧
    (serveHead s).budget = s.budget ∧ (serveHead s).setup = s.setup ∧ (serveHead s).flags = s.flags ∧
    (serveHead s).counters = s.counters ∧ (serveHead s).transit = s.transit ∧
    (serveHead s).freeIndex = s.freeIndex := by
  unfold serveHead; split <;> simp

@[simp] theorem startCommit_keeps (b : BufferName) (n : Fin 64) (s : State) :
    (startCommit b n s).pending = s.pending ∧ (startCommit b n s).power = s.power ∧
    (startCommit b n s).pins = s.pins ∧ (startCommit b n s).configStore = s.configStore ∧
    (startCommit b n s).station = s.station ∧ (startCommit b n s).image = s.image ∧
    (startCommit b n s).timebase = s.timebase ∧ (startCommit b n s).line = s.line ∧
    (startCommit b n s).cues = s.cues ∧ (startCommit b n s).conditions = s.conditions ∧
    (startCommit b n s).look = s.look ∧ (startCommit b n s).fade = s.fade ∧
    (startCommit b n s).protection = s.protection ∧ (startCommit b n s).wall = s.wall ∧
    (startCommit b n s).budget = s.budget ∧ (startCommit b n s).setup = s.setup ∧
    (startCommit b n s).flags = s.flags ∧ (startCommit b n s).counters = s.counters ∧
    (startCommit b n s).transit = s.transit ∧ (startCommit b n s).freeIndex = s.freeIndex := by
  unfold startCommit; simp

@[simp] theorem startMap_keeps (r : Running) (s : State) :
    (startMap r s).pending = s.pending ∧ (startMap r s).power = s.power ∧ (startMap r s).pins = s.pins ∧
    (startMap r s).configStore = s.configStore ∧ (startMap r s).station = s.station ∧
    (startMap r s).image = s.image ∧ (startMap r s).timebase = s.timebase ∧ (startMap r s).line = s.line ∧
    (startMap r s).cues = s.cues ∧ (startMap r s).conditions = s.conditions ∧
    (startMap r s).look = s.look ∧ (startMap r s).fade = s.fade ∧
    (startMap r s).protection = s.protection ∧ (startMap r s).wall = s.wall ∧
    (startMap r s).budget = s.budget ∧ (startMap r s).setup = s.setup ∧ (startMap r s).flags = s.flags ∧
    (startMap r s).counters = s.counters ∧ (startMap r s).transit = s.transit ∧
    (startMap r s).freeIndex = s.freeIndex := by
  unfold startMap; simp

@[simp] theorem startOperation_keeps (s : State) :
    (startOperation s).pending = s.pending ∧ (startOperation s).power = s.power ∧
    (startOperation s).pins = s.pins ∧ (startOperation s).configStore = s.configStore ∧
    (startOperation s).station = s.station ∧ (startOperation s).image = s.image ∧
    (startOperation s).timebase = s.timebase ∧ (startOperation s).line = s.line ∧
    (startOperation s).cues = s.cues ∧ (startOperation s).conditions = s.conditions ∧
    (startOperation s).look = s.look ∧ (startOperation s).fade = s.fade ∧
    (startOperation s).protection = s.protection ∧ (startOperation s).wall = s.wall ∧
    (startOperation s).budget = s.budget ∧ (startOperation s).setup = s.setup ∧
    (startOperation s).flags = s.flags ∧ (startOperation s).counters = s.counters ∧
    (startOperation s).transit = s.transit ∧ (startOperation s).freeIndex = s.freeIndex := by
  unfold startOperation; (repeat' split) <;> simp

@[simp] theorem setRun_keeps (c : CommitRun) (s : State) :
    (setRun c s).pending = s.pending ∧ (setRun c s).power = s.power ∧ (setRun c s).pins = s.pins ∧
    (setRun c s).configStore = s.configStore ∧ (setRun c s).flash = s.flash ∧
    (setRun c s).station = s.station ∧ (setRun c s).image = s.image ∧ (setRun c s).timebase = s.timebase ∧
    (setRun c s).line = s.line ∧ (setRun c s).cues = s.cues ∧ (setRun c s).conditions = s.conditions ∧
    (setRun c s).look = s.look ∧ (setRun c s).fade = s.fade ∧ (setRun c s).protection = s.protection ∧
    (setRun c s).wall = s.wall ∧ (setRun c s).budget = s.budget ∧ (setRun c s).setup = s.setup ∧
    (setRun c s).flags = s.flags ∧ (setRun c s).counters = s.counters ∧ (setRun c s).transit = s.transit ∧
    (setRun c s).freeIndex = s.freeIndex := by
  unfold setRun; simp

@[simp] theorem resumeCommit_keeps (c : CommitRun) (s : State) :
    (resumeCommit c s).pending = s.pending ∧ (resumeCommit c s).power = s.power ∧
    (resumeCommit c s).pins = s.pins ∧ (resumeCommit c s).configStore = s.configStore ∧
    (resumeCommit c s).flash = s.flash ∧ (resumeCommit c s).station = s.station ∧
    (resumeCommit c s).image = s.image ∧ (resumeCommit c s).timebase = s.timebase ∧
    (resumeCommit c s).line = s.line ∧ (resumeCommit c s).cues = s.cues ∧
    (resumeCommit c s).conditions = s.conditions ∧ (resumeCommit c s).look = s.look ∧
    (resumeCommit c s).fade = s.fade ∧ (resumeCommit c s).protection = s.protection ∧
    (resumeCommit c s).wall = s.wall ∧ (resumeCommit c s).budget = s.budget ∧
    (resumeCommit c s).setup = s.setup ∧ (resumeCommit c s).flags = s.flags ∧
    (resumeCommit c s).counters = s.counters ∧ (resumeCommit c s).transit = s.transit ∧
    (resumeCommit c s).freeIndex = s.freeIndex := by
  unfold resumeCommit; simp

@[simp] theorem arbitrateHead_keeps (s : State) :
    (arbitrateHead s).pending = s.pending ∧ (arbitrateHead s).power = s.power ∧
    (arbitrateHead s).pins = s.pins ∧ (arbitrateHead s).configStore = s.configStore ∧
    (arbitrateHead s).station = s.station ∧ (arbitrateHead s).image = s.image ∧
    (arbitrateHead s).timebase = s.timebase ∧ (arbitrateHead s).line = s.line ∧
    (arbitrateHead s).cues = s.cues ∧ (arbitrateHead s).conditions = s.conditions ∧
    (arbitrateHead s).look = s.look ∧ (arbitrateHead s).fade = s.fade ∧
    (arbitrateHead s).protection = s.protection ∧ (arbitrateHead s).wall = s.wall ∧
    (arbitrateHead s).budget = s.budget ∧ (arbitrateHead s).setup = s.setup ∧
    (arbitrateHead s).flags = s.flags ∧ (arbitrateHead s).counters = s.counters ∧
    (arbitrateHead s).transit = s.transit ∧ (arbitrateHead s).freeIndex = s.freeIndex := by
  unfold arbitrateHead; (repeat' split) <;> simp

@[simp] theorem arbitrate_keeps (s : State) :
    (arbitrate s).pending = s.pending ∧ (arbitrate s).power = s.power ∧ (arbitrate s).pins = s.pins ∧
    (arbitrate s).configStore = s.configStore ∧ (arbitrate s).station = s.station ∧
    (arbitrate s).image = s.image ∧ (arbitrate s).timebase = s.timebase ∧ (arbitrate s).line = s.line ∧
    (arbitrate s).cues = s.cues ∧ (arbitrate s).conditions = s.conditions ∧ (arbitrate s).look = s.look ∧
    (arbitrate s).fade = s.fade ∧ (arbitrate s).protection = s.protection ∧ (arbitrate s).wall = s.wall ∧
    (arbitrate s).budget = s.budget ∧ (arbitrate s).setup = s.setup ∧ (arbitrate s).flags = s.flags ∧
    (arbitrate s).counters = s.counters ∧ (arbitrate s).freeIndex = s.freeIndex := by
  unfold arbitrate; split <;> simp

@[simp] theorem takeCommit_keeps (m : Message) (s : State) :
    (takeCommit m s).pending = s.pending ∧ (takeCommit m s).power = s.power ∧
    (takeCommit m s).pins = s.pins ∧ (takeCommit m s).configStore = s.configStore ∧
    (takeCommit m s).station = s.station ∧ (takeCommit m s).image = s.image ∧
    (takeCommit m s).timebase = s.timebase ∧ (takeCommit m s).line = s.line ∧
    (takeCommit m s).cues = s.cues ∧ (takeCommit m s).conditions = s.conditions ∧
    (takeCommit m s).look = s.look ∧ (takeCommit m s).fade = s.fade ∧
    (takeCommit m s).protection = s.protection ∧ (takeCommit m s).wall = s.wall ∧
    (takeCommit m s).budget = s.budget ∧ (takeCommit m s).setup = s.setup ∧
    (takeCommit m s).flags = s.flags ∧ (takeCommit m s).freeIndex = s.freeIndex := by
  unfold takeCommit; dsimp only; (repeat' split) <;> simp

@[simp] theorem handOverMap_keeps (op : ArrayOp) (s : State) :
    (handOverMap op s).pending = s.pending ∧ (handOverMap op s).power = s.power ∧
    (handOverMap op s).pins = s.pins ∧ (handOverMap op s).configStore = s.configStore ∧
    (handOverMap op s).station = s.station ∧ (handOverMap op s).image = s.image ∧
    (handOverMap op s).timebase = s.timebase ∧ (handOverMap op s).line = s.line ∧
    (handOverMap op s).cues = s.cues ∧ (handOverMap op s).conditions = s.conditions ∧
    (handOverMap op s).look = s.look ∧ (handOverMap op s).fade = s.fade ∧
    (handOverMap op s).protection = s.protection ∧ (handOverMap op s).wall = s.wall ∧
    (handOverMap op s).budget = s.budget ∧ (handOverMap op s).setup = s.setup ∧
    (handOverMap op s).flags = s.flags ∧ (handOverMap op s).freeIndex = s.freeIndex := by
  unfold handOverMap; split <;> simp

@[simp] theorem takeRead_keeps (r : ReadRequest) (s : State) :
    (takeRead r s).pending = s.pending ∧ (takeRead r s).power = s.power ∧ (takeRead r s).pins = s.pins ∧
    (takeRead r s).configStore = s.configStore ∧ (takeRead r s).station = s.station ∧
    (takeRead r s).image = s.image ∧ (takeRead r s).timebase = s.timebase ∧ (takeRead r s).line = s.line ∧
    (takeRead r s).cues = s.cues ∧ (takeRead r s).conditions = s.conditions ∧
    (takeRead r s).look = s.look ∧ (takeRead r s).fade = s.fade ∧
    (takeRead r s).protection = s.protection ∧ (takeRead r s).wall = s.wall ∧
    (takeRead r s).budget = s.budget ∧ (takeRead r s).setup = s.setup ∧ (takeRead r s).flags = s.flags ∧
    (takeRead r s).freeIndex = s.freeIndex := by
  unfold takeRead; (repeat' split) <;> simp

@[simp] theorem presetReadRequest_keeps (s : State) :
    (presetReadRequest s).pending = s.pending ∧ (presetReadRequest s).power = s.power ∧
    (presetReadRequest s).pins = s.pins ∧ (presetReadRequest s).configStore = s.configStore ∧
    (presetReadRequest s).station = s.station ∧ (presetReadRequest s).image = s.image ∧
    (presetReadRequest s).timebase = s.timebase ∧ (presetReadRequest s).line = s.line ∧
    (presetReadRequest s).cues = s.cues ∧ (presetReadRequest s).conditions = s.conditions ∧
    (presetReadRequest s).look = s.look ∧ (presetReadRequest s).fade = s.fade ∧
    (presetReadRequest s).protection = s.protection ∧ (presetReadRequest s).wall = s.wall ∧
    (presetReadRequest s).budget = s.budget ∧ (presetReadRequest s).setup = s.setup ∧
    (presetReadRequest s).flags = s.flags ∧ (presetReadRequest s).freeIndex = s.freeIndex := by
  unfold presetReadRequest; split <;> simp

@[simp] theorem arrayReadEnd_keeps (s : State) :
    (arrayReadEnd s).pending = s.pending ∧ (arrayReadEnd s).power = s.power ∧
    (arrayReadEnd s).pins = s.pins ∧ (arrayReadEnd s).configStore = s.configStore ∧
    (arrayReadEnd s).station = s.station ∧ (arrayReadEnd s).image = s.image ∧
    (arrayReadEnd s).timebase = s.timebase ∧ (arrayReadEnd s).line = s.line ∧
    (arrayReadEnd s).cues = s.cues ∧ (arrayReadEnd s).conditions = s.conditions ∧
    (arrayReadEnd s).look = s.look ∧ (arrayReadEnd s).fade = s.fade ∧
    (arrayReadEnd s).protection = s.protection ∧ (arrayReadEnd s).wall = s.wall ∧
    (arrayReadEnd s).budget = s.budget ∧ (arrayReadEnd s).setup = s.setup ∧
    (arrayReadEnd s).flags = s.flags ∧ (arrayReadEnd s).counters = s.counters ∧
    (arrayReadEnd s).freeIndex = s.freeIndex := by
  unfold arrayReadEnd; split <;> simp

@[simp] theorem suspensionReached_keeps (s : State) :
    (suspensionReached s).pending = s.pending ∧ (suspensionReached s).power = s.power ∧
    (suspensionReached s).pins = s.pins ∧ (suspensionReached s).configStore = s.configStore ∧
    (suspensionReached s).station = s.station ∧ (suspensionReached s).image = s.image ∧
    (suspensionReached s).timebase = s.timebase ∧ (suspensionReached s).line = s.line ∧
    (suspensionReached s).cues = s.cues ∧ (suspensionReached s).conditions = s.conditions ∧
    (suspensionReached s).look = s.look ∧ (suspensionReached s).fade = s.fade ∧
    (suspensionReached s).protection = s.protection ∧ (suspensionReached s).wall = s.wall ∧
    (suspensionReached s).budget = s.budget ∧ (suspensionReached s).setup = s.setup ∧
    (suspensionReached s).flags = s.flags ∧ (suspensionReached s).freeIndex = s.freeIndex := by
  unfold suspensionReached; dsimp only; (repeat' split) <;> simp

@[simp] theorem eraseEnd_keeps (s : State) :
    (eraseEnd s).pending = s.pending ∧ (eraseEnd s).power = s.power ∧ (eraseEnd s).pins = s.pins ∧
    (eraseEnd s).configStore = s.configStore ∧ (eraseEnd s).station = s.station ∧
    (eraseEnd s).image = s.image ∧ (eraseEnd s).timebase = s.timebase ∧ (eraseEnd s).line = s.line ∧
    (eraseEnd s).cues = s.cues ∧ (eraseEnd s).conditions = s.conditions ∧ (eraseEnd s).look = s.look ∧
    (eraseEnd s).fade = s.fade ∧ (eraseEnd s).protection = s.protection ∧ (eraseEnd s).wall = s.wall ∧
    (eraseEnd s).budget = s.budget ∧ (eraseEnd s).setup = s.setup ∧ (eraseEnd s).flags = s.flags ∧
    (eraseEnd s).counters = s.counters ∧ (eraseEnd s).transit = s.transit ∧
    (eraseEnd s).freeIndex = s.freeIndex := by
  unfold eraseEnd; split <;> simp

@[simp] theorem programEnd_keeps (s : State) :
    (programEnd s).pending = s.pending ∧ (programEnd s).power = s.power ∧ (programEnd s).pins = s.pins ∧
    (programEnd s).configStore = s.configStore ∧ (programEnd s).station = s.station ∧
    (programEnd s).image = s.image ∧ (programEnd s).timebase = s.timebase ∧ (programEnd s).line = s.line ∧
    (programEnd s).cues = s.cues ∧ (programEnd s).conditions = s.conditions ∧
    (programEnd s).look = s.look ∧ (programEnd s).fade = s.fade ∧
    (programEnd s).protection = s.protection ∧ (programEnd s).wall = s.wall ∧
    (programEnd s).budget = s.budget ∧ (programEnd s).setup = s.setup ∧ (programEnd s).flags = s.flags ∧
    (programEnd s).counters = s.counters ∧ (programEnd s).transit = s.transit ∧
    (programEnd s).freeIndex = s.freeIndex := by
  unfold programEnd; split <;> simp

@[simp] theorem finishOperation_keeps (s : State) :
    (finishOperation s).pending = s.pending ∧ (finishOperation s).power = s.power ∧
    (finishOperation s).pins = s.pins ∧ (finishOperation s).configStore = s.configStore ∧
    (finishOperation s).station = s.station ∧ (finishOperation s).image = s.image ∧
    (finishOperation s).timebase = s.timebase ∧ (finishOperation s).line = s.line ∧
    (finishOperation s).cues = s.cues ∧ (finishOperation s).conditions = s.conditions ∧
    (finishOperation s).look = s.look ∧ (finishOperation s).fade = s.fade ∧
    (finishOperation s).protection = s.protection ∧ (finishOperation s).wall = s.wall ∧
    (finishOperation s).budget = s.budget ∧ (finishOperation s).setup = s.setup ∧
    (finishOperation s).flags = s.flags ∧ (finishOperation s).counters = s.counters ∧
    (finishOperation s).freeIndex = s.freeIndex := by
  unfold finishOperation; simp

@[simp] theorem endCommit_keeps (c : CommitRun) (entry : DirEntry) (s : State) :
    (endCommit c entry s).pending = s.pending ∧ (endCommit c entry s).power = s.power ∧
    (endCommit c entry s).pins = s.pins ∧ (endCommit c entry s).configStore = s.configStore ∧
    (endCommit c entry s).station = s.station ∧ (endCommit c entry s).image = s.image ∧
    (endCommit c entry s).timebase = s.timebase ∧ (endCommit c entry s).line = s.line ∧
    (endCommit c entry s).cues = s.cues ∧ (endCommit c entry s).conditions = s.conditions ∧
    (endCommit c entry s).look = s.look ∧ (endCommit c entry s).fade = s.fade ∧
    (endCommit c entry s).protection = s.protection ∧ (endCommit c entry s).wall = s.wall ∧
    (endCommit c entry s).budget = s.budget ∧ (endCommit c entry s).setup = s.setup ∧
    (endCommit c entry s).flags = s.flags ∧ (endCommit c entry s).counters = s.counters ∧
    (endCommit c entry s).freeIndex = s.freeIndex := by
  unfold endCommit; simp

@[simp] theorem verifyEnd_keeps (success : Bool) (s : State) :
    (verifyEnd success s).pending = s.pending ∧ (verifyEnd success s).power = s.power ∧
    (verifyEnd success s).pins = s.pins ∧ (verifyEnd success s).configStore = s.configStore ∧
    (verifyEnd success s).station = s.station ∧ (verifyEnd success s).image = s.image ∧
    (verifyEnd success s).timebase = s.timebase ∧ (verifyEnd success s).line = s.line ∧
    (verifyEnd success s).cues = s.cues ∧ (verifyEnd success s).conditions = s.conditions ∧
    (verifyEnd success s).look = s.look ∧ (verifyEnd success s).fade = s.fade ∧
    (verifyEnd success s).protection = s.protection ∧ (verifyEnd success s).wall = s.wall ∧
    (verifyEnd success s).budget = s.budget ∧ (verifyEnd success s).setup = s.setup ∧
    (verifyEnd success s).freeIndex = s.freeIndex := by
  unfold verifyEnd; (repeat' split) <;> simp

@[simp] theorem endMap_keeps (page : Page ChannelSet) (entry : EntryState) (s : State) :
    (endMap page entry s).pending = s.pending ∧ (endMap page entry s).power = s.power ∧
    (endMap page entry s).pins = s.pins ∧ (endMap page entry s).configStore = s.configStore ∧
    (endMap page entry s).station = s.station ∧ (endMap page entry s).image = s.image ∧
    (endMap page entry s).timebase = s.timebase ∧ (endMap page entry s).line = s.line ∧
    (endMap page entry s).cues = s.cues ∧ (endMap page entry s).conditions = s.conditions ∧
    (endMap page entry s).look = s.look ∧ (endMap page entry s).fade = s.fade ∧
    (endMap page entry s).protection = s.protection ∧ (endMap page entry s).wall = s.wall ∧
    (endMap page entry s).budget = s.budget ∧ (endMap page entry s).setup = s.setup ∧
    (endMap page entry s).flags = s.flags ∧ (endMap page entry s).counters = s.counters ∧
    (endMap page entry s).freeIndex = s.freeIndex := by
  unfold endMap; simp

@[simp] theorem mapEraseEnd_keeps (s : State) :
    (mapEraseEnd s).pending = s.pending ∧ (mapEraseEnd s).power = s.power ∧ (mapEraseEnd s).pins = s.pins ∧
    (mapEraseEnd s).configStore = s.configStore ∧ (mapEraseEnd s).station = s.station ∧
    (mapEraseEnd s).image = s.image ∧ (mapEraseEnd s).timebase = s.timebase ∧
    (mapEraseEnd s).line = s.line ∧ (mapEraseEnd s).cues = s.cues ∧
    (mapEraseEnd s).conditions = s.conditions ∧ (mapEraseEnd s).look = s.look ∧
    (mapEraseEnd s).fade = s.fade ∧ (mapEraseEnd s).protection = s.protection ∧
    (mapEraseEnd s).wall = s.wall ∧ (mapEraseEnd s).budget = s.budget ∧ (mapEraseEnd s).setup = s.setup ∧
    (mapEraseEnd s).flags = s.flags ∧ (mapEraseEnd s).counters = s.counters ∧
    (mapEraseEnd s).freeIndex = s.freeIndex := by
  unfold mapEraseEnd; split <;> simp

@[simp] theorem mapProgramEnd_keeps (s : State) :
    (mapProgramEnd s).pending = s.pending ∧ (mapProgramEnd s).power = s.power ∧
    (mapProgramEnd s).pins = s.pins ∧ (mapProgramEnd s).configStore = s.configStore ∧
    (mapProgramEnd s).station = s.station ∧ (mapProgramEnd s).image = s.image ∧
    (mapProgramEnd s).timebase = s.timebase ∧ (mapProgramEnd s).line = s.line ∧
    (mapProgramEnd s).cues = s.cues ∧ (mapProgramEnd s).conditions = s.conditions ∧
    (mapProgramEnd s).look = s.look ∧ (mapProgramEnd s).fade = s.fade ∧
    (mapProgramEnd s).protection = s.protection ∧ (mapProgramEnd s).wall = s.wall ∧
    (mapProgramEnd s).budget = s.budget ∧ (mapProgramEnd s).setup = s.setup ∧
    (mapProgramEnd s).flags = s.flags ∧ (mapProgramEnd s).counters = s.counters ∧
    (mapProgramEnd s).freeIndex = s.freeIndex := by
  unfold mapProgramEnd; (repeat' split) <;> simp

@[simp] theorem restartRequest_keeps (s : State) :
    (restartRequest s).pending = s.pending ∧ (restartRequest s).power = s.power ∧
    (restartRequest s).pins = s.pins ∧ (restartRequest s).configStore = s.configStore ∧
    (restartRequest s).station = s.station ∧ (restartRequest s).image = s.image ∧
    (restartRequest s).timebase = s.timebase ∧ (restartRequest s).line = s.line ∧
    (restartRequest s).cues = s.cues ∧ (restartRequest s).conditions = s.conditions ∧
    (restartRequest s).look = s.look ∧ (restartRequest s).fade = s.fade ∧
    (restartRequest s).protection = s.protection ∧ (restartRequest s).wall = s.wall ∧
    (restartRequest s).budget = s.budget ∧ (restartRequest s).setup = s.setup ∧
    (restartRequest s).flags = s.flags ∧ (restartRequest s).counters = s.counters ∧
    (restartRequest s).freeIndex = s.freeIndex := by
  unfold restartRequest; (repeat' split) <;> simp

@[simp] theorem setProtection_keeps (p : Protection) (s : State) :
    (setProtection p s).pending = s.pending ∧ (setProtection p s).power = s.power ∧
    (setProtection p s).pins = s.pins ∧ (setProtection p s).configStore = s.configStore ∧
    (setProtection p s).flash = s.flash ∧ (setProtection p s).station = s.station ∧
    (setProtection p s).image = s.image ∧ (setProtection p s).timebase = s.timebase ∧
    (setProtection p s).line = s.line ∧ (setProtection p s).cues = s.cues ∧
    (setProtection p s).conditions = s.conditions ∧ (setProtection p s).look = s.look ∧
    (setProtection p s).fade = s.fade ∧ (setProtection p s).store = s.store ∧
    (setProtection p s).wall = s.wall ∧ (setProtection p s).budget = s.budget ∧
    (setProtection p s).setup = s.setup ∧ (setProtection p s).flags = s.flags ∧
    (setProtection p s).counters = s.counters ∧ (setProtection p s).freeIndex = s.freeIndex := by
  unfold setProtection; simp

@[simp] theorem onAirEdge_keeps (level : Bool) (now : Nanos) (s : State) :
    (onAirEdge level now s).pending = s.pending ∧ (onAirEdge level now s).power = s.power ∧
    (onAirEdge level now s).configStore = s.configStore ∧ (onAirEdge level now s).flash = s.flash ∧
    (onAirEdge level now s).station = s.station ∧ (onAirEdge level now s).image = s.image ∧
    (onAirEdge level now s).timebase = s.timebase ∧ (onAirEdge level now s).line = s.line ∧
    (onAirEdge level now s).cues = s.cues ∧ (onAirEdge level now s).conditions = s.conditions ∧
    (onAirEdge level now s).look = s.look ∧ (onAirEdge level now s).fade = s.fade ∧
    (onAirEdge level now s).store = s.store ∧ (onAirEdge level now s).wall = s.wall ∧
    (onAirEdge level now s).budget = s.budget ∧ (onAirEdge level now s).setup = s.setup ∧
    (onAirEdge level now s).flags = s.flags ∧ (onAirEdge level now s).counters = s.counters ∧
    (onAirEdge level now s).transit = s.transit ∧ (onAirEdge level now s).freeIndex = s.freeIndex := by
  unfold onAirEdge; split <;> simp

@[simp] theorem qualifyPin_keeps (level : Bool) (s : State) :
    (qualifyPin level s).pending = s.pending ∧ (qualifyPin level s).power = s.power ∧
    (qualifyPin level s).pins = s.pins ∧ (qualifyPin level s).configStore = s.configStore ∧
    (qualifyPin level s).flash = s.flash ∧ (qualifyPin level s).station = s.station ∧
    (qualifyPin level s).image = s.image ∧ (qualifyPin level s).timebase = s.timebase ∧
    (qualifyPin level s).line = s.line ∧ (qualifyPin level s).cues = s.cues ∧
    (qualifyPin level s).conditions = s.conditions ∧ (qualifyPin level s).look = s.look ∧
    (qualifyPin level s).fade = s.fade ∧ (qualifyPin level s).store = s.store ∧
    (qualifyPin level s).wall = s.wall ∧ (qualifyPin level s).budget = s.budget ∧
    (qualifyPin level s).setup = s.setup ∧ (qualifyPin level s).flags = s.flags ∧
    (qualifyPin level s).counters = s.counters ∧ (qualifyPin level s).freeIndex = s.freeIndex := by
  unfold qualifyPin; simp

@[simp] theorem onAirAssertion_keeps (s : State) :
    (onAirAssertion s).pending = s.pending ∧ (onAirAssertion s).power = s.power ∧
    (onAirAssertion s).pins = s.pins ∧ (onAirAssertion s).configStore = s.configStore ∧
    (onAirAssertion s).flash = s.flash ∧ (onAirAssertion s).station = s.station ∧
    (onAirAssertion s).image = s.image ∧ (onAirAssertion s).timebase = s.timebase ∧
    (onAirAssertion s).line = s.line ∧ (onAirAssertion s).cues = s.cues ∧
    (onAirAssertion s).conditions = s.conditions ∧ (onAirAssertion s).look = s.look ∧
    (onAirAssertion s).fade = s.fade ∧ (onAirAssertion s).store = s.store ∧
    (onAirAssertion s).wall = s.wall ∧ (onAirAssertion s).budget = s.budget ∧
    (onAirAssertion s).setup = s.setup ∧ (onAirAssertion s).flags = s.flags ∧
    (onAirAssertion s).freeIndex = s.freeIndex := by
  unfold onAirAssertion; split <;> simp

@[simp] theorem onAirDeassertion_keeps (s : State) :
    (onAirDeassertion s).pending = s.pending ∧ (onAirDeassertion s).power = s.power ∧
    (onAirDeassertion s).pins = s.pins ∧ (onAirDeassertion s).configStore = s.configStore ∧
    (onAirDeassertion s).flash = s.flash ∧ (onAirDeassertion s).station = s.station ∧
    (onAirDeassertion s).image = s.image ∧ (onAirDeassertion s).timebase = s.timebase ∧
    (onAirDeassertion s).line = s.line ∧ (onAirDeassertion s).cues = s.cues ∧
    (onAirDeassertion s).conditions = s.conditions ∧ (onAirDeassertion s).look = s.look ∧
    (onAirDeassertion s).fade = s.fade ∧ (onAirDeassertion s).store = s.store ∧
    (onAirDeassertion s).wall = s.wall ∧ (onAirDeassertion s).budget = s.budget ∧
    (onAirDeassertion s).setup = s.setup ∧ (onAirDeassertion s).flags = s.flags ∧
    (onAirDeassertion s).counters = s.counters ∧ (onAirDeassertion s).freeIndex = s.freeIndex := by
  unfold onAirDeassertion; split <;> simp

@[simp] theorem takeProtect_keeps (m : Message) (s : State) :
    (takeProtect m s).pending = s.pending ∧ (takeProtect m s).power = s.power ∧
    (takeProtect m s).pins = s.pins ∧ (takeProtect m s).configStore = s.configStore ∧
    (takeProtect m s).flash = s.flash ∧ (takeProtect m s).station = s.station ∧
    (takeProtect m s).image = s.image ∧ (takeProtect m s).timebase = s.timebase ∧
    (takeProtect m s).line = s.line ∧ (takeProtect m s).cues = s.cues ∧
    (takeProtect m s).conditions = s.conditions ∧ (takeProtect m s).look = s.look ∧
    (takeProtect m s).fade = s.fade ∧ (takeProtect m s).store = s.store ∧ (takeProtect m s).wall = s.wall ∧
    (takeProtect m s).budget = s.budget ∧ (takeProtect m s).setup = s.setup ∧
    (takeProtect m s).flags = s.flags ∧ (takeProtect m s).freeIndex = s.freeIndex := by
  unfold takeProtect; (repeat' split) <;> simp

@[simp] theorem mapCompletionNotice_keeps (s : State) :
    (mapCompletionNotice s).pending = s.pending ∧ (mapCompletionNotice s).power = s.power ∧
    (mapCompletionNotice s).pins = s.pins ∧ (mapCompletionNotice s).configStore = s.configStore ∧
    (mapCompletionNotice s).flash = s.flash ∧ (mapCompletionNotice s).station = s.station ∧
    (mapCompletionNotice s).image = s.image ∧ (mapCompletionNotice s).timebase = s.timebase ∧
    (mapCompletionNotice s).line = s.line ∧ (mapCompletionNotice s).cues = s.cues ∧
    (mapCompletionNotice s).conditions = s.conditions ∧ (mapCompletionNotice s).look = s.look ∧
    (mapCompletionNotice s).fade = s.fade ∧ (mapCompletionNotice s).store = s.store ∧
    (mapCompletionNotice s).wall = s.wall ∧ (mapCompletionNotice s).budget = s.budget ∧
    (mapCompletionNotice s).setup = s.setup ∧ (mapCompletionNotice s).flags = s.flags ∧
    (mapCompletionNotice s).counters = s.counters ∧ (mapCompletionNotice s).freeIndex = s.freeIndex := by
  unfold mapCompletionNotice; split <;> simp

@[simp] theorem handOver_keeps (op : ArrayOp) (s : State) :
    (handOver op s).pending = s.pending ∧ (handOver op s).power = s.power ∧
    (handOver op s).pins = s.pins ∧ (handOver op s).configStore = s.configStore ∧
    (handOver op s).station = s.station ∧ (handOver op s).image = s.image ∧
    (handOver op s).timebase = s.timebase ∧ (handOver op s).line = s.line ∧
    (handOver op s).cues = s.cues ∧ (handOver op s).conditions = s.conditions ∧
    (handOver op s).look = s.look ∧ (handOver op s).fade = s.fade ∧ (handOver op s).wall = s.wall ∧
    (handOver op s).budget = s.budget ∧ (handOver op s).setup = s.setup ∧
    (handOver op s).flags = s.flags ∧ (handOver op s).freeIndex = s.freeIndex := by
  unfold handOver; dsimp only; split <;> simp

@[simp] theorem requestMap_keeps (op : ArrayOp) (s : State) :
    (requestMap op s).pending = s.pending ∧ (requestMap op s).power = s.power ∧
    (requestMap op s).pins = s.pins ∧ (requestMap op s).configStore = s.configStore ∧
    (requestMap op s).station = s.station ∧ (requestMap op s).image = s.image ∧
    (requestMap op s).timebase = s.timebase ∧ (requestMap op s).line = s.line ∧
    (requestMap op s).cues = s.cues ∧ (requestMap op s).conditions = s.conditions ∧
    (requestMap op s).look = s.look ∧ (requestMap op s).fade = s.fade ∧ (requestMap op s).wall = s.wall ∧
    (requestMap op s).budget = s.budget ∧ (requestMap op s).setup = s.setup ∧
    (requestMap op s).flags = s.flags ∧ (requestMap op s).freeIndex = s.freeIndex := by
  unfold requestMap; split <;> simp

@[simp] theorem takeMap_keeps (m : Message) (s : State) :
    (takeMap m s).pending = s.pending ∧ (takeMap m s).power = s.power ∧ (takeMap m s).pins = s.pins ∧
    (takeMap m s).configStore = s.configStore ∧ (takeMap m s).station = s.station ∧
    (takeMap m s).image = s.image ∧ (takeMap m s).timebase = s.timebase ∧ (takeMap m s).line = s.line ∧
    (takeMap m s).cues = s.cues ∧ (takeMap m s).conditions = s.conditions ∧ (takeMap m s).look = s.look ∧
    (takeMap m s).fade = s.fade ∧ (takeMap m s).wall = s.wall ∧ (takeMap m s).budget = s.budget ∧
    (takeMap m s).setup = s.setup ∧ (takeMap m s).flags = s.flags ∧ (takeMap m s).freeIndex = s.freeIndex := by
  unfold takeMap; (repeat' split) <;> simp

@[simp] theorem startScanMap_keeps (s : State) :
    (startScanMap s).pending = s.pending ∧ (startScanMap s).power = s.power ∧
    (startScanMap s).pins = s.pins ∧ (startScanMap s).configStore = s.configStore ∧
    (startScanMap s).flash = s.flash ∧ (startScanMap s).station = s.station ∧
    (startScanMap s).image = s.image ∧ (startScanMap s).timebase = s.timebase ∧
    (startScanMap s).line = s.line ∧ (startScanMap s).cues = s.cues ∧
    (startScanMap s).conditions = s.conditions ∧ (startScanMap s).look = s.look ∧
    (startScanMap s).fade = s.fade ∧ (startScanMap s).store = s.store ∧ (startScanMap s).wall = s.wall ∧
    (startScanMap s).budget = s.budget ∧ (startScanMap s).setup = s.setup ∧
    (startScanMap s).flags = s.flags ∧ (startScanMap s).counters = s.counters ∧
    (startScanMap s).freeIndex = s.freeIndex := by
  unfold startScanMap; split <;> simp

@[simp] theorem keepRequest_keeps (atHead : Bool) (r : FadeRequest) (n : Fin 64) (s : State) :
    (keepRequest atHead r n s).pending = s.pending ∧ (keepRequest atHead r n s).power = s.power ∧
    (keepRequest atHead r n s).pins = s.pins ∧ (keepRequest atHead r n s).configStore = s.configStore ∧
    (keepRequest atHead r n s).flash = s.flash ∧ (keepRequest atHead r n s).station = s.station ∧
    (keepRequest atHead r n s).image = s.image ∧ (keepRequest atHead r n s).timebase = s.timebase ∧
    (keepRequest atHead r n s).line = s.line ∧ (keepRequest atHead r n s).cues = s.cues ∧
    (keepRequest atHead r n s).conditions = s.conditions ∧ (keepRequest atHead r n s).look = s.look ∧
    (keepRequest atHead r n s).store = s.store ∧ (keepRequest atHead r n s).protection = s.protection ∧
    (keepRequest atHead r n s).wall = s.wall ∧ (keepRequest atHead r n s).budget = s.budget ∧
    (keepRequest atHead r n s).setup = s.setup ∧ (keepRequest atHead r n s).flags = s.flags ∧
    (keepRequest atHead r n s).freeIndex = s.freeIndex := by
  unfold keepRequest; split <;> simp

@[simp] theorem takeFadeRequest_keeps (r : FadeRequest) (s : State) :
    (takeFadeRequest r s).pending = s.pending ∧ (takeFadeRequest r s).power = s.power ∧
    (takeFadeRequest r s).pins = s.pins ∧ (takeFadeRequest r s).configStore = s.configStore ∧
    (takeFadeRequest r s).flash = s.flash ∧ (takeFadeRequest r s).station = s.station ∧
    (takeFadeRequest r s).image = s.image ∧ (takeFadeRequest r s).timebase = s.timebase ∧
    (takeFadeRequest r s).line = s.line ∧ (takeFadeRequest r s).cues = s.cues ∧
    (takeFadeRequest r s).conditions = s.conditions ∧ (takeFadeRequest r s).look = s.look ∧
    (takeFadeRequest r s).store = s.store ∧ (takeFadeRequest r s).protection = s.protection ∧
    (takeFadeRequest r s).wall = s.wall ∧ (takeFadeRequest r s).budget = s.budget ∧
    (takeFadeRequest r s).setup = s.setup ∧ (takeFadeRequest r s).flags = s.flags ∧
    (takeFadeRequest r s).freeIndex = s.freeIndex := by
  unfold takeFadeRequest; (repeat' split) <;> simp

@[simp] theorem fadeStartRequest_keeps (origin : Origin) (s : State) :
    (fadeStartRequest origin s).pending = s.pending ∧ (fadeStartRequest origin s).power = s.power ∧
    (fadeStartRequest origin s).pins = s.pins ∧ (fadeStartRequest origin s).configStore = s.configStore ∧
    (fadeStartRequest origin s).flash = s.flash ∧ (fadeStartRequest origin s).station = s.station ∧
    (fadeStartRequest origin s).image = s.image ∧ (fadeStartRequest origin s).timebase = s.timebase ∧
    (fadeStartRequest origin s).line = s.line ∧ (fadeStartRequest origin s).cues = s.cues ∧
    (fadeStartRequest origin s).conditions = s.conditions ∧ (fadeStartRequest origin s).look = s.look ∧
    (fadeStartRequest origin s).store = s.store ∧ (fadeStartRequest origin s).protection = s.protection ∧
    (fadeStartRequest origin s).wall = s.wall ∧ (fadeStartRequest origin s).budget = s.budget ∧
    (fadeStartRequest origin s).setup = s.setup ∧ (fadeStartRequest origin s).flags = s.flags ∧
    (fadeStartRequest origin s).freeIndex = s.freeIndex := by
  unfold fadeStartRequest; (repeat' split) <;> simp

@[simp] theorem takeContent_keeps (tag : Nat) (c : Content) (s : State) :
    (takeContent tag c s).pending = s.pending ∧ (takeContent tag c s).power = s.power ∧
    (takeContent tag c s).pins = s.pins ∧ (takeContent tag c s).configStore = s.configStore ∧
    (takeContent tag c s).flash = s.flash ∧ (takeContent tag c s).station = s.station ∧
    (takeContent tag c s).image = s.image ∧ (takeContent tag c s).timebase = s.timebase ∧
    (takeContent tag c s).line = s.line ∧ (takeContent tag c s).cues = s.cues ∧
    (takeContent tag c s).conditions = s.conditions ∧ (takeContent tag c s).look = s.look ∧
    (takeContent tag c s).store = s.store ∧ (takeContent tag c s).protection = s.protection ∧
    (takeContent tag c s).wall = s.wall ∧ (takeContent tag c s).budget = s.budget ∧
    (takeContent tag c s).setup = s.setup ∧ (takeContent tag c s).flags = s.flags ∧
    (takeContent tag c s).transit = s.transit ∧ (takeContent tag c s).freeIndex = s.freeIndex := by
  unfold takeContent; split <;> simp

@[simp] theorem takeNoContent_keeps (tag : Nat) (badRef : Bool) (s : State) :
    (takeNoContent tag badRef s).pending = s.pending ∧ (takeNoContent tag badRef s).power = s.power ∧
    (takeNoContent tag badRef s).pins = s.pins ∧ (takeNoContent tag badRef s).configStore = s.configStore ∧
    (takeNoContent tag badRef s).flash = s.flash ∧ (takeNoContent tag badRef s).station = s.station ∧
    (takeNoContent tag badRef s).image = s.image ∧ (takeNoContent tag badRef s).timebase = s.timebase ∧
    (takeNoContent tag badRef s).line = s.line ∧ (takeNoContent tag badRef s).cues = s.cues ∧
    (takeNoContent tag badRef s).conditions = s.conditions ∧ (takeNoContent tag badRef s).look = s.look ∧
    (takeNoContent tag badRef s).store = s.store ∧ (takeNoContent tag badRef s).protection = s.protection ∧
    (takeNoContent tag badRef s).wall = s.wall ∧ (takeNoContent tag badRef s).budget = s.budget ∧
    (takeNoContent tag badRef s).setup = s.setup ∧ (takeNoContent tag badRef s).flags = s.flags ∧
    (takeNoContent tag badRef s).transit = s.transit ∧ (takeNoContent tag badRef s).freeIndex = s.freeIndex := by
  unfold takeNoContent; split <;> simp

@[simp] theorem contentAnswer_keeps (s : State) :
    (contentAnswer s).pending = s.pending ∧ (contentAnswer s).power = s.power ∧
    (contentAnswer s).pins = s.pins ∧ (contentAnswer s).configStore = s.configStore ∧
    (contentAnswer s).flash = s.flash ∧ (contentAnswer s).station = s.station ∧
    (contentAnswer s).image = s.image ∧ (contentAnswer s).timebase = s.timebase ∧
    (contentAnswer s).line = s.line ∧ (contentAnswer s).cues = s.cues ∧
    (contentAnswer s).conditions = s.conditions ∧ (contentAnswer s).look = s.look ∧
    (contentAnswer s).store = s.store ∧ (contentAnswer s).protection = s.protection ∧
    (contentAnswer s).wall = s.wall ∧ (contentAnswer s).budget = s.budget ∧
    (contentAnswer s).setup = s.setup ∧ (contentAnswer s).flags = s.flags ∧
    (contentAnswer s).freeIndex = s.freeIndex := by
  unfold contentAnswer; (repeat' split) <;> simp

@[simp] theorem answerWithoutContent_keeps (s : State) :
    (answerWithoutContent s).pending = s.pending ∧ (answerWithoutContent s).power = s.power ∧
    (answerWithoutContent s).pins = s.pins ∧ (answerWithoutContent s).configStore = s.configStore ∧
    (answerWithoutContent s).flash = s.flash ∧ (answerWithoutContent s).station = s.station ∧
    (answerWithoutContent s).image = s.image ∧ (answerWithoutContent s).timebase = s.timebase ∧
    (answerWithoutContent s).line = s.line ∧ (answerWithoutContent s).cues = s.cues ∧
    (answerWithoutContent s).conditions = s.conditions ∧ (answerWithoutContent s).look = s.look ∧
    (answerWithoutContent s).store = s.store ∧ (answerWithoutContent s).protection = s.protection ∧
    (answerWithoutContent s).wall = s.wall ∧ (answerWithoutContent s).budget = s.budget ∧
    (answerWithoutContent s).setup = s.setup ∧ (answerWithoutContent s).flags = s.flags ∧
    (answerWithoutContent s).freeIndex = s.freeIndex := by
  unfold answerWithoutContent; (repeat' split) <;> simp

@[simp] theorem formPackets_keeps (refresh : Bool) (k : Nat) (s : State) :
    (formPackets refresh k s).pending = s.pending ∧ (formPackets refresh k s).power = s.power ∧
    (formPackets refresh k s).pins = s.pins ∧ (formPackets refresh k s).configStore = s.configStore ∧
    (formPackets refresh k s).flash = s.flash ∧ (formPackets refresh k s).station = s.station ∧
    (formPackets refresh k s).image = s.image ∧ (formPackets refresh k s).timebase = s.timebase ∧
    (formPackets refresh k s).line = s.line ∧ (formPackets refresh k s).cues = s.cues ∧
    (formPackets refresh k s).conditions = s.conditions ∧ (formPackets refresh k s).look = s.look ∧
    (formPackets refresh k s).store = s.store ∧ (formPackets refresh k s).protection = s.protection ∧
    (formPackets refresh k s).wall = s.wall ∧ (formPackets refresh k s).budget = s.budget ∧
    (formPackets refresh k s).setup = s.setup ∧ (formPackets refresh k s).flags = s.flags ∧
    (formPackets refresh k s).counters = s.counters ∧ (formPackets refresh k s).transit = s.transit ∧
    (formPackets refresh k s).freeIndex = s.freeIndex := by
  unfold formPackets; simp

@[simp] theorem sendPackets_keeps (s : State) :
    (sendPackets s).pending = s.pending ∧ (sendPackets s).power = s.power ∧ (sendPackets s).pins = s.pins ∧
    (sendPackets s).configStore = s.configStore ∧ (sendPackets s).flash = s.flash ∧
    (sendPackets s).station = s.station ∧ (sendPackets s).image = s.image ∧
    (sendPackets s).timebase = s.timebase ∧ (sendPackets s).line = s.line ∧ (sendPackets s).cues = s.cues ∧
    (sendPackets s).conditions = s.conditions ∧ (sendPackets s).look = s.look ∧
    (sendPackets s).store = s.store ∧ (sendPackets s).protection = s.protection ∧
    (sendPackets s).wall = s.wall ∧ (sendPackets s).budget = s.budget ∧ (sendPackets s).setup = s.setup ∧
    (sendPackets s).flags = s.flags ∧ (sendPackets s).counters = s.counters ∧
    (sendPackets s).transit = s.transit ∧ (sendPackets s).freeIndex = s.freeIndex := by
  unfold sendPackets; split <;> simp

@[simp] theorem stepFades_keeps (e : FrameEvent) (s : State) :
    (stepFades e s).pending = s.pending ∧ (stepFades e s).power = s.power ∧ (stepFades e s).pins = s.pins ∧
    (stepFades e s).configStore = s.configStore ∧ (stepFades e s).flash = s.flash ∧
    (stepFades e s).station = s.station ∧ (stepFades e s).image = s.image ∧
    (stepFades e s).timebase = s.timebase ∧ (stepFades e s).line = s.line ∧ (stepFades e s).cues = s.cues ∧
    (stepFades e s).conditions = s.conditions ∧ (stepFades e s).look = s.look ∧
    (stepFades e s).store = s.store ∧ (stepFades e s).protection = s.protection ∧
    (stepFades e s).wall = s.wall ∧ (stepFades e s).budget = s.budget ∧ (stepFades e s).setup = s.setup ∧
    (stepFades e s).flags = s.flags ∧ (stepFades e s).transit = s.transit ∧
    (stepFades e s).freeIndex = s.freeIndex := by
  unfold stepFades; simp

@[simp] theorem fadeFrame_keeps (e : FrameEvent) (s : State) :
    (fadeFrame e s).pending = s.pending ∧ (fadeFrame e s).power = s.power ∧ (fadeFrame e s).pins = s.pins ∧
    (fadeFrame e s).configStore = s.configStore ∧ (fadeFrame e s).flash = s.flash ∧
    (fadeFrame e s).station = s.station ∧ (fadeFrame e s).image = s.image ∧
    (fadeFrame e s).timebase = s.timebase ∧ (fadeFrame e s).line = s.line ∧ (fadeFrame e s).cues = s.cues ∧
    (fadeFrame e s).conditions = s.conditions ∧ (fadeFrame e s).look = s.look ∧
    (fadeFrame e s).store = s.store ∧ (fadeFrame e s).protection = s.protection ∧
    (fadeFrame e s).wall = s.wall ∧ (fadeFrame e s).budget = s.budget ∧ (fadeFrame e s).setup = s.setup ∧
    (fadeFrame e s).flags = s.flags ∧ (fadeFrame e s).transit = s.transit ∧
    (fadeFrame e s).freeIndex = s.freeIndex := by
  unfold fadeFrame; split <;> simp

@[simp] theorem fadeFrameStart_keeps (s : State) :
    (fadeFrameStart s).pending = s.pending ∧ (fadeFrameStart s).power = s.power ∧
    (fadeFrameStart s).pins = s.pins ∧ (fadeFrameStart s).configStore = s.configStore ∧
    (fadeFrameStart s).flash = s.flash ∧ (fadeFrameStart s).station = s.station ∧
    (fadeFrameStart s).image = s.image ∧ (fadeFrameStart s).timebase = s.timebase ∧
    (fadeFrameStart s).line = s.line ∧ (fadeFrameStart s).cues = s.cues ∧
    (fadeFrameStart s).conditions = s.conditions ∧ (fadeFrameStart s).look = s.look ∧
    (fadeFrameStart s).store = s.store ∧ (fadeFrameStart s).protection = s.protection ∧
    (fadeFrameStart s).wall = s.wall ∧ (fadeFrameStart s).budget = s.budget ∧
    (fadeFrameStart s).setup = s.setup ∧ (fadeFrameStart s).flags = s.flags ∧
    (fadeFrameStart s).freeIndex = s.freeIndex := by
  unfold fadeFrameStart; (repeat' split) <;> simp

@[simp] theorem fixturePacketsSent_keeps (s : State) :
    (fixturePacketsSent s).pending = s.pending ∧ (fixturePacketsSent s).power = s.power ∧
    (fixturePacketsSent s).pins = s.pins ∧ (fixturePacketsSent s).configStore = s.configStore ∧
    (fixturePacketsSent s).flash = s.flash ∧ (fixturePacketsSent s).station = s.station ∧
    (fixturePacketsSent s).image = s.image ∧ (fixturePacketsSent s).timebase = s.timebase ∧
    (fixturePacketsSent s).line = s.line ∧ (fixturePacketsSent s).cues = s.cues ∧
    (fixturePacketsSent s).conditions = s.conditions ∧ (fixturePacketsSent s).look = s.look ∧
    (fixturePacketsSent s).store = s.store ∧ (fixturePacketsSent s).protection = s.protection ∧
    (fixturePacketsSent s).wall = s.wall ∧ (fixturePacketsSent s).budget = s.budget ∧
    (fixturePacketsSent s).setup = s.setup ∧ (fixturePacketsSent s).flags = s.flags ∧
    (fixturePacketsSent s).transit = s.transit ∧ (fixturePacketsSent s).freeIndex = s.freeIndex := by
  unfold fixturePacketsSent; (repeat' split) <;> simp

@[simp] theorem scaleArrivalFade_keeps (s : State) :
    (scaleArrivalFade s).pending = s.pending ∧ (scaleArrivalFade s).power = s.power ∧
    (scaleArrivalFade s).pins = s.pins ∧ (scaleArrivalFade s).configStore = s.configStore ∧
    (scaleArrivalFade s).flash = s.flash ∧ (scaleArrivalFade s).station = s.station ∧
    (scaleArrivalFade s).image = s.image ∧ (scaleArrivalFade s).timebase = s.timebase ∧
    (scaleArrivalFade s).line = s.line ∧ (scaleArrivalFade s).cues = s.cues ∧
    (scaleArrivalFade s).conditions = s.conditions ∧ (scaleArrivalFade s).look = s.look ∧
    (scaleArrivalFade s).store = s.store ∧ (scaleArrivalFade s).protection = s.protection ∧
    (scaleArrivalFade s).wall = s.wall ∧ (scaleArrivalFade s).budget = s.budget ∧
    (scaleArrivalFade s).setup = s.setup ∧ (scaleArrivalFade s).flags = s.flags ∧
    (scaleArrivalFade s).counters = s.counters ∧ (scaleArrivalFade s).freeIndex = s.freeIndex := by
  unfold scaleArrivalFade; (repeat' split) <;> simp

@[simp] theorem protectionNotice_keeps (s : State) :
    (protectionNotice s).pending = s.pending ∧ (protectionNotice s).power = s.power ∧
    (protectionNotice s).pins = s.pins ∧ (protectionNotice s).configStore = s.configStore ∧
    (protectionNotice s).flash = s.flash ∧ (protectionNotice s).station = s.station ∧
    (protectionNotice s).image = s.image ∧ (protectionNotice s).timebase = s.timebase ∧
    (protectionNotice s).line = s.line ∧ (protectionNotice s).cues = s.cues ∧
    (protectionNotice s).conditions = s.conditions ∧ (protectionNotice s).look = s.look ∧
    (protectionNotice s).store = s.store ∧ (protectionNotice s).protection = s.protection ∧
    (protectionNotice s).wall = s.wall ∧ (protectionNotice s).budget = s.budget ∧
    (protectionNotice s).setup = s.setup ∧ (protectionNotice s).flags = s.flags ∧
    (protectionNotice s).counters = s.counters ∧ (protectionNotice s).freeIndex = s.freeIndex := by
  unfold protectionNotice; (repeat' split) <;> simp

@[simp] theorem setPinnedLevels_keeps (s : State) :
    (setPinnedLevels s).pending = s.pending ∧ (setPinnedLevels s).power = s.power ∧
    (setPinnedLevels s).pins = s.pins ∧ (setPinnedLevels s).configStore = s.configStore ∧
    (setPinnedLevels s).flash = s.flash ∧ (setPinnedLevels s).station = s.station ∧
    (setPinnedLevels s).image = s.image ∧ (setPinnedLevels s).timebase = s.timebase ∧
    (setPinnedLevels s).line = s.line ∧ (setPinnedLevels s).cues = s.cues ∧
    (setPinnedLevels s).conditions = s.conditions ∧ (setPinnedLevels s).look = s.look ∧
    (setPinnedLevels s).store = s.store ∧ (setPinnedLevels s).protection = s.protection ∧
    (setPinnedLevels s).wall = s.wall ∧ (setPinnedLevels s).budget = s.budget ∧
    (setPinnedLevels s).setup = s.setup ∧ (setPinnedLevels s).flags = s.flags ∧
    (setPinnedLevels s).counters = s.counters ∧ (setPinnedLevels s).transit = s.transit ∧
    (setPinnedLevels s).freeIndex = s.freeIndex := by
  unfold setPinnedLevels; simp

@[simp] theorem requestStartPreset_keeps (label : FrameNo) (s : State) :
    (requestStartPreset label s).pending = s.pending ∧ (requestStartPreset label s).power = s.power ∧
    (requestStartPreset label s).pins = s.pins ∧ (requestStartPreset label s).configStore = s.configStore ∧
    (requestStartPreset label s).flash = s.flash ∧ (requestStartPreset label s).station = s.station ∧
    (requestStartPreset label s).image = s.image ∧ (requestStartPreset label s).timebase = s.timebase ∧
    (requestStartPreset label s).line = s.line ∧ (requestStartPreset label s).cues = s.cues ∧
    (requestStartPreset label s).conditions = s.conditions ∧ (requestStartPreset label s).look = s.look ∧
    (requestStartPreset label s).store = s.store ∧ (requestStartPreset label s).protection = s.protection ∧
    (requestStartPreset label s).wall = s.wall ∧ (requestStartPreset label s).budget = s.budget ∧
    (requestStartPreset label s).setup = s.setup ∧ (requestStartPreset label s).flags = s.flags ∧
    (requestStartPreset label s).freeIndex = s.freeIndex := by
  unfold requestStartPreset; split <;> simp

@[simp] theorem enableLinks_keeps (s : State) :
    (enableLinks s).pending = s.pending ∧ (enableLinks s).power = s.power ∧ (enableLinks s).pins = s.pins ∧
    (enableLinks s).configStore = s.configStore ∧ (enableLinks s).flash = s.flash ∧
    (enableLinks s).station = s.station ∧ (enableLinks s).image = s.image ∧
    (enableLinks s).timebase = s.timebase ∧ (enableLinks s).line = s.line ∧ (enableLinks s).cues = s.cues ∧
    (enableLinks s).conditions = s.conditions ∧ (enableLinks s).look = s.look ∧
    (enableLinks s).store = s.store ∧ (enableLinks s).protection = s.protection ∧
    (enableLinks s).wall = s.wall ∧ (enableLinks s).budget = s.budget ∧ (enableLinks s).setup = s.setup ∧
    (enableLinks s).flags = s.flags ∧ (enableLinks s).counters = s.counters ∧
    (enableLinks s).transit = s.transit ∧ (enableLinks s).freeIndex = s.freeIndex := by
  unfold enableLinks; simp

@[simp] theorem runNoticeFade_keeps (s : State) :
    (runNoticeFade s).pending = s.pending ∧ (runNoticeFade s).power = s.power ∧
    (runNoticeFade s).pins = s.pins ∧ (runNoticeFade s).configStore = s.configStore ∧
    (runNoticeFade s).flash = s.flash ∧ (runNoticeFade s).station = s.station ∧
    (runNoticeFade s).image = s.image ∧ (runNoticeFade s).timebase = s.timebase ∧
    (runNoticeFade s).line = s.line ∧ (runNoticeFade s).cues = s.cues ∧
    (runNoticeFade s).conditions = s.conditions ∧ (runNoticeFade s).look = s.look ∧
    (runNoticeFade s).store = s.store ∧ (runNoticeFade s).protection = s.protection ∧
    (runNoticeFade s).wall = s.wall ∧ (runNoticeFade s).budget = s.budget ∧
    (runNoticeFade s).setup = s.setup ∧ (runNoticeFade s).flags = s.flags ∧
    (runNoticeFade s).freeIndex = s.freeIndex := by
  unfold runNoticeFade; (repeat' split) <;> simp

@[simp] theorem lineError_keeps (s : State) :
    (lineError s).pending = s.pending ∧ (lineError s).power = s.power ∧ (lineError s).pins = s.pins ∧
    (lineError s).configStore = s.configStore ∧ (lineError s).flash = s.flash ∧
    (lineError s).station = s.station ∧ (lineError s).image = s.image ∧
    (lineError s).timebase = s.timebase ∧ (lineError s).line = s.line ∧ (lineError s).cues = s.cues ∧
    (lineError s).conditions = s.conditions ∧ (lineError s).look = s.look ∧ (lineError s).fade = s.fade ∧
    (lineError s).store = s.store ∧ (lineError s).protection = s.protection ∧
    (lineError s).budget = s.budget ∧ (lineError s).setup = s.setup ∧ (lineError s).flags = s.flags ∧
    (lineError s).transit = s.transit ∧ (lineError s).freeIndex = s.freeIndex := by
  unfold lineError; simp

@[simp] theorem rasterFrameStart_keeps (s : State) :
    (rasterFrameStart s).pending = s.pending ∧ (rasterFrameStart s).power = s.power ∧
    (rasterFrameStart s).pins = s.pins ∧ (rasterFrameStart s).configStore = s.configStore ∧
    (rasterFrameStart s).flash = s.flash ∧ (rasterFrameStart s).station = s.station ∧
    (rasterFrameStart s).image = s.image ∧ (rasterFrameStart s).timebase = s.timebase ∧
    (rasterFrameStart s).line = s.line ∧ (rasterFrameStart s).cues = s.cues ∧
    (rasterFrameStart s).conditions = s.conditions ∧ (rasterFrameStart s).look = s.look ∧
    (rasterFrameStart s).fade = s.fade ∧ (rasterFrameStart s).store = s.store ∧
    (rasterFrameStart s).protection = s.protection ∧ (rasterFrameStart s).budget = s.budget ∧
    (rasterFrameStart s).setup = s.setup ∧ (rasterFrameStart s).flags = s.flags ∧
    (rasterFrameStart s).transit = s.transit ∧ (rasterFrameStart s).freeIndex = s.freeIndex := by
  unfold rasterFrameStart; dsimp only; (repeat' split) <;> simp

@[simp] theorem lineMarker_keeps (s : State) :
    (lineMarker s).pending = s.pending ∧ (lineMarker s).power = s.power ∧ (lineMarker s).pins = s.pins ∧
    (lineMarker s).configStore = s.configStore ∧ (lineMarker s).flash = s.flash ∧
    (lineMarker s).station = s.station ∧ (lineMarker s).image = s.image ∧
    (lineMarker s).timebase = s.timebase ∧ (lineMarker s).line = s.line ∧ (lineMarker s).cues = s.cues ∧
    (lineMarker s).conditions = s.conditions ∧ (lineMarker s).look = s.look ∧
    (lineMarker s).fade = s.fade ∧ (lineMarker s).store = s.store ∧
    (lineMarker s).protection = s.protection ∧ (lineMarker s).budget = s.budget ∧
    (lineMarker s).setup = s.setup ∧ (lineMarker s).flags = s.flags ∧ (lineMarker s).transit = s.transit ∧
    (lineMarker s).freeIndex = s.freeIndex := by
  unfold lineMarker; (repeat' split) <;> simp

@[simp] theorem takePixel_keeps (p : Pixel) (col row : Nat) (s : State) :
    (takePixel p col row s).pending = s.pending ∧ (takePixel p col row s).power = s.power ∧
    (takePixel p col row s).pins = s.pins ∧ (takePixel p col row s).configStore = s.configStore ∧
    (takePixel p col row s).flash = s.flash ∧ (takePixel p col row s).station = s.station ∧
    (takePixel p col row s).image = s.image ∧ (takePixel p col row s).timebase = s.timebase ∧
    (takePixel p col row s).line = s.line ∧ (takePixel p col row s).cues = s.cues ∧
    (takePixel p col row s).conditions = s.conditions ∧ (takePixel p col row s).look = s.look ∧
    (takePixel p col row s).fade = s.fade ∧ (takePixel p col row s).store = s.store ∧
    (takePixel p col row s).protection = s.protection ∧ (takePixel p col row s).budget = s.budget ∧
    (takePixel p col row s).setup = s.setup ∧ (takePixel p col row s).flags = s.flags ∧
    (takePixel p col row s).transit = s.transit ∧ (takePixel p col row s).freeIndex = s.freeIndex := by
  unfold takePixel; split <;> simp

@[simp] theorem rasterPixel_keeps (p : Pixel) (s : State) :
    (rasterPixel p s).pending = s.pending ∧ (rasterPixel p s).power = s.power ∧
    (rasterPixel p s).pins = s.pins ∧ (rasterPixel p s).configStore = s.configStore ∧
    (rasterPixel p s).flash = s.flash ∧ (rasterPixel p s).station = s.station ∧
    (rasterPixel p s).image = s.image ∧ (rasterPixel p s).timebase = s.timebase ∧
    (rasterPixel p s).line = s.line ∧ (rasterPixel p s).cues = s.cues ∧
    (rasterPixel p s).conditions = s.conditions ∧ (rasterPixel p s).look = s.look ∧
    (rasterPixel p s).fade = s.fade ∧ (rasterPixel p s).store = s.store ∧
    (rasterPixel p s).protection = s.protection ∧ (rasterPixel p s).budget = s.budget ∧
    (rasterPixel p s).setup = s.setup ∧ (rasterPixel p s).flags = s.flags ∧
    (rasterPixel p s).transit = s.transit ∧ (rasterPixel p s).freeIndex = s.freeIndex := by
  unfold rasterPixel; (repeat' split) <;> simp

@[simp] theorem codeError_keeps (s : State) :
    (codeError s).pending = s.pending ∧ (codeError s).power = s.power ∧ (codeError s).pins = s.pins ∧
    (codeError s).configStore = s.configStore ∧ (codeError s).flash = s.flash ∧
    (codeError s).station = s.station ∧ (codeError s).image = s.image ∧
    (codeError s).timebase = s.timebase ∧ (codeError s).line = s.line ∧ (codeError s).cues = s.cues ∧
    (codeError s).conditions = s.conditions ∧ (codeError s).look = s.look ∧ (codeError s).fade = s.fade ∧
    (codeError s).store = s.store ∧ (codeError s).protection = s.protection ∧
    (codeError s).budget = s.budget ∧ (codeError s).setup = s.setup ∧ (codeError s).flags = s.flags ∧
    (codeError s).transit = s.transit ∧ (codeError s).freeIndex = s.freeIndex := by
  unfold codeError; split <;> simp

@[simp] theorem decideBanks_keeps (s : State) :
    (decideBanks s).pending = s.pending ∧ (decideBanks s).power = s.power ∧ (decideBanks s).pins = s.pins ∧
    (decideBanks s).configStore = s.configStore ∧ (decideBanks s).flash = s.flash ∧
    (decideBanks s).station = s.station ∧ (decideBanks s).image = s.image ∧
    (decideBanks s).timebase = s.timebase ∧ (decideBanks s).line = s.line ∧ (decideBanks s).cues = s.cues ∧
    (decideBanks s).conditions = s.conditions ∧ (decideBanks s).look = s.look ∧
    (decideBanks s).fade = s.fade ∧ (decideBanks s).store = s.store ∧
    (decideBanks s).protection = s.protection ∧ (decideBanks s).budget = s.budget ∧
    (decideBanks s).setup = s.setup ∧ (decideBanks s).flags = s.flags ∧
    (decideBanks s).transit = s.transit ∧ (decideBanks s).freeIndex = s.freeIndex := by
  unfold decideBanks; (repeat' split) <;> simp

@[simp] theorem wallFrame_keeps (e : FrameEvent) (s : State) :
    (wallFrame e s).pending = s.pending ∧ (wallFrame e s).power = s.power ∧ (wallFrame e s).pins = s.pins ∧
    (wallFrame e s).configStore = s.configStore ∧ (wallFrame e s).flash = s.flash ∧
    (wallFrame e s).station = s.station ∧ (wallFrame e s).image = s.image ∧
    (wallFrame e s).timebase = s.timebase ∧ (wallFrame e s).line = s.line ∧ (wallFrame e s).cues = s.cues ∧
    (wallFrame e s).conditions = s.conditions ∧ (wallFrame e s).look = s.look ∧
    (wallFrame e s).fade = s.fade ∧ (wallFrame e s).store = s.store ∧
    (wallFrame e s).protection = s.protection ∧ (wallFrame e s).budget = s.budget ∧
    (wallFrame e s).setup = s.setup ∧ (wallFrame e s).flags = s.flags ∧
    (wallFrame e s).transit = s.transit ∧ (wallFrame e s).freeIndex = s.freeIndex := by
  unfold wallFrame; simp

@[simp] theorem wallFrameStart_keeps (s : State) :
    (wallFrameStart s).pending = s.pending ∧ (wallFrameStart s).power = s.power ∧
    (wallFrameStart s).pins = s.pins ∧ (wallFrameStart s).configStore = s.configStore ∧
    (wallFrameStart s).flash = s.flash ∧ (wallFrameStart s).station = s.station ∧
    (wallFrameStart s).image = s.image ∧ (wallFrameStart s).timebase = s.timebase ∧
    (wallFrameStart s).line = s.line ∧ (wallFrameStart s).cues = s.cues ∧
    (wallFrameStart s).conditions = s.conditions ∧ (wallFrameStart s).look = s.look ∧
    (wallFrameStart s).fade = s.fade ∧ (wallFrameStart s).store = s.store ∧
    (wallFrameStart s).protection = s.protection ∧ (wallFrameStart s).budget = s.budget ∧
    (wallFrameStart s).setup = s.setup ∧ (wallFrameStart s).flags = s.flags ∧
    (wallFrameStart s).freeIndex = s.freeIndex := by
  unfold wallFrameStart; (repeat' split) <;> simp

@[simp] theorem scaleArrivalWall_keeps (s : State) :
    (scaleArrivalWall s).pending = s.pending ∧ (scaleArrivalWall s).power = s.power ∧
    (scaleArrivalWall s).pins = s.pins ∧ (scaleArrivalWall s).configStore = s.configStore ∧
    (scaleArrivalWall s).flash = s.flash ∧ (scaleArrivalWall s).station = s.station ∧
    (scaleArrivalWall s).image = s.image ∧ (scaleArrivalWall s).timebase = s.timebase ∧
    (scaleArrivalWall s).line = s.line ∧ (scaleArrivalWall s).cues = s.cues ∧
    (scaleArrivalWall s).conditions = s.conditions ∧ (scaleArrivalWall s).look = s.look ∧
    (scaleArrivalWall s).fade = s.fade ∧ (scaleArrivalWall s).store = s.store ∧
    (scaleArrivalWall s).protection = s.protection ∧ (scaleArrivalWall s).budget = s.budget ∧
    (scaleArrivalWall s).setup = s.setup ∧ (scaleArrivalWall s).flags = s.flags ∧
    (scaleArrivalWall s).counters = s.counters ∧ (scaleArrivalWall s).freeIndex = s.freeIndex := by
  unfold scaleArrivalWall; (repeat' split) <;> simp

@[simp] theorem scanEnd_keeps (s : State) :
    (scanEnd s).pending = s.pending ∧ (scanEnd s).power = s.power ∧ (scanEnd s).pins = s.pins ∧
    (scanEnd s).configStore = s.configStore ∧ (scanEnd s).flash = s.flash ∧
    (scanEnd s).station = s.station ∧ (scanEnd s).image = s.image ∧ (scanEnd s).timebase = s.timebase ∧
    (scanEnd s).line = s.line ∧ (scanEnd s).cues = s.cues ∧ (scanEnd s).conditions = s.conditions ∧
    (scanEnd s).look = s.look ∧ (scanEnd s).fade = s.fade ∧ (scanEnd s).store = s.store ∧
    (scanEnd s).protection = s.protection ∧ (scanEnd s).budget = s.budget ∧ (scanEnd s).setup = s.setup ∧
    (scanEnd s).flags = s.flags ∧ (scanEnd s).transit = s.transit ∧ (scanEnd s).freeIndex = s.freeIndex := by
  unfold scanEnd; dsimp only; (repeat' split) <;> simp

@[simp] theorem runNoticeWall_keeps (s : State) :
    (runNoticeWall s).pending = s.pending ∧ (runNoticeWall s).power = s.power ∧
    (runNoticeWall s).pins = s.pins ∧ (runNoticeWall s).configStore = s.configStore ∧
    (runNoticeWall s).flash = s.flash ∧ (runNoticeWall s).station = s.station ∧
    (runNoticeWall s).image = s.image ∧ (runNoticeWall s).timebase = s.timebase ∧
    (runNoticeWall s).line = s.line ∧ (runNoticeWall s).cues = s.cues ∧
    (runNoticeWall s).conditions = s.conditions ∧ (runNoticeWall s).look = s.look ∧
    (runNoticeWall s).fade = s.fade ∧ (runNoticeWall s).store = s.store ∧
    (runNoticeWall s).protection = s.protection ∧ (runNoticeWall s).budget = s.budget ∧
    (runNoticeWall s).setup = s.setup ∧ (runNoticeWall s).flags = s.flags ∧
    (runNoticeWall s).counters = s.counters ∧ (runNoticeWall s).freeIndex = s.freeIndex := by
  unfold runNoticeWall; split <;> simp

@[simp] theorem takeProfile_keeps (b : Byte) (s : State) :
    (takeProfile b s).pending = s.pending ∧ (takeProfile b s).power = s.power ∧
    (takeProfile b s).pins = s.pins ∧ (takeProfile b s).configStore = s.configStore ∧
    (takeProfile b s).flash = s.flash ∧ (takeProfile b s).station = s.station ∧
    (takeProfile b s).image = s.image ∧ (takeProfile b s).timebase = s.timebase ∧
    (takeProfile b s).line = s.line ∧ (takeProfile b s).cues = s.cues ∧
    (takeProfile b s).conditions = s.conditions ∧ (takeProfile b s).look = s.look ∧
    (takeProfile b s).fade = s.fade ∧ (takeProfile b s).store = s.store ∧
    (takeProfile b s).protection = s.protection ∧ (takeProfile b s).budget = s.budget ∧
    (takeProfile b s).setup = s.setup ∧ (takeProfile b s).flags = s.flags ∧
    (takeProfile b s).transit = s.transit ∧ (takeProfile b s).freeIndex = s.freeIndex := by
  unfold takeProfile; split <;> simp

@[simp] theorem takeWallAction_keeps (a : WallAction) (s : State) :
    (takeWallAction a s).pending = s.pending ∧ (takeWallAction a s).power = s.power ∧
    (takeWallAction a s).pins = s.pins ∧ (takeWallAction a s).configStore = s.configStore ∧
    (takeWallAction a s).flash = s.flash ∧ (takeWallAction a s).station = s.station ∧
    (takeWallAction a s).image = s.image ∧ (takeWallAction a s).timebase = s.timebase ∧
    (takeWallAction a s).line = s.line ∧ (takeWallAction a s).cues = s.cues ∧
    (takeWallAction a s).conditions = s.conditions ∧ (takeWallAction a s).look = s.look ∧
    (takeWallAction a s).fade = s.fade ∧ (takeWallAction a s).store = s.store ∧
    (takeWallAction a s).protection = s.protection ∧ (takeWallAction a s).budget = s.budget ∧
    (takeWallAction a s).setup = s.setup ∧ (takeWallAction a s).flags = s.flags ∧
    (takeWallAction a s).transit = s.transit ∧ (takeWallAction a s).freeIndex = s.freeIndex := by
  unfold takeWallAction; (repeat' split) <;> simp

@[simp] theorem nextWallAction_keeps (kind : CueAction → Bool) (s : State) :
    (nextWallAction kind s).pending = s.pending ∧ (nextWallAction kind s).power = s.power ∧
    (nextWallAction kind s).pins = s.pins ∧ (nextWallAction kind s).configStore = s.configStore ∧
    (nextWallAction kind s).flash = s.flash ∧ (nextWallAction kind s).station = s.station ∧
    (nextWallAction kind s).image = s.image ∧ (nextWallAction kind s).timebase = s.timebase ∧
    (nextWallAction kind s).line = s.line ∧ (nextWallAction kind s).cues = s.cues ∧
    (nextWallAction kind s).conditions = s.conditions ∧ (nextWallAction kind s).look = s.look ∧
    (nextWallAction kind s).fade = s.fade ∧ (nextWallAction kind s).store = s.store ∧
    (nextWallAction kind s).protection = s.protection ∧ (nextWallAction kind s).budget = s.budget ∧
    (nextWallAction kind s).setup = s.setup ∧ (nextWallAction kind s).flags = s.flags ∧
    (nextWallAction kind s).freeIndex = s.freeIndex := by
  unfold nextWallAction; (repeat' split) <;> simp

@[simp] theorem lookProfile_keeps (s : State) :
    (lookProfile s).pending = s.pending ∧ (lookProfile s).power = s.power ∧ (lookProfile s).pins = s.pins ∧
    (lookProfile s).configStore = s.configStore ∧ (lookProfile s).flash = s.flash ∧
    (lookProfile s).station = s.station ∧ (lookProfile s).image = s.image ∧
    (lookProfile s).timebase = s.timebase ∧ (lookProfile s).line = s.line ∧ (lookProfile s).cues = s.cues ∧
    (lookProfile s).conditions = s.conditions ∧ (lookProfile s).look = s.look ∧
    (lookProfile s).fade = s.fade ∧ (lookProfile s).store = s.store ∧
    (lookProfile s).protection = s.protection ∧ (lookProfile s).budget = s.budget ∧
    (lookProfile s).setup = s.setup ∧ (lookProfile s).flags = s.flags ∧
    (lookProfile s).freeIndex = s.freeIndex := by
  unfold lookProfile; (repeat' split) <;> simp

@[simp] theorem wallProfile_keeps (origin : Origin) (s : State) :
    (wallProfile origin s).pending = s.pending ∧ (wallProfile origin s).power = s.power ∧
    (wallProfile origin s).pins = s.pins ∧ (wallProfile origin s).configStore = s.configStore ∧
    (wallProfile origin s).flash = s.flash ∧ (wallProfile origin s).station = s.station ∧
    (wallProfile origin s).image = s.image ∧ (wallProfile origin s).timebase = s.timebase ∧
    (wallProfile origin s).line = s.line ∧ (wallProfile origin s).cues = s.cues ∧
    (wallProfile origin s).conditions = s.conditions ∧ (wallProfile origin s).look = s.look ∧
    (wallProfile origin s).fade = s.fade ∧ (wallProfile origin s).store = s.store ∧
    (wallProfile origin s).protection = s.protection ∧ (wallProfile origin s).budget = s.budget ∧
    (wallProfile origin s).setup = s.setup ∧ (wallProfile origin s).flags = s.flags ∧
    (wallProfile origin s).freeIndex = s.freeIndex := by
  unfold wallProfile; split <;> simp

@[simp] theorem storeAnnouncement_keeps (source : StationNo) (group : Byte) (x : Announcement) (s : State) :
    (storeAnnouncement source group x s).pending = s.pending ∧
    (storeAnnouncement source group x s).power = s.power ∧
    (storeAnnouncement source group x s).pins = s.pins ∧
    (storeAnnouncement source group x s).configStore = s.configStore ∧
    (storeAnnouncement source group x s).flash = s.flash ∧
    (storeAnnouncement source group x s).station = s.station ∧
    (storeAnnouncement source group x s).image = s.image ∧
    (storeAnnouncement source group x s).timebase = s.timebase ∧
    (storeAnnouncement source group x s).line = s.line ∧
    (storeAnnouncement source group x s).cues = s.cues ∧
    (storeAnnouncement source group x s).conditions = s.conditions ∧
    (storeAnnouncement source group x s).look = s.look ∧
    (storeAnnouncement source group x s).fade = s.fade ∧
    (storeAnnouncement source group x s).store = s.store ∧
    (storeAnnouncement source group x s).protection = s.protection ∧
    (storeAnnouncement source group x s).wall = s.wall ∧
    (storeAnnouncement source group x s).setup = s.setup ∧
    (storeAnnouncement source group x s).flags = s.flags ∧
    (storeAnnouncement source group x s).transit = s.transit ∧
    (storeAnnouncement source group x s).freeIndex = s.freeIndex := by
  unfold storeAnnouncement; simp

@[simp] theorem takeDemand_keeps (m : Message) (s : State) :
    (takeDemand m s).pending = s.pending ∧ (takeDemand m s).power = s.power ∧
    (takeDemand m s).pins = s.pins ∧ (takeDemand m s).configStore = s.configStore ∧
    (takeDemand m s).flash = s.flash ∧ (takeDemand m s).station = s.station ∧
    (takeDemand m s).image = s.image ∧ (takeDemand m s).timebase = s.timebase ∧
    (takeDemand m s).line = s.line ∧ (takeDemand m s).cues = s.cues ∧
    (takeDemand m s).conditions = s.conditions ∧ (takeDemand m s).look = s.look ∧
    (takeDemand m s).fade = s.fade ∧ (takeDemand m s).store = s.store ∧
    (takeDemand m s).protection = s.protection ∧ (takeDemand m s).wall = s.wall ∧
    (takeDemand m s).setup = s.setup ∧ (takeDemand m s).flags = s.flags ∧
    (takeDemand m s).transit = s.transit ∧ (takeDemand m s).freeIndex = s.freeIndex := by
  unfold takeDemand; simp

@[simp] theorem agePeers_keeps (target : FrameNo) (s : State) :
    (agePeers target s).pending = s.pending ∧ (agePeers target s).power = s.power ∧
    (agePeers target s).pins = s.pins ∧ (agePeers target s).configStore = s.configStore ∧
    (agePeers target s).flash = s.flash ∧ (agePeers target s).station = s.station ∧
    (agePeers target s).image = s.image ∧ (agePeers target s).timebase = s.timebase ∧
    (agePeers target s).line = s.line ∧ (agePeers target s).cues = s.cues ∧
    (agePeers target s).conditions = s.conditions ∧ (agePeers target s).look = s.look ∧
    (agePeers target s).fade = s.fade ∧ (agePeers target s).store = s.store ∧
    (agePeers target s).protection = s.protection ∧ (agePeers target s).wall = s.wall ∧
    (agePeers target s).setup = s.setup ∧ (agePeers target s).flags = s.flags ∧
    (agePeers target s).transit = s.transit ∧ (agePeers target s).freeIndex = s.freeIndex := by
  unfold agePeers; simp

@[simp] theorem generateDemand_keeps (s : State) :
    (generateDemand s).pending = s.pending ∧ (generateDemand s).power = s.power ∧
    (generateDemand s).pins = s.pins ∧ (generateDemand s).configStore = s.configStore ∧
    (generateDemand s).flash = s.flash ∧ (generateDemand s).station = s.station ∧
    (generateDemand s).image = s.image ∧ (generateDemand s).timebase = s.timebase ∧
    (generateDemand s).cues = s.cues ∧ (generateDemand s).conditions = s.conditions ∧
    (generateDemand s).look = s.look ∧ (generateDemand s).fade = s.fade ∧
    (generateDemand s).store = s.store ∧ (generateDemand s).protection = s.protection ∧
    (generateDemand s).wall = s.wall ∧ (generateDemand s).setup = s.setup ∧
    (generateDemand s).flags = s.flags ∧ (generateDemand s).transit = s.transit ∧
    (generateDemand s).freeIndex = s.freeIndex := by
  unfold generateDemand; simp

@[simp] theorem closeBudget_keeps (s : State) :
    (closeBudget s).pending = s.pending ∧ (closeBudget s).power = s.power ∧ (closeBudget s).pins = s.pins ∧
    (closeBudget s).configStore = s.configStore ∧ (closeBudget s).flash = s.flash ∧
    (closeBudget s).station = s.station ∧ (closeBudget s).image = s.image ∧
    (closeBudget s).timebase = s.timebase ∧ (closeBudget s).line = s.line ∧ (closeBudget s).cues = s.cues ∧
    (closeBudget s).conditions = s.conditions ∧ (closeBudget s).look = s.look ∧
    (closeBudget s).fade = s.fade ∧ (closeBudget s).store = s.store ∧
    (closeBudget s).protection = s.protection ∧ (closeBudget s).wall = s.wall ∧
    (closeBudget s).setup = s.setup ∧ (closeBudget s).flags = s.flags ∧
    (closeBudget s).transit = s.transit ∧ (closeBudget s).freeIndex = s.freeIndex := by
  unfold closeBudget; simp

@[simp] theorem generateAndClose_keeps (s : State) :
    (generateAndClose s).pending = s.pending ∧ (generateAndClose s).power = s.power ∧
    (generateAndClose s).pins = s.pins ∧ (generateAndClose s).configStore = s.configStore ∧
    (generateAndClose s).flash = s.flash ∧ (generateAndClose s).station = s.station ∧
    (generateAndClose s).image = s.image ∧ (generateAndClose s).timebase = s.timebase ∧
    (generateAndClose s).cues = s.cues ∧ (generateAndClose s).conditions = s.conditions ∧
    (generateAndClose s).look = s.look ∧ (generateAndClose s).fade = s.fade ∧
    (generateAndClose s).store = s.store ∧ (generateAndClose s).protection = s.protection ∧
    (generateAndClose s).wall = s.wall ∧ (generateAndClose s).setup = s.setup ∧
    (generateAndClose s).flags = s.flags ∧ (generateAndClose s).transit = s.transit ∧
    (generateAndClose s).freeIndex = s.freeIndex := by
  unfold generateAndClose; simp

@[simp] theorem settleScale_keeps (e : FrameEvent) (s : State) :
    (settleScale e s).pending = s.pending ∧ (settleScale e s).power = s.power ∧
    (settleScale e s).pins = s.pins ∧ (settleScale e s).configStore = s.configStore ∧
    (settleScale e s).flash = s.flash ∧ (settleScale e s).station = s.station ∧
    (settleScale e s).image = s.image ∧ (settleScale e s).timebase = s.timebase ∧
    (settleScale e s).line = s.line ∧ (settleScale e s).cues = s.cues ∧
    (settleScale e s).conditions = s.conditions ∧ (settleScale e s).look = s.look ∧
    (settleScale e s).fade = s.fade ∧ (settleScale e s).store = s.store ∧
    (settleScale e s).protection = s.protection ∧ (settleScale e s).wall = s.wall ∧
    (settleScale e s).setup = s.setup ∧ (settleScale e s).flags = s.flags ∧
    (settleScale e s).counters = s.counters ∧ (settleScale e s).freeIndex = s.freeIndex := by
  unfold settleScale; simp

@[simp] theorem budgetFrame_keeps (e : FrameEvent) (s : State) :
    (budgetFrame e s).pending = s.pending ∧ (budgetFrame e s).power = s.power ∧
    (budgetFrame e s).pins = s.pins ∧ (budgetFrame e s).configStore = s.configStore ∧
    (budgetFrame e s).flash = s.flash ∧ (budgetFrame e s).station = s.station ∧
    (budgetFrame e s).image = s.image ∧ (budgetFrame e s).timebase = s.timebase ∧
    (budgetFrame e s).cues = s.cues ∧ (budgetFrame e s).conditions = s.conditions ∧
    (budgetFrame e s).look = s.look ∧ (budgetFrame e s).fade = s.fade ∧ (budgetFrame e s).store = s.store ∧
    (budgetFrame e s).protection = s.protection ∧ (budgetFrame e s).wall = s.wall ∧
    (budgetFrame e s).setup = s.setup ∧ (budgetFrame e s).flags = s.flags ∧
    (budgetFrame e s).freeIndex = s.freeIndex := by
  unfold budgetFrame; split <;> simp

@[simp] theorem budgetFrameStart_keeps (s : State) :
    (budgetFrameStart s).pending = s.pending ∧ (budgetFrameStart s).power = s.power ∧
    (budgetFrameStart s).pins = s.pins ∧ (budgetFrameStart s).configStore = s.configStore ∧
    (budgetFrameStart s).flash = s.flash ∧ (budgetFrameStart s).station = s.station ∧
    (budgetFrameStart s).image = s.image ∧ (budgetFrameStart s).timebase = s.timebase ∧
    (budgetFrameStart s).cues = s.cues ∧ (budgetFrameStart s).conditions = s.conditions ∧
    (budgetFrameStart s).look = s.look ∧ (budgetFrameStart s).fade = s.fade ∧
    (budgetFrameStart s).store = s.store ∧ (budgetFrameStart s).protection = s.protection ∧
    (budgetFrameStart s).wall = s.wall ∧ (budgetFrameStart s).setup = s.setup ∧
    (budgetFrameStart s).flags = s.flags ∧ (budgetFrameStart s).freeIndex = s.freeIndex := by
  unfold budgetFrameStart; split <;> simp

@[simp] theorem joinNotice_keeps (s : State) :
    (joinNotice s).pending = s.pending ∧ (joinNotice s).power = s.power ∧ (joinNotice s).pins = s.pins ∧
    (joinNotice s).configStore = s.configStore ∧ (joinNotice s).flash = s.flash ∧
    (joinNotice s).station = s.station ∧ (joinNotice s).image = s.image ∧
    (joinNotice s).timebase = s.timebase ∧ (joinNotice s).cues = s.cues ∧
    (joinNotice s).conditions = s.conditions ∧ (joinNotice s).look = s.look ∧
    (joinNotice s).fade = s.fade ∧ (joinNotice s).store = s.store ∧
    (joinNotice s).protection = s.protection ∧ (joinNotice s).wall = s.wall ∧
    (joinNotice s).setup = s.setup ∧ (joinNotice s).flags = s.flags ∧
    (joinNotice s).freeIndex = s.freeIndex := by
  unfold joinNotice; (repeat' split) <;> simp

@[simp] theorem restartBlocks_keeps (station : Station) (s : State) :
    (restartBlocks station s).pending = s.pending ∧ (restartBlocks station s).power = s.power ∧
    (restartBlocks station s).pins = s.pins ∧ (restartBlocks station s).configStore = s.configStore ∧
    (restartBlocks station s).flash = s.flash ∧ (restartBlocks station s).freeIndex = s.freeIndex := by
  unfold restartBlocks; simp

@[simp] theorem setStraps_keeps (straps : Straps) (s : State) :
    (setStraps straps s).pending = s.pending ∧ (setStraps straps s).power = s.power ∧
    (setStraps straps s).configStore = s.configStore ∧ (setStraps straps s).flash = s.flash ∧
    (setStraps straps s).station = s.station ∧ (setStraps straps s).image = s.image ∧
    (setStraps straps s).timebase = s.timebase ∧ (setStraps straps s).line = s.line ∧
    (setStraps straps s).cues = s.cues ∧ (setStraps straps s).conditions = s.conditions ∧
    (setStraps straps s).look = s.look ∧ (setStraps straps s).fade = s.fade ∧
    (setStraps straps s).store = s.store ∧ (setStraps straps s).protection = s.protection ∧
    (setStraps straps s).wall = s.wall ∧ (setStraps straps s).budget = s.budget ∧
    (setStraps straps s).setup = s.setup ∧ (setStraps straps s).flags = s.flags ∧
    (setStraps straps s).counters = s.counters ∧ (setStraps straps s).transit = s.transit ∧
    (setStraps straps s).freeIndex = s.freeIndex := by
  unfold setStraps; simp

@[simp] theorem restart_keeps (straps : Straps) (cause : RestartCause) (source : Option StationNo) (s : State) :
    (restart straps cause source s).pending = s.pending ∧ (restart straps cause source s).power = s.power ∧
    (restart straps cause source s).configStore = s.configStore ∧
    (restart straps cause source s).flash = s.flash ∧
    (restart straps cause source s).freeIndex = s.freeIndex := by
  unfold restart; simp

@[simp] theorem restartByMessage_keeps (straps : Straps) (s : State) :
    (restartByMessage straps s).pending = s.pending ∧ (restartByMessage straps s).power = s.power ∧
    (restartByMessage straps s).configStore = s.configStore ∧ (restartByMessage straps s).flash = s.flash ∧
    (restartByMessage straps s).freeIndex = s.freeIndex := by
  unfold restartByMessage; split <;> simp

@[simp] theorem breakOff_keeps (s : State) :
    (breakOff s).pending = s.pending ∧ (breakOff s).power = s.power ∧ (breakOff s).pins = s.pins ∧
    (breakOff s).station = s.station ∧ (breakOff s).image = s.image ∧ (breakOff s).timebase = s.timebase ∧
    (breakOff s).line = s.line ∧ (breakOff s).cues = s.cues ∧ (breakOff s).conditions = s.conditions ∧
    (breakOff s).look = s.look ∧ (breakOff s).fade = s.fade ∧ (breakOff s).store = s.store ∧
    (breakOff s).protection = s.protection ∧ (breakOff s).wall = s.wall ∧ (breakOff s).budget = s.budget ∧
    (breakOff s).setup = s.setup ∧ (breakOff s).flags = s.flags ∧ (breakOff s).counters = s.counters ∧
    (breakOff s).transit = s.transit := by
  unfold breakOff; split <;> simp

@[simp] theorem powerOn_keeps (pins : Pins) (s : State) :
    (powerOn pins s).pending = s.pending := by
  unfold powerOn; simp

@[simp] theorem powerLoss_keeps (s : State) :
    (powerLoss s).pending = s.pending ∧ (powerLoss s).pins = s.pins := by
  unfold powerLoss; simp

@[simp] theorem resetPinAssertion_keeps (s : State) :
    (resetPinAssertion s).pending = s.pending ∧ (resetPinAssertion s).pins = s.pins := by
  unfold resetPinAssertion; split <;> simp

@[simp] theorem resetPinDeassertion_keeps (straps : Straps) (s : State) :
    (resetPinDeassertion straps s).pending = s.pending ∧
    (resetPinDeassertion straps s).configStore = s.configStore ∧
    (resetPinDeassertion straps s).flash = s.flash ∧ (resetPinDeassertion straps s).freeIndex = s.freeIndex := by
  unfold resetPinDeassertion; (repeat' split) <;> simp

@[simp] theorem enterSafe_keeps (cause : SafeCause) (failed : Option Nat) (s : State) :
    (enterSafe cause failed s).pending = s.pending ∧ (enterSafe cause failed s).power = s.power ∧
    (enterSafe cause failed s).pins = s.pins ∧ (enterSafe cause failed s).configStore = s.configStore ∧
    (enterSafe cause failed s).flash = s.flash ∧ (enterSafe cause failed s).image = s.image ∧
    (enterSafe cause failed s).look = s.look ∧ (enterSafe cause failed s).setup = s.setup ∧
    (enterSafe cause failed s).flags = s.flags ∧ (enterSafe cause failed s).counters = s.counters ∧
    (enterSafe cause failed s).freeIndex = s.freeIndex := by
  unfold enterSafe; simp

@[simp] theorem stnEdge_keeps (strap : Fin 5) (level : Bool) (now : Nanos) (s : State) :
    (stnEdge strap level now s).pending = s.pending ∧ (stnEdge strap level now s).power = s.power ∧
    (stnEdge strap level now s).configStore = s.configStore ∧ (stnEdge strap level now s).flash = s.flash ∧
    (stnEdge strap level now s).image = s.image ∧ (stnEdge strap level now s).timebase = s.timebase ∧
    (stnEdge strap level now s).line = s.line ∧ (stnEdge strap level now s).cues = s.cues ∧
    (stnEdge strap level now s).conditions = s.conditions ∧ (stnEdge strap level now s).look = s.look ∧
    (stnEdge strap level now s).fade = s.fade ∧ (stnEdge strap level now s).store = s.store ∧
    (stnEdge strap level now s).protection = s.protection ∧ (stnEdge strap level now s).wall = s.wall ∧
    (stnEdge strap level now s).budget = s.budget ∧ (stnEdge strap level now s).setup = s.setup ∧
    (stnEdge strap level now s).flags = s.flags ∧ (stnEdge strap level now s).counters = s.counters ∧
    (stnEdge strap level now s).transit = s.transit ∧ (stnEdge strap level now s).freeIndex = s.freeIndex := by
  unfold stnEdge; (repeat' split) <;> simp

@[simp] theorem strapChange_keeps (strap : Fin 5) (s : State) :
    (strapChange strap s).pending = s.pending ∧ (strapChange strap s).power = s.power ∧
    (strapChange strap s).pins = s.pins ∧ (strapChange strap s).configStore = s.configStore ∧
    (strapChange strap s).flash = s.flash ∧ (strapChange strap s).image = s.image ∧
    (strapChange strap s).look = s.look ∧ (strapChange strap s).setup = s.setup ∧
    (strapChange strap s).flags = s.flags ∧ (strapChange strap s).counters = s.counters ∧
    (strapChange strap s).freeIndex = s.freeIndex := by
  unfold strapChange; split <;> simp

@[simp] theorem startStation_keeps (image : Image) (now : Nanos) (s : State) :
    (startStation image now s).pending = s.pending ∧ (startStation image now s).power = s.power ∧
    (startStation image now s).pins = s.pins ∧ (startStation image now s).configStore = s.configStore ∧
    (startStation image now s).cues = s.cues ∧ (startStation image now s).fade = s.fade ∧
    (startStation image now s).setup = s.setup ∧ (startStation image now s).flags = s.flags ∧
    (startStation image now s).counters = s.counters ∧ (startStation image now s).transit = s.transit ∧
    (startStation image now s).freeIndex = s.freeIndex := by
  unfold startStation; simp

@[simp] theorem failImage_keeps (cause : SafeCause) (failed : Option Nat) (s : State) :
    (failImage cause failed s).pending = s.pending ∧ (failImage cause failed s).power = s.power ∧
    (failImage cause failed s).pins = s.pins ∧ (failImage cause failed s).configStore = s.configStore ∧
    (failImage cause failed s).flash = s.flash ∧ (failImage cause failed s).look = s.look ∧
    (failImage cause failed s).setup = s.setup ∧ (failImage cause failed s).flags = s.flags ∧
    (failImage cause failed s).counters = s.counters ∧ (failImage cause failed s).freeIndex = s.freeIndex := by
  unfold failImage; simp

@[simp] theorem loadingEnd_keeps (now : Nanos) (s : State) :
    (loadingEnd now s).pending = s.pending ∧ (loadingEnd now s).power = s.power ∧
    (loadingEnd now s).pins = s.pins ∧ (loadingEnd now s).configStore = s.configStore ∧
    (loadingEnd now s).setup = s.setup ∧ (loadingEnd now s).flags = s.flags ∧
    (loadingEnd now s).counters = s.counters ∧ (loadingEnd now s).freeIndex = s.freeIndex := by
  unfold loadingEnd; (repeat' split) <;> simp

@[simp] theorem scanEndNotice_keeps (s : State) :
    (scanEndNotice s).pending = s.pending ∧ (scanEndNotice s).power = s.power ∧
    (scanEndNotice s).pins = s.pins ∧ (scanEndNotice s).configStore = s.configStore ∧
    (scanEndNotice s).flash = s.flash ∧ (scanEndNotice s).image = s.image ∧
    (scanEndNotice s).timebase = s.timebase ∧ (scanEndNotice s).line = s.line ∧
    (scanEndNotice s).cues = s.cues ∧ (scanEndNotice s).conditions = s.conditions ∧
    (scanEndNotice s).look = s.look ∧ (scanEndNotice s).fade = s.fade ∧ (scanEndNotice s).store = s.store ∧
    (scanEndNotice s).protection = s.protection ∧ (scanEndNotice s).wall = s.wall ∧
    (scanEndNotice s).budget = s.budget ∧ (scanEndNotice s).setup = s.setup ∧
    (scanEndNotice s).flags = s.flags ∧ (scanEndNotice s).counters = s.counters ∧
    (scanEndNotice s).freeIndex = s.freeIndex := by
  unfold scanEndNotice; (repeat' split) <;> simp

@[simp] theorem enterJoining_keeps (outcome : SeekOutcome) (e : FrameEvent) (s : State) :
    (enterJoining outcome e s).pending = s.pending ∧ (enterJoining outcome e s).power = s.power ∧
    (enterJoining outcome e s).pins = s.pins ∧ (enterJoining outcome e s).configStore = s.configStore ∧
    (enterJoining outcome e s).flash = s.flash ∧ (enterJoining outcome e s).image = s.image ∧
    (enterJoining outcome e s).timebase = s.timebase ∧ (enterJoining outcome e s).line = s.line ∧
    (enterJoining outcome e s).cues = s.cues ∧ (enterJoining outcome e s).conditions = s.conditions ∧
    (enterJoining outcome e s).look = s.look ∧ (enterJoining outcome e s).fade = s.fade ∧
    (enterJoining outcome e s).store = s.store ∧ (enterJoining outcome e s).protection = s.protection ∧
    (enterJoining outcome e s).wall = s.wall ∧ (enterJoining outcome e s).budget = s.budget ∧
    (enterJoining outcome e s).setup = s.setup ∧ (enterJoining outcome e s).flags = s.flags ∧
    (enterJoining outcome e s).counters = s.counters ∧ (enterJoining outcome e s).freeIndex = s.freeIndex := by
  unfold enterJoining; simp

@[simp] theorem enterRunning_keeps (e : FrameEvent) (s : State) :
    (enterRunning e s).pending = s.pending ∧ (enterRunning e s).power = s.power ∧
    (enterRunning e s).pins = s.pins ∧ (enterRunning e s).configStore = s.configStore ∧
    (enterRunning e s).flash = s.flash ∧ (enterRunning e s).image = s.image ∧
    (enterRunning e s).timebase = s.timebase ∧ (enterRunning e s).line = s.line ∧
    (enterRunning e s).cues = s.cues ∧ (enterRunning e s).conditions = s.conditions ∧
    (enterRunning e s).look = s.look ∧ (enterRunning e s).fade = s.fade ∧
    (enterRunning e s).store = s.store ∧ (enterRunning e s).protection = s.protection ∧
    (enterRunning e s).wall = s.wall ∧ (enterRunning e s).budget = s.budget ∧
    (enterRunning e s).setup = s.setup ∧ (enterRunning e s).flags = s.flags ∧
    (enterRunning e s).counters = s.counters ∧ (enterRunning e s).freeIndex = s.freeIndex := by
  unfold enterRunning; simp

@[simp] theorem countFrame_keeps (s : State) :
    (countFrame s).pending = s.pending ∧ (countFrame s).power = s.power ∧ (countFrame s).pins = s.pins ∧
    (countFrame s).configStore = s.configStore ∧ (countFrame s).flash = s.flash ∧
    (countFrame s).image = s.image ∧ (countFrame s).timebase = s.timebase ∧ (countFrame s).line = s.line ∧
    (countFrame s).cues = s.cues ∧ (countFrame s).conditions = s.conditions ∧
    (countFrame s).look = s.look ∧ (countFrame s).fade = s.fade ∧ (countFrame s).store = s.store ∧
    (countFrame s).protection = s.protection ∧ (countFrame s).wall = s.wall ∧
    (countFrame s).budget = s.budget ∧ (countFrame s).setup = s.setup ∧ (countFrame s).flags = s.flags ∧
    (countFrame s).counters = s.counters ∧ (countFrame s).transit = s.transit ∧
    (countFrame s).freeIndex = s.freeIndex := by
  unfold countFrame; simp

@[simp] theorem setControllerFrame_keeps (e : FrameEvent) (s : State) :
    (setControllerFrame e s).pending = s.pending ∧ (setControllerFrame e s).power = s.power ∧
    (setControllerFrame e s).pins = s.pins ∧ (setControllerFrame e s).configStore = s.configStore ∧
    (setControllerFrame e s).flash = s.flash ∧ (setControllerFrame e s).image = s.image ∧
    (setControllerFrame e s).timebase = s.timebase ∧ (setControllerFrame e s).line = s.line ∧
    (setControllerFrame e s).cues = s.cues ∧ (setControllerFrame e s).conditions = s.conditions ∧
    (setControllerFrame e s).look = s.look ∧ (setControllerFrame e s).fade = s.fade ∧
    (setControllerFrame e s).store = s.store ∧ (setControllerFrame e s).protection = s.protection ∧
    (setControllerFrame e s).wall = s.wall ∧ (setControllerFrame e s).budget = s.budget ∧
    (setControllerFrame e s).setup = s.setup ∧ (setControllerFrame e s).flags = s.flags ∧
    (setControllerFrame e s).counters = s.counters ∧ (setControllerFrame e s).transit = s.transit ∧
    (setControllerFrame e s).freeIndex = s.freeIndex := by
  unfold setControllerFrame; simp

@[simp] theorem controllerCounts_keeps (e : FrameEvent) (s : State) :
    (controllerCounts e s).pending = s.pending ∧ (controllerCounts e s).power = s.power ∧
    (controllerCounts e s).pins = s.pins ∧ (controllerCounts e s).configStore = s.configStore ∧
    (controllerCounts e s).flash = s.flash ∧ (controllerCounts e s).image = s.image ∧
    (controllerCounts e s).timebase = s.timebase ∧ (controllerCounts e s).line = s.line ∧
    (controllerCounts e s).cues = s.cues ∧ (controllerCounts e s).conditions = s.conditions ∧
    (controllerCounts e s).look = s.look ∧ (controllerCounts e s).fade = s.fade ∧
    (controllerCounts e s).store = s.store ∧ (controllerCounts e s).protection = s.protection ∧
    (controllerCounts e s).wall = s.wall ∧ (controllerCounts e s).budget = s.budget ∧
    (controllerCounts e s).setup = s.setup ∧ (controllerCounts e s).flags = s.flags ∧
    (controllerCounts e s).counters = s.counters ∧ (controllerCounts e s).freeIndex = s.freeIndex := by
  unfold controllerCounts; dsimp only; (repeat' split) <;> simp

@[simp] theorem controllerFrame_keeps (e : FrameEvent) (s : State) :
    (controllerFrame e s).pending = s.pending ∧ (controllerFrame e s).power = s.power ∧
    (controllerFrame e s).pins = s.pins ∧ (controllerFrame e s).configStore = s.configStore ∧
    (controllerFrame e s).flash = s.flash ∧ (controllerFrame e s).image = s.image ∧
    (controllerFrame e s).timebase = s.timebase ∧ (controllerFrame e s).line = s.line ∧
    (controllerFrame e s).cues = s.cues ∧ (controllerFrame e s).conditions = s.conditions ∧
    (controllerFrame e s).look = s.look ∧ (controllerFrame e s).fade = s.fade ∧
    (controllerFrame e s).store = s.store ∧ (controllerFrame e s).protection = s.protection ∧
    (controllerFrame e s).wall = s.wall ∧ (controllerFrame e s).budget = s.budget ∧
    (controllerFrame e s).setup = s.setup ∧ (controllerFrame e s).flags = s.flags ∧
    (controllerFrame e s).counters = s.counters ∧ (controllerFrame e s).freeIndex = s.freeIndex := by
  unfold controllerFrame; simp

@[simp] theorem controllerFrameStart_keeps (s : State) :
    (controllerFrameStart s).pending = s.pending ∧ (controllerFrameStart s).power = s.power ∧
    (controllerFrameStart s).pins = s.pins ∧ (controllerFrameStart s).configStore = s.configStore ∧
    (controllerFrameStart s).flash = s.flash ∧ (controllerFrameStart s).image = s.image ∧
    (controllerFrameStart s).timebase = s.timebase ∧ (controllerFrameStart s).line = s.line ∧
    (controllerFrameStart s).cues = s.cues ∧ (controllerFrameStart s).conditions = s.conditions ∧
    (controllerFrameStart s).look = s.look ∧ (controllerFrameStart s).fade = s.fade ∧
    (controllerFrameStart s).store = s.store ∧ (controllerFrameStart s).protection = s.protection ∧
    (controllerFrameStart s).wall = s.wall ∧ (controllerFrameStart s).budget = s.budget ∧
    (controllerFrameStart s).setup = s.setup ∧ (controllerFrameStart s).flags = s.flags ∧
    (controllerFrameStart s).counters = s.counters ∧ (controllerFrameStart s).freeIndex = s.freeIndex := by
  unfold controllerFrameStart; split <;> simp

@[simp] theorem takeRestart_keeps (m : Message) (s : State) :
    (takeRestart m s).pending = s.pending ∧ (takeRestart m s).power = s.power ∧
    (takeRestart m s).pins = s.pins ∧ (takeRestart m s).configStore = s.configStore ∧
    (takeRestart m s).flash = s.flash ∧ (takeRestart m s).image = s.image ∧
    (takeRestart m s).timebase = s.timebase ∧ (takeRestart m s).line = s.line ∧
    (takeRestart m s).cues = s.cues ∧ (takeRestart m s).conditions = s.conditions ∧
    (takeRestart m s).look = s.look ∧ (takeRestart m s).fade = s.fade ∧ (takeRestart m s).store = s.store ∧
    (takeRestart m s).protection = s.protection ∧ (takeRestart m s).wall = s.wall ∧
    (takeRestart m s).budget = s.budget ∧ (takeRestart m s).setup = s.setup ∧
    (takeRestart m s).flags = s.flags ∧ (takeRestart m s).counters = s.counters ∧
    (takeRestart m s).freeIndex = s.freeIndex := by
  unfold takeRestart; split <;> simp

@[simp] theorem arrayQuiet_keeps (straps : Straps) (s : State) :
    (arrayQuiet straps s).pending = s.pending ∧ (arrayQuiet straps s).power = s.power ∧
    (arrayQuiet straps s).configStore = s.configStore ∧ (arrayQuiet straps s).flash = s.flash ∧
    (arrayQuiet straps s).freeIndex = s.freeIndex := by
  unfold arrayQuiet; (repeat' split) <;> simp

@[simp] theorem setupTargetAddress_keeps (b : Byte) (s : State) :
    (setupTargetAddress b s).pending = s.pending ∧ (setupTargetAddress b s).power = s.power ∧
    (setupTargetAddress b s).pins = s.pins ∧ (setupTargetAddress b s).configStore = s.configStore ∧
    (setupTargetAddress b s).flash = s.flash ∧ (setupTargetAddress b s).station = s.station ∧
    (setupTargetAddress b s).image = s.image ∧ (setupTargetAddress b s).timebase = s.timebase ∧
    (setupTargetAddress b s).line = s.line ∧ (setupTargetAddress b s).cues = s.cues ∧
    (setupTargetAddress b s).conditions = s.conditions ∧ (setupTargetAddress b s).look = s.look ∧
    (setupTargetAddress b s).fade = s.fade ∧ (setupTargetAddress b s).store = s.store ∧
    (setupTargetAddress b s).protection = s.protection ∧ (setupTargetAddress b s).wall = s.wall ∧
    (setupTargetAddress b s).budget = s.budget ∧ (setupTargetAddress b s).flags = s.flags ∧
    (setupTargetAddress b s).counters = s.counters ∧ (setupTargetAddress b s).transit = s.transit ∧
    (setupTargetAddress b s).freeIndex = s.freeIndex := by
  unfold setupTargetAddress; dsimp only; (repeat' split) <;> simp

@[simp] theorem setupAddressByte_keeps (b : Byte) (s : State) :
    (setupAddressByte b s).pending = s.pending ∧ (setupAddressByte b s).power = s.power ∧
    (setupAddressByte b s).pins = s.pins ∧ (setupAddressByte b s).configStore = s.configStore ∧
    (setupAddressByte b s).flash = s.flash ∧ (setupAddressByte b s).station = s.station ∧
    (setupAddressByte b s).image = s.image ∧ (setupAddressByte b s).timebase = s.timebase ∧
    (setupAddressByte b s).line = s.line ∧ (setupAddressByte b s).cues = s.cues ∧
    (setupAddressByte b s).conditions = s.conditions ∧ (setupAddressByte b s).look = s.look ∧
    (setupAddressByte b s).fade = s.fade ∧ (setupAddressByte b s).store = s.store ∧
    (setupAddressByte b s).protection = s.protection ∧ (setupAddressByte b s).wall = s.wall ∧
    (setupAddressByte b s).budget = s.budget ∧ (setupAddressByte b s).flags = s.flags ∧
    (setupAddressByte b s).counters = s.counters ∧ (setupAddressByte b s).transit = s.transit ∧
    (setupAddressByte b s).freeIndex = s.freeIndex := by
  unfold setupAddressByte; split <;> simp

@[simp] theorem setupDataByte_keeps (b : Byte) (s : State) :
    (setupDataByte b s).pending = s.pending ∧ (setupDataByte b s).power = s.power ∧
    (setupDataByte b s).pins = s.pins ∧ (setupDataByte b s).configStore = s.configStore ∧
    (setupDataByte b s).flash = s.flash ∧ (setupDataByte b s).station = s.station ∧
    (setupDataByte b s).image = s.image ∧ (setupDataByte b s).timebase = s.timebase ∧
    (setupDataByte b s).line = s.line ∧ (setupDataByte b s).cues = s.cues ∧
    (setupDataByte b s).conditions = s.conditions ∧ (setupDataByte b s).look = s.look ∧
    (setupDataByte b s).fade = s.fade ∧ (setupDataByte b s).store = s.store ∧
    (setupDataByte b s).protection = s.protection ∧ (setupDataByte b s).wall = s.wall ∧
    (setupDataByte b s).budget = s.budget ∧ (setupDataByte b s).flags = s.flags ∧
    (setupDataByte b s).counters = s.counters ∧ (setupDataByte b s).transit = s.transit ∧
    (setupDataByte b s).freeIndex = s.freeIndex := by
  unfold setupDataByte; split <;> simp

@[simp] theorem setupWriteEnd_keeps (s : State) :
    (setupWriteEnd s).pending = s.pending ∧ (setupWriteEnd s).power = s.power ∧
    (setupWriteEnd s).pins = s.pins ∧ (setupWriteEnd s).configStore = s.configStore ∧
    (setupWriteEnd s).flash = s.flash ∧ (setupWriteEnd s).station = s.station ∧
    (setupWriteEnd s).image = s.image ∧ (setupWriteEnd s).timebase = s.timebase ∧
    (setupWriteEnd s).line = s.line ∧ (setupWriteEnd s).cues = s.cues ∧
    (setupWriteEnd s).conditions = s.conditions ∧ (setupWriteEnd s).look = s.look ∧
    (setupWriteEnd s).fade = s.fade ∧ (setupWriteEnd s).store = s.store ∧
    (setupWriteEnd s).protection = s.protection ∧ (setupWriteEnd s).wall = s.wall ∧
    (setupWriteEnd s).budget = s.budget ∧ (setupWriteEnd s).flags = s.flags ∧
    (setupWriteEnd s).counters = s.counters ∧ (setupWriteEnd s).transit = s.transit ∧
    (setupWriteEnd s).freeIndex = s.freeIndex := by
  unfold setupWriteEnd; split <;> simp

@[simp] theorem rowProgrammingEnd_keeps (s : State) :
    (rowProgrammingEnd s).pending = s.pending ∧ (rowProgrammingEnd s).power = s.power ∧
    (rowProgrammingEnd s).pins = s.pins ∧ (rowProgrammingEnd s).flash = s.flash ∧
    (rowProgrammingEnd s).station = s.station ∧ (rowProgrammingEnd s).image = s.image ∧
    (rowProgrammingEnd s).timebase = s.timebase ∧ (rowProgrammingEnd s).line = s.line ∧
    (rowProgrammingEnd s).cues = s.cues ∧ (rowProgrammingEnd s).conditions = s.conditions ∧
    (rowProgrammingEnd s).look = s.look ∧ (rowProgrammingEnd s).fade = s.fade ∧
    (rowProgrammingEnd s).store = s.store ∧ (rowProgrammingEnd s).protection = s.protection ∧
    (rowProgrammingEnd s).wall = s.wall ∧ (rowProgrammingEnd s).budget = s.budget ∧
    (rowProgrammingEnd s).flags = s.flags ∧ (rowProgrammingEnd s).counters = s.counters ∧
    (rowProgrammingEnd s).transit = s.transit ∧ (rowProgrammingEnd s).freeIndex = s.freeIndex := by
  unfold rowProgrammingEnd; split <;> simp

@[simp] theorem setupReadByte_keeps (s : State) :
    (setupReadByte s).pending = s.pending ∧ (setupReadByte s).power = s.power ∧
    (setupReadByte s).pins = s.pins ∧ (setupReadByte s).configStore = s.configStore ∧
    (setupReadByte s).flash = s.flash ∧ (setupReadByte s).station = s.station ∧
    (setupReadByte s).image = s.image ∧ (setupReadByte s).timebase = s.timebase ∧
    (setupReadByte s).line = s.line ∧ (setupReadByte s).cues = s.cues ∧
    (setupReadByte s).conditions = s.conditions ∧ (setupReadByte s).look = s.look ∧
    (setupReadByte s).fade = s.fade ∧ (setupReadByte s).store = s.store ∧
    (setupReadByte s).protection = s.protection ∧ (setupReadByte s).wall = s.wall ∧
    (setupReadByte s).budget = s.budget ∧ (setupReadByte s).flags = s.flags ∧
    (setupReadByte s).counters = s.counters ∧ (setupReadByte s).transit = s.transit ∧
    (setupReadByte s).freeIndex = s.freeIndex := by
  unfold setupReadByte; split <;> simp

@[simp] theorem setupReadEnd_keeps (s : State) :
    (setupReadEnd s).pending = s.pending ∧ (setupReadEnd s).power = s.power ∧
    (setupReadEnd s).pins = s.pins ∧ (setupReadEnd s).configStore = s.configStore ∧
    (setupReadEnd s).flash = s.flash ∧ (setupReadEnd s).station = s.station ∧
    (setupReadEnd s).image = s.image ∧ (setupReadEnd s).timebase = s.timebase ∧
    (setupReadEnd s).line = s.line ∧ (setupReadEnd s).cues = s.cues ∧
    (setupReadEnd s).conditions = s.conditions ∧ (setupReadEnd s).look = s.look ∧
    (setupReadEnd s).fade = s.fade ∧ (setupReadEnd s).store = s.store ∧
    (setupReadEnd s).protection = s.protection ∧ (setupReadEnd s).wall = s.wall ∧
    (setupReadEnd s).budget = s.budget ∧ (setupReadEnd s).flags = s.flags ∧
    (setupReadEnd s).counters = s.counters ∧ (setupReadEnd s).transit = s.transit ∧
    (setupReadEnd s).freeIndex = s.freeIndex := by
  unfold setupReadEnd; split <;> simp

@[simp] theorem takeQuery_keeps (m : Message) (s : State) :
    (takeQuery m s).pending = s.pending ∧ (takeQuery m s).power = s.power ∧ (takeQuery m s).pins = s.pins ∧
    (takeQuery m s).configStore = s.configStore ∧ (takeQuery m s).flash = s.flash ∧
    (takeQuery m s).station = s.station ∧ (takeQuery m s).image = s.image ∧
    (takeQuery m s).timebase = s.timebase ∧ (takeQuery m s).cues = s.cues ∧
    (takeQuery m s).conditions = s.conditions ∧ (takeQuery m s).look = s.look ∧
    (takeQuery m s).fade = s.fade ∧ (takeQuery m s).store = s.store ∧
    (takeQuery m s).protection = s.protection ∧ (takeQuery m s).wall = s.wall ∧
    (takeQuery m s).budget = s.budget ∧ (takeQuery m s).setup = s.setup ∧ (takeQuery m s).flags = s.flags ∧
    (takeQuery m s).transit = s.transit ∧ (takeQuery m s).freeIndex = s.freeIndex := by
  unfold takeQuery; split <;> simp

@[simp] theorem queryFor_keeps (record : Nat) (m : Message) (s : State) :
    (queryFor record m s).pending = s.pending ∧ (queryFor record m s).power = s.power ∧
    (queryFor record m s).pins = s.pins ∧ (queryFor record m s).configStore = s.configStore ∧
    (queryFor record m s).flash = s.flash ∧ (queryFor record m s).station = s.station ∧
    (queryFor record m s).image = s.image ∧ (queryFor record m s).timebase = s.timebase ∧
    (queryFor record m s).cues = s.cues ∧ (queryFor record m s).conditions = s.conditions ∧
    (queryFor record m s).look = s.look ∧ (queryFor record m s).fade = s.fade ∧
    (queryFor record m s).store = s.store ∧ (queryFor record m s).protection = s.protection ∧
    (queryFor record m s).wall = s.wall ∧ (queryFor record m s).budget = s.budget ∧
    (queryFor record m s).setup = s.setup ∧ (queryFor record m s).flags = s.flags ∧
    (queryFor record m s).transit = s.transit ∧ (queryFor record m s).freeIndex = s.freeIndex := by
  unfold queryFor; split <;> simp

end Sys2Proof.Machine
end

