-- ==== Sys2Proof/Laws/Memory.lean ====
section
/-! SUPPORT. The sparse stores: a read after a write, and the canonical form that every write keeps. -/

namespace Sys2Proof.Machine

variable {α : Type} [DecidableEq α] (d : α)

/-- A canonical store from `low` reads as `d` below `low`. -/
theorem sparseRead_below (m : List (Nat × α)) (low key : Nat) (h : sparseWfFrom d low m = true) (hk : key < low) :
    sparseRead d m key = d := by
  induction m generalizing low with
  | nil => rfl
  | cons e rest ih =>
    obtain ⟨k, a⟩ := e
    simp only [sparseWfFrom, Bool.and_eq_true, decide_eq_true_eq] at h
    simp only [sparseRead]
    rw [if_neg (by omega)]
    exact ih (k + 1) h.2 (by omega)

/-- A store canonical from a bound is canonical from a lower one. -/
theorem sparseWfFrom_mono (m : List (Nat × α)) (low low' : Nat) (h : sparseWfFrom d low m = true)
    (hl : low' ≤ low) : sparseWfFrom d low' m = true := by
  cases m with
  | nil => rfl
  | cons e rest =>
    obtain ⟨k, a⟩ := e
    simp only [sparseWfFrom, Bool.and_eq_true, decide_eq_true_eq] at h ⊢
    exact ⟨⟨by omega, h.1.2⟩, h.2⟩

/-- A write keeps the canonical form. -/
theorem sparseWrite_wf (m : List (Nat × α)) (low key : Nat) (a : α) (h : sparseWfFrom d low m = true)
    (hk : low ≤ key) : sparseWfFrom d low (sparseWrite d m key a) = true := by
  induction m generalizing low with
  | nil =>
    unfold sparseWrite
    split
    · rfl
    · simp [sparseWfFrom, *]
  | cons e rest ih =>
    obtain ⟨k, b⟩ := e
    simp only [sparseWfFrom, Bool.and_eq_true, decide_eq_true_eq] at h
    unfold sparseWrite
    split
    · split
      · simp [sparseWfFrom, h]
      · simp only [sparseWfFrom, Bool.and_eq_true, decide_eq_true_eq]
        exact ⟨⟨hk, by assumption⟩, ⟨by omega, h.1.2⟩, h.2⟩
    · split
      · split
        · exact sparseWfFrom_mono d rest (k + 1) low h.2 (by omega)
        · simp only [sparseWfFrom, Bool.and_eq_true, decide_eq_true_eq]
          subst key
          exact ⟨⟨hk, by assumption⟩, h.2⟩
      · simp only [sparseWfFrom, Bool.and_eq_true, decide_eq_true_eq]
        exact ⟨h.1, ih (k + 1) h.2 (by omega)⟩

/-- A read of the key written gives the value written; another key reads as before. -/
theorem sparseRead_write (m : List (Nat × α)) (low key key' : Nat) (a : α) (h : sparseWfFrom d low m = true) :
    sparseRead d (sparseWrite d m key a) key' = if key' = key then a else sparseRead d m key' := by
  induction m generalizing low with
  | nil =>
    unfold sparseWrite
    by_cases hk : key' = key
    · subst hk; split <;> simp [sparseRead, *]
    · split <;> simp [sparseRead, hk]
  | cons e rest ih =>
    obtain ⟨k, b⟩ := e
    simp only [sparseWfFrom, Bool.and_eq_true, decide_eq_true_eq] at h
    unfold sparseWrite
    by_cases hk : key' = key
    · subst hk
      rw [if_pos rfl]
      split
      · split
        · subst a
          simp only [sparseRead]
          rw [if_neg (by omega)]
          exact sparseRead_below d rest (k + 1) key' h.2 (by omega)
        · simp [sparseRead]
      · split
        · split
          · subst a
            exact sparseRead_below d rest (k + 1) key' h.2 (by omega)
          · simp [sparseRead]
        · simp only [sparseRead]
          rw [if_neg (by omega), ih (k + 1) h.2, if_pos rfl]
    · rw [if_neg hk]
      split
      · split
        · rfl
        · simp [sparseRead, hk]
      · split
        · split
          · subst k; simp [sparseRead, hk]
          · subst k; simp [sparseRead, hk]
        · simp only [sparseRead]
          rw [ih (k + 1) h.2, if_neg hk]

/-- Two canonical stores that read alike everywhere are equal. -/
theorem sparse_ext (m m' : List (Nat × α)) (low : Nat) (h : sparseWfFrom d low m = true)
    (h' : sparseWfFrom d low m' = true) (hr : ∀ key, sparseRead d m key = sparseRead d m' key) : m = m' := by
  induction m generalizing low m' with
  | nil =>
    cases m' with
    | nil => rfl
    | cons e rest =>
      obtain ⟨k, a⟩ := e
      simp only [sparseWfFrom, Bool.and_eq_true, decide_eq_true_eq] at h'
      have := hr k
      simp [sparseRead] at this
      exact absurd this.symm h'.1.2
  | cons e rest ih =>
    obtain ⟨k, a⟩ := e
    simp only [sparseWfFrom, Bool.and_eq_true, decide_eq_true_eq] at h
    cases m' with
    | nil =>
      have := hr k
      simp [sparseRead] at this
      exact absurd this h.1.2
    | cons e' rest' =>
      obtain ⟨k', a'⟩ := e'
      simp only [sparseWfFrom, Bool.and_eq_true, decide_eq_true_eq] at h'
      have hkk : k = k' := by
        rcases Nat.lt_trichotomy k k' with hlt | heq | hgt
        · have := hr k
          simp only [sparseRead, if_true] at this
          rw [if_neg (by omega), sparseRead_below d rest' (k' + 1) k h'.2 (by omega)] at this
          exact absurd this h.1.2
        · exact heq
        · have := hr k'
          simp only [sparseRead, if_true] at this
          rw [if_neg (by omega), sparseRead_below d rest (k + 1) k' h.2 (by omega)] at this
          exact absurd this.symm h'.1.2
      subst hkk
      have ha : a = a' := by have := hr k; simpa [sparseRead] using this
      subst ha
      congr 1
      refine ih rest' (k + 1) h.2 h'.2 fun key => ?_
      by_cases hk : key = k
      · subst hk
        rw [sparseRead_below d rest (key + 1) key h.2 (by omega),
          sparseRead_below d rest' (key + 1) key h'.2 (by omega)]
      · have := hr key
        simp only [sparseRead] at this
        rwa [if_neg hk, if_neg hk] at this

/-- The configuration store keeps its canonical form under a byte write. -/
theorem memWrite_wf (m : Memory) (a : Nat) (b : Byte) (h : memWf m = true) : memWf (memWrite m a b) = true :=
  sparseWrite_wf _ m 0 a b h (Nat.zero_le a)

/-- A byte read after a byte write. -/
theorem memRead_write (m : Memory) (a a' : Nat) (b : Byte) (h : memWf m = true) :
    memRead (memWrite m a b) a' = if a' = a then b else memRead m a' :=
  sparseRead_write _ m 0 a a' b h

/-- The configuration store keeps its canonical form under a row write. -/
theorem memWriteBytes_wf (bs : List Byte) (m : Memory) (base : Nat) (h : memWf m = true) :
    memWf (memWriteBytes m base bs) = true := by
  induction bs generalizing m base with
  | nil => exact h
  | cons b bs ih => exact ih _ _ (memWrite_wf m base b h)

/-- A byte read after a row write. -/
theorem memRead_writeBytes (bs : List Byte) (m : Memory) (base a : Nat) (h : memWf m = true) :
    memRead (memWriteBytes m base bs) a =
      if base ≤ a ∧ a < base + bs.length then bs.getD (a - base) 0 else memRead m a := by
  induction bs generalizing m base with
  | nil =>
    simp only [memWriteBytes, List.length_nil, Nat.add_zero]
    rw [if_neg (by omega)]
  | cons b bs ih =>
    simp only [memWriteBytes, List.length_cons]
    rw [ih _ _ (memWrite_wf m base b h), memRead_write m base a b h]
    by_cases h1 : a = base
    · subst h1
      rw [if_neg (by omega), if_pos rfl, if_pos (by omega)]
      simp
    · by_cases h2 : base + 1 ≤ a ∧ a < base + 1 + bs.length
      · rw [if_pos h2, if_pos (by omega)]
        obtain ⟨n, hn⟩ : ∃ n, a - base = n + 1 := ⟨a - base - 1, by omega⟩
        have hn' : a - (base + 1) = n := by omega
        rw [hn, hn']
        simp
      · rw [if_neg h2, if_neg h1, if_neg (by omega)]

/-- A bank keeps its canonical form under a pixel write. -/
theorem bankWrite_wf (b : Bank) (col row : Nat) (p : Pixel) (h : bankWf b = true) :
    bankWf (bankWrite b col row p) = true :=
  sparseWrite_wf _ b 0 (bankKey col row) p h (Nat.zero_le _)

/-- A pixel read after a pixel write. -/
theorem bankRead_write (b : Bank) (col row col' row' : Nat) (p : Pixel) (h : bankWf b = true)
    (hc : col < 1024) (hc' : col' < 1024) :
    bankRead (bankWrite b col row p) col' row' =
      if col' = col ∧ row' = row then p else bankRead b col' row' := by
  unfold bankRead bankWrite
  rw [sparseRead_write _ b 0 _ _ p h]
  by_cases hk : col' = col ∧ row' = row
  · rw [if_pos hk, if_pos (by unfold bankKey; omega)]
  · rw [if_neg hk, if_neg (by unfold bankKey; omega)]

end Sys2Proof.Machine
end

