-- ==== Sys2Proof/WellFormed.lean ====
section
/-! DEFINITION. Which commands are well formed: a message's body fits the longest message (R18), and a
command that names one case of a message carries a message of that case. -/

namespace Sys2Proof

open Sys2Proof.Machine

/-- A body of at most 68 bytes: the greatest length field (R18, R19). -/
def messageFits (m : Message) : Bool := decide (m.body.length ≤ 68)

/-- The well-formed commands. -/
def Instr.wellFormed : Instr → Bool
  | .checkValueMismatch k m => messageFits m && !checkAgrees k m
  | .unknownKind k m => messageFits m && (kindOfCode k).isNone
  | .take m => messageFits m && decide ((takeFields m).action ≠ cancelCode)
  | .cancel m => messageFits m && decide ((takeFields m).action = cancelCode)
  | .protectOn m => messageFits m && decide (protectCode m = 1)
  | .protectOff m => messageFits m && decide (protectCode m = 0)
  | .protectCodeError m => messageFits m && decide (1 < (protectCode m).toNat)
  | .mapErase m => messageFits m && decide (mapCode m = 0)
  | .mapProgram m => messageFits m && decide (mapCode m = 1)
  | .mapCodeError m => messageFits m && decide (1 < (mapCode m).toNat)
  | .queryStatus m => messageFits m && decide (queryRecord m = 1)
  | .queryBudget m => messageFits m && decide (queryRecord m = 2)
  | .queryPeer m => messageFits m && decide (queryRecord m = 3)
  | .queryCues m => messageFits m && decide (queryRecord m = 4)
  | .queryLook m => messageFits m && decide (queryRecord m = 5)
  | .queryDirectory m => messageFits m && decide (queryRecord m = 6)
  | .queryCounters m => messageFits m && decide (queryRecord m = 7)
  | .queryChannel m => messageFits m && decide (queryRecord m = 8)
  | .queryWall m => messageFits m && decide (queryRecord m = 9)
  | .queryUnknownRecord m =>
    messageFits m && (decide (queryRecord m = 0) || decide (9 < (queryRecord m).toNat))
  | .time m | .reportReceived m | .cond m | .preset m | .commit m | .demand m | .restart m =>
    messageFits m
  | .powerOn _ | .resetPinAssertion | .resetPinDeassertion _ | .loadingEnd _ | .stnEdge _ _ _
  | .strapChange _ | .genlockPulse _ | .lossDeadline | .internalTimerExpiry | .seekEnd | .lineIdle
  | .synchronisingWaitEnd | .framingError | .attemptStart | .attemptLost | .messageDiscard
  | .attemptWon | .backoffWaitEnd | .cueListFrameStart | .runNoticeCueList | .cinEdge _ _ _
  | .debouncedChange _ | .runNoticeLook | .lookFrameStart | .dwellExpiry | .conditionChangeNotice
  | .lookHome | .fadeStartRequest _ | .contentAnswer | .answerWithoutContent | .fadeFrameStart
  | .fadeCompletion | .scaleArrivalFade | .protectionNotice | .runNoticeFade | .presetReadRequest
  | .arrayReadEnd | .suspensionReached | .eraseEnd | .programEnd | .verifyEnd _ | .mapEraseEnd
  | .mapProgramEnd | .startScanEnd | .restartRequest | .onAirEdge _ _ | .onAirAssertion
  | .onAirDeassertion | .mapCompletionNotice | .startScanMap | .rasterFrameStart | .lineMarker
  | .rasterPixel _ | .codeError | .wallFrameStart | .scaleArrivalWall | .scanEnd | .wallFreeze
  | .wallRun | .wallMute | .wallUnmute | .wallProfile _ | .runNoticeWall | .budgetFrameStart
  | .joinNotice | .scanEndNotice | .controllerFrameStart | .seekFramesEnd | .joinFramesEnd
  | .arrayQuiet _ | .setupTargetAddress _ | .setupAddressByte _ | .setupDataByte _ | .setupWriteEnd
  | .rowProgrammingEnd | .setupReadByte | .setupReadEnd | .startPattern _ | .startPatternError
  | .powerLoss | .fixturePacketsSent => true

end Sys2Proof
end

