-- ==== Sys2Proof/Tests/Slice0.lean ====
section
/-! SUPPORT. Tests: the well-formedness smoke, the worked figures of the spec, and for each statement with
hypotheses a state and operands that meet them. Expected values come from the spec's text, or by hand from its
formulas. -/

namespace Sys2Proof.Tests

-- one test at a time: tests that wait for each other side by side take a thread each
set_option Elab.async false

open Sys2Proof Sys2Proof.Machine

/-! ### Helpers -/

/-- Station 5 after reset in a station state, with the line at GAP. -/
def inState (st : StationState) : State :=
  { State.reset with
    station := { State.reset.station with state := st, number := 5 }
    line := { lineAtRestart 5 with lineState := .gap } }

/-- Station 5 in RUNNING. -/
def onAir : State := inState .running

/-- The state a command leads to. -/
def after (c : Instr) (s : State) : State :=
  match exec c s with
  | .next t => t
  | .fault _ => s
  | .refused _ => s

/-- A message from station 3. -/
def msg (k : Kind) (body : List Byte) : Message := sealMessage (kindCode k) 3 body

/-- A message from station 3 in scope for station 5. -/
def toFive (k : Kind) (p : List Byte) : Message := msg k ([0, 0, 0, 32] ++ p)

/-- TAKE of cue 7, target 100, FADE of preset 12 over 25 frames, air-safe. -/
def takeFade : Message := toFive .take [0, 7, 0, 0, 100, 1, 1, 12, 0, 25]

/-- CANCEL of cue 7. -/
def cancelSeven : Message := toFive .take [0, 7, 0, 0, 0, 8, 0, 0, 0, 0]

/-- The cue record that `takeFade` makes. -/
def cueSeven : CueRecord :=
  { ident := { source := 3, id := 7 }, target := 100, action := .fade 12 25, airSafe := true, late := false }

def condFive : Message := msg .cond [5, 1]
def protect (code : Byte) : Message := toFive .protect [code]
def mapMsg (code : Byte) : Message := toFive .map [code, 255, 128, 0, 0, 1]
def query (record index : Byte) : Message := toFive .query [record, index]

/-- PRESET to buffer A from channel 127 with two levels, air-safe. -/
def presetTwo : Message := toFive .preset [0, 127, 2, 0, 0, 1, 0x12, 0x34, 0x56, 0x78]

def commitTwelve : Message := toFive .commit [0, 12]

/-- DEMAND of group 0 for frame 502: X 1300, S 4200. -/
def demand502 : Message := msg .demand [0, 0, 1, 0xF6, 0x05, 0x14, 0x10, 0x68, 0]

/-- The event of a frame start. -/
def frame (f : FrameNo) (adopted : Bool) : FrameEvent := { frame := f, adopted := adopted, serial := 1 }

/-- A channel's content: level 10000 for every channel in the mask, which holds channel 40. -/
def contentForty : Content := { levels := fill 128 10000, mask := BitVec.twoPow 128 40, airSafe := true }

/-- A READY request for channel 40 at frame 301 over 7 frames. -/
def readyForty : RequestRecord :=
  { req := { preset := 12, frame := 301, total := 7, airSafe := false, source := .start }
    phase := .ready, content := some contentForty, tag := 0 }

def commitRun (phase : CommitPhase) : CommitRun :=
  { buffer := .a, preset := 12, phase := phase, suspended := false, asked := false, suspends := 0 }

/-- Station 5 in RUNNING with the commit of buffer A to preset 12 in a phase. -/
def committing (c : CommitRun) : State :=
  { onAir with
    flash := { onAir.flash with journal := some (.preset c.preset) }
    store := { onAir.store with
      directory := setAt onAir.store.directory c.preset { state := .committing, airSafe := false }
      bufferA := { onAir.store.bufferA with state := .committing, target := some c.preset }
      running := some (.commit c) } }

/-- The directory with preset 5 VALID. -/
def withValidFive (s : State) : State :=
  { s with
    flash := { s.flash with presets := setAt s.flash.presets 5 { void := false, body := .programmed contentForty } }
    store := { s.store with directory := setAt s.store.directory 5 { state := .valid, airSafe := true } } }

/-- A configuration store that passes every check: window of one pixel, look 0 with dwell 4. -/
def goodStore : Memory :=
  [(1, 1), (6, 1), (9, 25), (11, 78), (12, 32), (13, 50), (14, 3), (16, 255), (20, 2), (22, 2), (580, 1), (581, 255),
   (584, 255), (586, 4), (8190, 68), (8191, 236)]

/-! ### Well-formedness: each check refuses an ill-formed command -/

def tooLong : Message := msg .report (List.replicate 69 0)

theorem test_wf_accepts : (Instr.take takeFade).wellFormed = true ∧ (Instr.cancel cancelSeven).wellFormed = true ∧
    (Instr.mapProgram (mapMsg 1)).wellFormed = true ∧ (Instr.queryWall (query 9 0)).wellFormed = true := by decide
theorem test_wf_length : (Instr.time tooLong).wellFormed = false ∧ (Instr.reportReceived tooLong).wellFormed = false ∧
    (Instr.cond tooLong).wellFormed = false ∧ (Instr.preset tooLong).wellFormed = false ∧
    (Instr.commit tooLong).wellFormed = false ∧ (Instr.demand tooLong).wellFormed = false ∧
    (Instr.restart tooLong).wellFormed = false := by decide
theorem test_wf_mismatch_agrees : (Instr.checkValueMismatch 4 condFive).wellFormed = false := by decide
theorem test_wf_unknown_known : (Instr.unknownKind 4 condFive).wellFormed = false := by decide
theorem test_wf_take_cancel : (Instr.take cancelSeven).wellFormed = false ∧
    (Instr.cancel takeFade).wellFormed = false := by decide
theorem test_wf_protect : (Instr.protectOn (protect 0)).wellFormed = false ∧
    (Instr.protectOff (protect 1)).wellFormed = false ∧ (Instr.protectCodeError (protect 1)).wellFormed = false := by
  decide
theorem test_wf_map : (Instr.mapErase (mapMsg 1)).wellFormed = false ∧ (Instr.mapProgram (mapMsg 0)).wellFormed = false ∧
    (Instr.mapCodeError (mapMsg 0)).wellFormed = false := by decide
theorem test_wf_query : (Instr.queryStatus (query 2 0)).wellFormed = false ∧
    (Instr.queryBudget (query 3 0)).wellFormed = false ∧ (Instr.queryPeer (query 4 0)).wellFormed = false ∧
    (Instr.queryCues (query 5 0)).wellFormed = false ∧ (Instr.queryLook (query 6 0)).wellFormed = false ∧
    (Instr.queryDirectory (query 7 0)).wellFormed = false ∧ (Instr.queryCounters (query 8 0)).wellFormed = false ∧
    (Instr.queryChannel (query 9 0)).wellFormed = false ∧ (Instr.queryWall (query 1 0)).wellFormed = false ∧
    (Instr.queryUnknownRecord (query 1 0)).wellFormed = false := by decide

/-! ### Decoding: no row of the table has bits -/

theorem test_no_word_decodes : decodeTableWord 0 0 = none ∧ decodeTableWord 8 0xFF = none := by decide
theorem test_withFetchWord_keeps (nbits w : Nat) : State.reset.withFetchWord nbits w = State.reset := rfl

/-! ### Worked figures -/

/-- The frame distance at the wrap (00_scope, Conventions): 0 is after 16,777,215. -/
theorem test_frame_wrap : isAfter 0 0xFFFFFF = true ∧ isBefore 0xFFFFFF 0 = true := by decide

/-- 2.9: register 85 becomes 171, 87 and 175; the draws are 1, 3 and 7. -/
theorem test_backoff_example : stepRegister 85 = 171 ∧ stepRegister 171 = 87 ∧ stepRegister 87 = 175 ∧
    backoffSlots 171 1 = 1 ∧ backoffSlots 87 2 = 3 ∧ backoffSlots 175 3 = 7 ∧ backoffSeed 12 = 85 := by decide

/-- R20: the check of this generator and start value over the nine digits "123456789" is the published 0x29B1. -/
theorem test_check_digits : checkValue [0x31, 0x32, 0x33, 0x34, 0x35, 0x36, 0x37, 0x38, 0x39] = 0x29B1 := by decide

/-- R19: seven equal bits are followed by a stuff bit, and eight equal bits are a framing error. -/
theorem test_stuff_seven : stuff (List.replicate 7 true) = List.replicate 7 true ++ [false] ∧
    unstuff (List.replicate 8 true) = none := by decide

/-- R18: a DEMAND of station 3 with 9 bytes has the header 0011 00011 0001001. -/
theorem test_header : headerBytes 3 3 9 = [0x31, 0x89] := by decide

/-- R21: 24 levels fill the longest PRESET, of 58 bytes, and 57 is no length of a PRESET. -/
theorem test_preset_lengths : lengthAccepted .preset 58 = true ∧ lengthAccepted .preset 57 = false ∧
    lengthAccepted .preset 60 = false ∧ lengthAccepted .preset 12 = true := by decide

/-- R37: with late window 2 a target 2 behind is LATE and one 3 behind STALE. -/
theorem test_classify : classifyCue 2 101 100 = .pending 101 ∧ classifyCue 2 100 100 = .late 101 ∧
    classifyCue 2 98 100 = .late 101 ∧ classifyCue 2 97 100 = .stale := by decide

/-- 5.9: the fade from 40000 to 10000 in 7 frames. -/
theorem test_fade_example : fadeLevel 40000 10000 7 1 = 35715 ∧ fadeLevel 40000 10000 7 2 = 31429 ∧
    fadeLevel 40000 10000 7 6 = 14286 ∧ fadeLevel 40000 10000 7 7 = 10000 := by decide

/-- R88: level 35715 at scale 21065 is sent as 22959. -/
theorem test_output_example : outputLevel
    { onAir with
      fade := { onAir.fade with channels := fill 128 { level := 35715, fade := none, lastOut := none } }
      protection := { onAir.protection with latch := false } } 21065 40 = 22959 := by decide +kernel

/-- R141: component 1000 at gain 40000 stores 1023 and clamps. -/
theorem test_gain_clamp : correct 1000 40000 = 1023 ∧ clamps 1000 40000 = true ∧ correct 700 32768 = 700 := by decide

/-- R142: the weights sum to 256, so full white has luma 1023. -/
theorem test_luma_white : luma { r := 1023, g := 1023, b := 1023 } = 1023 ∧ luma { r := 0, g := 0, b := 256 } = 19 := by
  decide

/-- 9.8: X 1300 and S 4200 with C 4000 give 21065; S 5000 gives 17694; S 30000 with k_min 4096 is floored. -/
theorem test_close_examples : (closeFactor 4000 4096 1300 4200).1 = 21065 ∧ (closeFactor 4000 4096 1300 5000).1 = 17694 ∧
    closeFactor 4000 4096 1300 30000 = (4096, { noFlags with floored := true }) ∧
    closeFactor 4000 4096 4100 10 = (4096, { noFlags with overLimit := true }) ∧
    slewFactor 32768 4096 1024 = 5120 := by decide

/-- 9.8: the demands of channels 5, 30 and 31. -/
theorem test_demand_examples : channelDemand 40000 50 = 31 ∧ channelDemand 30000 120 = 55 ∧
    channelDemand 13107 255 = 51 ∧ wallDemand 1023 65535 = 65535 := by decide

/-- R187: station 13 answers at 0x5B. -/
theorem test_setup_address : targetAddress 13 = 0x5B ∧ targetAddress 0 = 0x5A := by decide

/-- R194: fields are most significant byte first; bit 0 of the scope is station 0. -/
theorem test_byte_order : toBytes 3 0x123456 = [0x12, 0x34, 0x56] ∧ ofBytes [0x12, 0x34] = 0x1234 ∧
    messageScope takeFade = BitVec.twoPow 32 5 := by decide

/-! ### One step on a small state -/

/-- R37: a TAKE for frame 100 at frame 0 leaves one PENDING record. -/
theorem test_take_places : (after (.take takeFade) onAir).cues.records = [cueSeven] := by decide +kernel

/-- R42: CANCEL of an absent cue counts CANCEL_MISS. -/
theorem test_cancel_miss : counterOf (after (.cancel cancelSeven) onAir) .cancelMiss = 1 := by decide +kernel

/-- R24: a TAKE in SEEKING counts NOT_READY. -/
theorem test_take_not_ready : counterOf (after (.take takeFade) (inState .seeking)) .notReady = 1 := by decide +kernel

/-- R22: a message with the own station number counts SOURCE_CLASH. -/
theorem test_source_clash :
    counterOf (after (.cond condFive) { onAir with station := { onAir.station with number := 3 } }) .sourceClash = 1 := by
  decide +kernel

/-- R52, R53: the first value change has stamp 1. -/
theorem test_cond_stamp : (after (.cond condFive) onAir).conditions.entries[5] =
    { value := true, stamp := 1, source := some 3 } := by decide +kernel

/-- R131: a map program from channel 255 with mask entries 0 and 31 releases channels 127 and 30. -/
theorem test_release : releaseChannels (channelMod 255) 0x80000001 0 = BitVec.twoPow 128 127 ||| BitVec.twoPow 128 30 := by
  decide +kernel

/-- R102: levels from channel 127 wrap to channel 0; mask entry 0 set, entry 1 clear. -/
theorem test_preset_wraps :
    (after (.preset presetTwo) onAir).store.bufferA.content.levels[127] = 0x1234 ∧
    (after (.preset presetTwo) onAir).store.bufferA.content.levels[0] = 0x5678 ∧
    (after (.preset presetTwo) onAir).store.bufferA.content.mask = BitVec.twoPow 128 127 ∧
    (after (.preset presetTwo) onAir).store.bufferA.content.airSafe = true := by decide +kernel

/-- 6.8: COMMIT A to 12 with the array free starts in ERASE with the journal naming 12. -/
theorem test_commit_starts : (after (.commit commitTwelve) onAir).flash.journal = some (.preset 12) ∧
    (after (.commit commitTwelve) onAir).store.running = some (.commit (commitRun .erase)) := by decide +kernel

/-- 6.8: a read of the preset being committed is answered with the buffer's content. -/
theorem test_read_forwarded : (after .presetReadRequest { committing (commitRun .erase) with
      transit := { transitAtRestart with reads := [{ preset := 12, tag := 9 }] } }).transit.answers =
    [{ tag := 9, kind := .content contentAtRestart }] := by decide +kernel

/-- R110: a failed verify raises COMMIT_FAIL, and ALERT with it. -/
theorem test_verify_fails : alertPin (after (.verifyEnd false) (committing (commitRun .verify))) = true ∧
    (after (.verifyEnd false) (committing (commitRun .verify))).store.directory[12] =
      { state := .bad, airSafe := false } := by decide +kernel

/-- R127: PROTECT OFF is refused while the pin is asserted. -/
theorem test_protect_off_refused : counterOf (after (.protectOff (protect 0))
    { onAir with protection := { onAir.protection with pin := true } }) .protectOffRefused = 1 := by decide +kernel

/-- R162: a DEMAND makes its source present with its X and S. -/
theorem test_demand_stored : (after (.demand demand502) onAir).budget.peers[3] =
    some { group := 0, first := { target := 502, x := 1300, s := 4200, clamp := false }, second := none,
           lastArrival := 0 } := by decide +kernel

/-- R189, R195: QUERY STATUS queues a REPORT of 45 bytes, the first the state code of RUNNING. -/
theorem test_query_status : ((after (.queryStatus (query 1 0)) onAir).line.queue.map fun e =>
    match e.msg with
    | .report r i c => (r, i, c.length, c.head?)
    | .demand _ _ | .cond _ _ => (0, 0, 0, none)) = [(1, 0, 45, some 4)] := by decide +kernel

/-- R180: a high SETUP strap gives SETUP. -/
theorem test_power_on_setup : (after (.powerOn { lowPins with setup := true }) State.reset).station.state = .setup ∧
    (after (.powerOn lowPins) State.reset).station.state = .loading := by decide

/-- R181: an erased store (check value 0) fails its check value: SAFE, FAULT asserted. -/
theorem test_loading_blank : (after (.loadingEnd 0) State.reset).station.safeCause = some .checkValue ∧
    faultPin (after (.loadingEnd 0) State.reset) = true := by decide +kernel

/-- R183: lock found at a frame start of SEEKING gives JOINING. -/
theorem test_seeking_locked : (after .controllerFrameStart { inState .seeking with
      timebase := { timebaseAtRestart with lock := .locked }
      transit := { transitAtRestart with ctrlFrames := [frame 9 false] } }).station.state = .joining := by
  decide +kernel

/-- R187: two address bytes set the pointer modulo 8192. -/
theorem test_setup_pointer : (after (.setupAddressByte 0x12) { inState .setup with
      setup := { setupAtEntry with transaction := .addressLow 0x21 } }).setup.pointer = 0x0112 := by decide +kernel

/-- R188: a read at 8191 leaves the pointer at 0. -/
theorem test_setup_read_wraps : (after .setupReadByte { inState .setup with
      setup := { setupAtEntry with transaction := .read, pointer := 8191 } }).setup.pointer = 0 := by decide +kernel

/-! ### Witnesses: for each statement with hypotheses, states and operands that meet them -/

/-- The conditions of `Routed` as one test. -/
def routedTest (k : Kind) (m : Message) (s : State) : Bool :=
  isReceiving s && checkAgrees (kindCode k) m && lengthAccepted k m.body.length && decide (k ≠ .report) &&
    decide (m.source ≠ s.station.number) &&
    (!isAddressed k || (messageScope m).getLsbD s.station.number.toNat) && isRouted k s.station.state

theorem routed_of_test {k : Kind} {m : Message} {s : State} (h : routedTest k m s = true) : Routed k m s := by
  simp only [routedTest, Bool.and_eq_true, Bool.or_eq_true, Bool.not_eq_true', decide_eq_true_eq] at h
  obtain ⟨⟨⟨⟨⟨⟨h1, h2⟩, h3⟩, h4⟩, h5⟩, h6⟩, h7⟩ := h
  exact ⟨h1, h2, h3, h4, h5, fun h8 => h6.resolve_left (by simp [h8]), h7⟩

/-- Two announcements of station 3, in target order. -/
def peerThree : PeerEntry :=
  { group := 0, first := { target := 500, x := 0, s := 0, clamp := false }
    second := some { target := 501, x := 65535, s := 0, clamp := true }, lastArrival := 499 }

/-- Station 5 in RUNNING with the table entry of station 3. -/
def withPeer (e : PeerEntry) : State :=
  { onAir with budget := { onAir.budget with peers := setAt onAir.budget.peers 3 (some e) } }

/-- The commands of the witnesses waiting at the front of the queue. -/
def waiting (c : Instr) (s : State) : State := { s with pending := [c] }

/-- A cue record of station 3. -/
def cue (id : BitVec 16) (target : FrameNo) : CueRecord :=
  { ident := { source := 3, id := id }, target := target, action := .lookHome, airSafe := false, late := false }

def withCues (l : List CueRecord) (f : FrameNo) (s : State) : State :=
  { s with cues := { s.cues with records := l, frame := f } }

def withTransit (x : Transit) (s : State) : State := { s with transit := x }
def withLine (x : CueLine) (s : State) : State := { s with line := x }
def withStore (x : PresetStore) (s : State) : State := { s with store := x }
def withWall (x : WallFeed) (s : State) : State := { s with wall := x }
def withProtection (x : Protection) (s : State) : State := { s with protection := x }
def withTimebase (x : Timebase) (s : State) : State := { s with timebase := x }

/-- One message of each kind whose payload the statements lay out. -/
theorem witness_payload_lengths : takeFade.body.length = 14 ∧ demand502.body.length = 9 ∧ condFive.body.length = 2 ∧
    (protect 1).body.length = 5 ∧ (12 ≤ presetTwo.body.length ∧ presetTwo.body.length ≤ 58 ∧
      presetTwo.body.length % 2 = 0) ∧ commitTwelve.body.length = 6 ∧ (mapMsg 1).body.length = 10 ∧
    (query 1 0).body.length = 6 ∧ takeFade.body[3 - (5 : Fin 32).val / 8]?.isSome = true := by decide
/-- R194: the fields of two payloads written out byte by byte. -/
theorem test_payload_fields :
    takeFields (toFive .take [0x12, 0x34, 1, 2, 3, 6, 1, 9, 0x56, 0x78]) =
      { cueId := 0x1234, target := 0x010203, action := 6, airSafe := true, arg := 9, frames := 0x5678 } ∧
    presetFields (toFive .preset [1, 200, 2, 0x80, 0, 1, 0x12, 0x34]) =
      { buffer := 1, firstChannel := 200, continuation := false, airSafe := true, mask := 0x800001,
        levels := [0x1234] } := by decide
theorem witness_StepRunsFrontCommand : onAir.pending = [] := by decide +kernel
theorem witness_StepKeepsStoresCanonical : StoresCanonical { onAir with configStore := goodStore } ∧
    step (waiting .lineIdle onAir) = .next { (after .lineIdle onAir) with pending := [] } := by
  refine ⟨?_, rfl⟩
  unfold StoresCanonical
  decide +kernel
theorem witness_StepKeepsQueuesBounded : QueuesBounded (withCues (List.replicate 16 cueSeven) 0 onAir) ∧
    step (waiting (.take takeFade) onAir) = .next { (after (.take takeFade) onAir) with pending := [] } := by
  refine ⟨?_, rfl⟩
  unfold QueuesBounded
  decide +kernel
theorem witness_StepKeepsQueuesBounded_keyed : QueuesKeyed (withCues [cueSeven, cue 8 100] 0 (withLine { lineAtRestart 5 with
    queue := [{ msg := .cond 5 true, losses := 0, replaced := false }, { msg := .cond 6 true, losses := 0, replaced := false },
              { msg := .demand 0 { target := 502, x := 0, s := 0, clamp := false }, losses := 0, replaced := false }] }
    onAir)) := by
  unfold QueuesKeyed
  decide +kernel
/-- Five outstanding: four queued and one in progress, and three queued, one in progress and a notice on its way. -/
def outstanding (queued : Nat) (done : List ChannelSet) : State :=
  withTransit { transitAtRestart with mapDone := done }
    (withProtection { protectionAtRestart with started := true, latch := false, outstanding := 5 }
      (withStore { storeAtRestart with ops := List.replicate queued .mapErase, running := some .mapErase } onAir))
theorem witness_StepKeepsQueuesBounded_outstanding : ∀ p ∈ [(4, ([] : List ChannelSet)), (3, [7])],
    (outstanding p.1 p.2).protection.outstanding ≤ 5 ∧
    (outstanding p.1 p.2).protection.outstanding ≤ mapWork (outstanding p.1 p.2) ∧
    (outstanding p.1 p.2).store.ops.length ≤ 4 := by decide +kernel
theorem witness_StepKeepsBudgetConsistent_scale : ScaleInRange { onAir with budget := { onAir.budget with
    last := some { target := 1, x := 0, s := 0, counted := 1, stale := 0, ahead := 0, kTarget := 32768, k := 4096,
                   flags := noFlags } } } := by
  unfold ScaleInRange
  decide +kernel
theorem witness_StepKeepsBudgetConsistent_peers : PeersOrdered (withPeer peerThree) := by
  intro n e second h1 h2
  have key : ∀ n : Fin 32, (withPeer peerThree).budget.peers[n] = none ∨
      (withPeer peerThree).budget.peers[n] = some peerThree := by decide +kernel
  rcases key n with h | h <;> rw [h] at h1
  · cases h1
  · cases h1
    cases h2
    decide
theorem witness_BackoffRegisterNeverZero : onAir.line.register ≠ 0 := by decide +kernel
theorem witness_StepKeepsCommitsConsistent : CommitsConsistent (committing (commitRun .erase)) ∧
    ScanBeforeOperations (committing (commitRun .erase)) := by
  refine ⟨⟨by decide +kernel, fun x => by cases x <;> decide +kernel, by decide +kernel, by decide +kernel⟩, ?_⟩
  unfold ScanBeforeOperations
  decide +kernel
theorem witness_OutputsDarkOutsideRunning : LiveOnlyRunning (inState .joining) ∧
    (inState .joining).station.state ≠ .running := by
  unfold LiveOnlyRunning
  decide +kernel
theorem witness_FrameOrder : frameDistance 0 8388608 = 8388608 ∧ frameDistance 1 8388608 ≠ 8388608 ∧
    frameDistance 0 16777215 ≠ 8388608 := by decide
theorem witness_ReadLineBitsOfMessage : (List.replicate 68 (255 : Byte)).length ≤ 68 := by decide

/-! The receive filter and the line -/

theorem witness_DroppedMessages :
    (isReceiving onAir = true ∧ checkAgrees 2 condFive = false) ∧
    ((sealMessage 12 3 [1]).body.length ≤ 68 ∧ checkAgrees 12 (sealMessage 12 3 [1]) = true ∧
      kindOfCode 12 = none) ∧
    (let m := sealMessage 10 3 (List.replicate 64 0)
     checkAgrees 10 m = true ∧ 2 ≤ m.body.length ∧ m.body.length ≤ 64 ∧ m.source ≠ onAir.station.number) := by
  decide +kernel
/-- Commands of each kind and code, and what the filter drops them for: one byte too many, the own number as source, a
scope without station 5, and a station in SAFE. -/
theorem witness_DroppedMessages_carries :
    Carries .take takeFade (.take takeFade) ∧ Carries .take cancelSeven (.cancel cancelSeven) ∧
    Carries .protect (protect 2) (.protectCodeError (protect 2)) ∧ Carries .map (mapMsg 1) (.mapProgram (mapMsg 1)) ∧
    Carries .query (query 9 0) (.queryWall (query 9 0)) ∧
    Carries .query (query 10 0) (.queryUnknownRecord (query 10 0)) ∧ Carries .cond condFive (.cond condFive) := by
  unfold Carries
  decide +kernel
theorem witness_DroppedMessages_filter :
    (let m := toFive .preset (List.replicate 55 0)
     isReceiving onAir = true ∧ checkAgrees 6 m = true ∧ ¬ (12 ≤ m.body.length ∧ m.body.length ≤ 58)) ∧
    (let m := sealMessage 4 5 [5, 1]
     checkAgrees 4 m = true ∧ m.body.length = 2 ∧ m.source = onAir.station.number) ∧
    (let m := sealMessage 5 3 [255, 255, 255, 223, 1]
     checkAgrees 5 m = true ∧ m.body.length = 5 ∧ m.source ≠ onAir.station.number ∧
       ¬ (messageScope m).getLsbD onAir.station.number.toNat = true) ∧
    (isReceiving (inState .safe) = true ∧ checkAgrees 2 takeFade = true ∧ takeFade.body.length = 14 ∧
      takeFade.source ≠ (inState .safe).station.number ∧
      (messageScope takeFade).getLsbD (inState .safe).station.number.toNat = true ∧
      (inState .safe).station.state ≠ .joining ∧ (inState .safe).station.state ≠ .running) := by decide +kernel
theorem witness_LineStates_gap : lineActive onAir = true ∧ onAir.line.lineState = .gap ∧ onAir.line.backoff = none := by
  decide +kernel
theorem witness_LineStates_untracked :
    let s := withLine (lineAtRestart 5) (inState .scanning)
    isLive s = true ∧ lineActive s = true ∧ s.line.lineState = .untracked := by decide +kernel
theorem witness_LineStates_busy :
    let s := withLine { lineAtRestart 5 with lineState := .busy } (inState .safe)
    lineActive s = true ∧ s.line.lineState = .busy ∧ s.line.attempt = none := by decide +kernel
theorem witness_LineStates_backoff :
    let b : Backoff := { slots := 31, counted := 30 }
    let s := withLine { lineAtRestart 5 with lineState := .idle, backoff := some b } onAir
    lineActive s = true ∧ s.line.lineState = .idle ∧ s.line.backoff ≠ none ∧ s.line.backoff = some b := by
  decide +kernel
theorem witness_LineStates_counted :
    let b : Backoff := { slots := 31, counted := 31 }
    let s := withLine { lineAtRestart 5 with lineState := .gap, backoff := some b } onAir
    lineActive s = true ∧ s.line.backoff = some b ∧ s.line.lineState = .gap := by decide +kernel

/-- A COND entry with a loss count. -/
def condEntry (losses : Nat) : TxEntry := { msg := .cond 5 true, losses := losses, replaced := false }

theorem witness_AttemptsWonAndLost_start :
    let s := withLine { lineAtRestart 5 with lineState := .idle, queue := [condEntry 0] } onAir
    lineActive s = true ∧ s.line.lineState = .idle ∧ s.line.queue = [condEntry 0] ∧ s.line.attempt = none ∧
      s.line.backoff = none := by decide +kernel
theorem witness_AttemptsWonAndLost_outcome : ∀ n ∈ [14, 15],
    let s := withLine { lineAtRestart 5 with
      lineState := .busy, queue := [condEntry n]
      attempt := some { copy := .cond 5 true, source := 5, held := true } } onAir
    s.line.attempt = some { copy := .cond 5 true, source := 5, held := true } ∧ s.line.closing = false ∧
      s.line.queue = [condEntry n] ∧ (n = 14 → n + 1 < 16) ∧ (n = 15 → 16 ≤ n + 1) := by decide +kernel

theorem witness_AttemptsWonAndLost_bits :
    ∀ c ∈ [TxMessage.demand 1 { target := 502, x := 1300, s := 4200, clamp := true }, .cond 23 false, .report 1 0 []],
    (withLine { lineAtRestart 5 with attempt := some { copy := c, source := 5, held := true } } onAir).line.attempt =
      some { copy := c, source := 5, held := true } := by decide +kernel
/-- R194: the payload of a DEMAND of group 1 for frame 502 with CLAMP. -/
theorem test_demand_payload : txBody (.demand 1 { target := 502, x := 1300, s := 4200, clamp := true }) =
    [1, 0, 1, 0xF6, 0x05, 0x14, 0x10, 0x68, 1] := by decide

/-! Timebase -/

/-- A timebase that runs, with its last frame start at 20 ms and a reference pulse, in microseconds. -/
def running (lock : Genlock) (reference : Option Micros) (run : Nat) : State :=
  withTimebase { timebaseAtRestart with
    lock := lock, reference := reference, run := run, lastStart := some 20000, timerRunning := true } onAir

theorem witness_TimebaseEvents_expiry :
    let s := running .flywheel none 0
    let e : FrameEvent := { frame := 1, adopted := false, serial := 1 }
    s.timebase.timerRunning = true ∧ s.timebase.lock ≠ .locked ∧ s.timebase.lastStart = some 20000 ∧
      e.frame = s.timebase.pendingTime.getD (s.timebase.frame + 1) ∧
      (e.adopted = true ↔ e.frame ≠ s.timebase.frame + 1) ∧ e.serial = s.timebase.issued + 1 := by decide +kernel
theorem witness_TimebaseEvents_loss :
    let s := running .locked (some 20000) 0
    s.timebase.timerRunning = true ∧ s.timebase.lock = .locked ∧ s.timebase.reference = some 20000 := by
  decide +kernel
theorem witness_TimebaseEvents_seek : ∀ l ∈ [Genlock.acquire, .locked],
    let s := withTransit { transitAtRestart with seekEnd := true } (running l none 3)
    s.transit.seekEnd = true ∧ s.timebase.timerRunning = true ∧ (s.timebase.lock = .acquire ∨ s.timebase.lock ≠ .acquire) := by
  decide +kernel
theorem witness_TimebaseEvents_time : Routed .time (msg .time [255, 255, 255]) (running .acquire none 0) ∧
    (running .acquire none 0).timebase.timerRunning = true := ⟨routed_of_test (by decide +kernel), by decide +kernel⟩

/-- The same timebase with the last edge of the reference. -/
def edged (edge : Nanos) (s : State) : State := withTimebase { s.timebase with lastEdge := some edge } s

/-- An edge 1 µs or more after the last edge, if there was one. -/
def isApart (s : State) (now : Nanos) : Prop := ∀ edge : Nanos, s.timebase.lastEdge = some edge → 1000 ≤ now - edge

theorem isApart_edged (edge now : Nanos) (s : State) (h : 1000 ≤ now - edge) : isApart (edged edge s) now := by
  intro e he
  cases he
  exact h
theorem witness_GenlockPulses_first :
    let s := running .acquire none 0
    s.timebase.timerRunning = true ∧ s.timebase.lastEdge = none ∧ s.timebase.lock ≠ .locked ∧
      s.timebase.lastStart = some 20000 ∧ s.timebase.reference = none := by decide +kernel
/-- An interval of 20401 µs from a reference pulse at 5 ms, an edge of 1 µs before. -/
theorem witness_GenlockPulses_outside :
    let s := edged 25400000 (running .acquire (some 5000) 2)
    let interval := 25401000 / 1000 - 5000
    isApart s 25401000 ∧ s.timebase.reference = some 5000 ∧ s.timebase.lastStart = some 20000 ∧
      ¬ (s.image.period - s.image.period / 50 ≤ interval ∧ interval ≤ s.image.period + s.image.period / 50) :=
  ⟨isApart_edged _ _ _ (by decide), by decide +kernel⟩
/-- Both bounds are included, the upper one up to the last nanosecond that truncates to it. -/
theorem witness_GenlockPulses_tolerance : ∀ run ∈ [2, 3], ∀ now ∈ [24600000, 25400999],
    let s := running .acquire (some 5000) run
    let interval := now / 1000 - 5000
    s.timebase.lastEdge = none ∧ s.timebase.lock ≠ .locked ∧ s.timebase.reference = some 5000 ∧
      s.image.period - s.image.period / 50 ≤ interval ∧ interval ≤ s.image.period + s.image.period / 50 ∧
      (s.timebase.run < 3 ∨ s.timebase.run = 3) ∧ now / 1000 - 20000 < s.image.period / 2 := by decide +kernel
theorem witness_GenlockPulses_half :
    let s := running .flywheel (some 10000) 3
    let interval := 30000000 / 1000 - 10000
    s.timebase.lastEdge = none ∧ s.timebase.lock ≠ .locked ∧ s.timebase.reference = some 10000 ∧
      s.timebase.run = 3 ∧ s.image.period - s.image.period / 50 ≤ interval ∧
      interval ≤ s.image.period + s.image.period / 50 ∧ s.image.period / 2 ≤ 30000000 / 1000 - 20000 := by
  decide +kernel
theorem witness_GenlockPulses_locked : ∀ now ∈ [20400999, 20401000],
    let s := running .locked (some 0) 0
    let interval := now / 1000 - 0
    s.timebase.timerRunning = true ∧ s.timebase.lastEdge = none ∧ s.timebase.lock = .locked ∧
      s.timebase.reference = some 0 ∧ (now = 20400999 → s.image.period - s.image.period / 50 ≤ interval ∧
        interval ≤ s.image.period + s.image.period / 50) ∧
      (now = 20401000 → ¬ (s.image.period - s.image.period / 50 ≤ interval ∧
        interval ≤ s.image.period + s.image.period / 50)) := by decide +kernel
/-- Edges 999 ns apart are one pulse, also across a whole microsecond. -/
theorem witness_GenlockPulses_merged :
    let s := edged 5000500 (running .acquire (some 5000) 0)
    s.timebase.timerRunning = true ∧ s.timebase.lastEdge = some 5000500 ∧ 5001499 - 5000500 < 1000 := by
  decide +kernel

/-- R3: edges less than 1 µs apart that straddle a whole microsecond are one pulse. -/
theorem test_edges_merge :
    (after (.genlockPulse 5001100) (edged 5000500 (running .acquire (some 5000) 0))).timebase.reference =
      some 5000 ∧
    (after (.genlockPulse 5001500) (edged 5000500 (running .acquire (some 5000) 0))).timebase.reference =
      some 5001 := by decide +kernel

/-- R1, R3: a reference pulse at 5,000,500 ns is recorded as 5,000 µs, so a pulse at 24,600,400 ns is 19,600 µs on:
in tolerance, and the run goes up. -/
theorem test_interval_of_record :
    let s := after (.genlockPulse 5000500) (running .acquire none 0)
    s.timebase.reference = some 5000 ∧ pulseInterval 5000 24600400 = 19600 ∧
      (after (.genlockPulse 24600400) s).timebase.run = 1 := by decide +kernel

/-! Cue list -/

theorem witness_TakeAndCancel_new : Routed .take takeFade onAir ∧
    cueAction (takeFields takeFade) = some (.fade 12 25) ∧
    ∀ r ∈ onAir.cues.records, r.ident ≠ { source := takeFade.source, id := (takeFields takeFade).cueId } :=
  ⟨routed_of_test (by decide +kernel), by decide +kernel, by decide +kernel⟩
/-- Target 100 at frames 99, 100, 102 and 103 with late window 2: PENDING, LATE, LATE and STALE. -/
theorem witness_TakeAndCancel_window :
    isAfter (takeFields takeFade).target 99 = true ∧
    ∀ p ∈ [(100, true), (102, true), (103, false)],
      isAfter (takeFields takeFade).target (BitVec.ofNat 24 p.1) = false ∧
      (p.2 = true ↔ frameDistance (takeFields takeFade).target (BitVec.ofNat 24 p.1) ≤ onAir.image.lateWindow) := by
  decide +kernel
theorem witness_TakeAndCancel_full : Routed .take takeFade (withCues (List.replicate 16 (cue 8 50)) 0 onAir) ∧
    (∀ r ∈ (withCues (List.replicate 16 (cue 8 50)) 0 onAir).cues.records,
      r.ident ≠ { source := takeFade.source, id := (takeFields takeFade).cueId }) ∧
    16 ≤ (withCues (List.replicate 16 (cue 8 50)) 0 onAir).cues.records.length :=
  ⟨routed_of_test (by decide +kernel), by decide +kernel, by decide +kernel⟩
theorem witness_TakeAndCancel_replace :
    let s := withCues ([cue 6 90] ++ cue 7 100 :: [cue 8 110]) 99 onAir
    Routed .take takeFade s ∧ s.cues.records = [cue 6 90] ++ cue 7 100 :: [cue 8 110] ∧
      (cue 7 100).ident = { source := takeFade.source, id := (takeFields takeFade).cueId } ∧
      (∀ x ∈ [cue 6 90], x.ident ≠ (cue 7 100).ident) ∧ isAfter (takeFields takeFade).target s.cues.frame = true ∧
      (cue 7 100).target = (takeFields takeFade).target :=
  ⟨routed_of_test (by decide +kernel), rfl, by decide +kernel, by decide +kernel, by decide +kernel, by decide +kernel⟩
theorem witness_TakeAndCancel_cancel : Routed .take cancelSeven (withCues [cueSeven] 0 onAir) ∧
    (takeFields cancelSeven).action = 8 ∧
    cueSeven.ident = { source := cancelSeven.source, id := (takeFields cancelSeven).cueId } ∧
    Routed .take cancelSeven onAir ∧ onAir.cues.records = [] :=
  ⟨routed_of_test (by decide +kernel), by decide +kernel, by decide +kernel, routed_of_test (by decide +kernel),
    by decide +kernel⟩

/-- A held identity at a new target, and a STALE cue on a held identity. -/
theorem witness_TakeAndCancel_move :
    let s := withCues ([cue 6 90] ++ cue 7 95 :: [cue 8 110]) 89 onAir
    Routed .take takeFade s ∧ s.cues.records = [cue 6 90] ++ cue 7 95 :: [cue 8 110] ∧
      (cue 7 95).ident = { source := takeFade.source, id := (takeFields takeFade).cueId } ∧
      (∀ x ∈ [cue 6 90], x.ident ≠ (cue 7 95).ident) ∧ (!isAfter (takeFields takeFade).target s.cues.frame) = false ∧
      (cue 7 95).target ≠ (takeFields takeFade).target :=
  ⟨routed_of_test (by decide +kernel), rfl, by decide +kernel, by decide +kernel, by decide +kernel, by decide +kernel⟩
theorem witness_TakeAndCancel_staleHeld :
    let s := withCues [cue 7 104] 103 onAir
    Routed .take takeFade s ∧ (cue 7 104).ident = { source := takeFade.source, id := (takeFields takeFade).cueId } ∧
      (!isAfter (takeFields takeFade).target s.cues.frame) = true ∧
      s.image.lateWindow < frameDistance (takeFields takeFade).target s.cues.frame :=
  ⟨routed_of_test (by decide +kernel), by decide +kernel, by decide +kernel, by decide +kernel⟩
theorem witness_TakeAndCancel_codes : ∀ code ∈ [(0 : Byte), 9, 255],
    let m := toFive .take [0, 7, 0, 0, 100, code, 0, 0, 0, 0]
    routedTest .take m onAir = true ∧ ((takeFields m).action = 0 ∨ 9 ≤ (takeFields m).action.toNat) := by
  decide +kernel

/-- R39: the moved record goes after the record already at its new target. -/
theorem test_take_moves : ((after (.take takeFade)
      (withCues [cue 7 95, cue 8 100, cue 9 101] 89 onAir)).cues.records.map fun r => r.ident.id) = [8, 7, 9] := by
  decide +kernel

/-- A FADE cue of station 3. -/
def fadeCue : CueRecord := { cue 1 98 with action := .fade 12 25 }
/-- Frame start 100 waiting at the cue list, with records behind, at the late window, due and ahead. -/
def cueFrame (mode : TakeMode) : State :=
  withTransit { transitAtRestart with cueFrames := [frame 100 false] }
    { onAir with cues := { cuesAtRestart with
      records := [cue 0 97, fadeCue, cue 2 100, { cue 3 100 with action := .wallMute }, cue 4 101], mode := mode } }

theorem witness_CueListTakesDueRecords : ∀ mode ∈ [TakeMode.hold, .take],
    (cueFrame mode).transit.cueFrames = [frame 100 false] ∧ (frame 100 false).adopted = false ∧
    (cueFrame mode).cues.mode = mode ∧ fadeCue ∈ (cueFrame mode).cues.records ∧
    -((cueFrame mode).image.lateWindow : Int) ≤ frameOffset fadeCue.target (frame 100 false).frame ∧
    frameOffset fadeCue.target (frame 100 false).frame ≤ 0 ∧ fadeCue.action = .fade 12 25 := by decide +kernel
/-- A LOOK HOME cue due at its own frame, and a cue of another action. -/
theorem witness_CueListTakesDueRecords_actions : cue 2 100 ∈ (cueFrame .take).cues.records ∧
    (cue 2 100).action = .lookHome ∧ frameOffset (cue 2 100).target (frame 100 false).frame = 0 ∧
    { cue 3 100 with action := .wallMute } ∈ (cueFrame .take).cues.records := by decide +kernel
/-- A frame start with the adoption mark, to a number behind, over two records at one target. -/
theorem witness_CueListTakesDueRecords_adopted :
    let s := withTransit { transitAtRestart with cueFrames := [frame 90 true] } (cueFrame .take)
    s.transit.cueFrames = [frame 90 true] ∧ (frame 90 true).adopted = true ∧ s.cues.mode = .take := by decide +kernel

/-- R45: an adoption 8,388,608 back carries a record at −1 to +8,388,607, where it waits, and one at +8,388,607 past
the end, to a number that reads as 1 behind: that one is removed with CUE_STALE and not taken. -/
theorem test_adoption_outrun : ∀ mode ∈ [TakeMode.hold, .take],
    let s := withTransit { transitAtRestart with cueFrames := [frame 10 true] }
      { onAir with cues := { cuesAtRestart with
        records := [cue 1 8388617, cue 2 9], mode := mode, frame := 8388618 } }
    let t := after .cueListFrameStart s
    frameOffset 9 8388618 = 8388607 ∧ frameOffset 9 10 = -1 ∧ (t.cues.records.map fun r => r.ident.id) = [1] ∧
      t.transit.homes = [] ∧ counterOf t .cueStale = 1 := by decide +kernel

/-- R44, R45: a record held 10 behind 20 is 8,388,606 ahead of 8,388,620, and stays. -/
theorem test_adoption_keeps_held :
    let s := withTransit { transitAtRestart with cueFrames := [frame 8388620 true] }
      { onAir with cues := { cuesAtRestart with records := [cue 1 10], mode := .hold, frame := 20 } }
    let t := after .cueListFrameStart s
    frameOffset 10 20 = -10 ∧ isAfter 8388620 20 = true ∧ frameOffset 10 8388620 = 8388606 ∧
      t.cues.records = [cue 1 10] ∧ counterOf t .cueStale = 0 := by decide +kernel

/-- R45: records across the half-way point change places: 8388650 is 8388600 ahead of 50, and behind 41. -/
theorem test_adoption_sorts : ((after .cueListFrameStart
      (withTransit { transitAtRestart with cueFrames := [frame 41 true] }
        (withCues [cue 1 60, cue 2 8388650] 50 (cueFrame .hold)))).cues.records.map fun r => r.ident.id) = [1] ∧
    counterOf (after .cueListFrameStart
      (withTransit { transitAtRestart with cueFrames := [frame 41 true] }
        (withCues [cue 1 60, cue 2 8388650] 50 (cueFrame .hold)))) .cueStale = 1 := by decide +kernel

theorem witness_CueListTakesDueRecords_notice : ∀ serial ∈ [0, 1],
    let s := withTransit { transitAtRestart with runCue := some { label := 9, serial := serial } } onAir
    s.transit.runCue = some { label := 9, serial := serial } ∧ (s.cues.taken < serial ∨ serial ≤ s.cues.taken) := by
  decide +kernel

/-! Conditions and the look machine -/

theorem witness_CondActsOnEntry : Routed .cond condFive onAir ∧
    (condNumber condFive).toNat = (5 : ConditionNo).val ∧ (condValueCode condFive).toNat = true.toNat ∧
    onAir.conditions.entries[5].value ≠ true ∧
    Routed .cond (msg .cond [23, 0]) onAir ∧ (condNumber (msg .cond [23, 0])).toNat = (23 : ConditionNo).val ∧
    onAir.conditions.entries[23].value = false ∧
    Routed .cond (msg .cond [24, 0]) onAir ∧ 24 ≤ (condNumber (msg .cond [24, 0])).toNat ∧
    Routed .cond (msg .cond [0, 2]) onAir ∧ 2 ≤ (condValueCode (msg .cond [0, 2])).toNat :=
  ⟨routed_of_test (by decide +kernel), by decide +kernel, by decide +kernel, by decide +kernel,
    routed_of_test (by decide +kernel), by decide +kernel, by decide +kernel, routed_of_test (by decide +kernel),
    by decide +kernel, routed_of_test (by decide +kernel), by decide +kernel⟩

/-- Pin CIN3 mapped to condition 23 with a candidate level high. -/
def pinThree (sampled : Bool) : State :=
  { onAir with
    image := { defaultImage with pinMap := setAt (fill 4 none) 3 (some 23) }
    conditions := { conditionsAtRestart with
      debouncers := setAt (fill 4 debouncerAtRestart) 3 { level := false, candidate := some { level := true, since := 0 } }
      sampled := sampled } }

theorem witness_ConditionInputs : isOperating (pinThree true).station.state = true ∧
    (pinThree true).conditions.debouncers[3].candidate = some { level := true, since := 0 } ∧
    (pinThree true).image.pinMap[3] = some 23 ∧ (pinThree true).station.state = .running ∧
    (pinThree true).conditions.sampled = true ∧ (pinThree false).conditions.sampled = false := by decide +kernel
/-- A transmit queue, with the head's copy on the line or not. -/
def queued (onLine : Bool) (q : List TxMessage) : State :=
  withLine { lineAtRestart 5 with
    lineState := .busy
    queue := q.map newEntry
    attempt := if onLine then some { copy := .cond 5 true, source := 5, held := true } else none } onAir

def demandMsg : TxMessage := .demand 0 { target := 502, x := 0, s := 0, clamp := false }
def reportMsg : TxMessage := .report 1 0 []

/-- The first entry is free when it satisfies `p`; none before it does. -/
theorem oldestFree_of_first {p : TxMessage → Bool} {l : CueLine} {before after : List TxEntry} {e : TxEntry}
    (h : FirstEntry p l before e after) (free : entryOnLine l before = false) : OldestFree p l before e after := by
  refine ⟨h.1, h.2.1, free, fun b x a hb hx => ?_⟩
  have hn := h.2.2 x (by simp [hb])
  simp [hx] at hn
theorem noneFree_of_none {p : TxMessage → Bool} {l : CueLine} (h : ∀ x ∈ l.queue, p x.msg = false) : NoneFree p l := by
  intro b x a hq hx
  have hn := h x (by simp [hq])
  simp [hx] at hn

/-- An entry of the condition on the line, and one behind it. -/
theorem witness_ConditionInputs_replace :
    FirstEntry (isCondFor 5) (queued true [.cond 5 true, reportMsg]).line [] (newEntry (.cond 5 true))
      [newEntry reportMsg] ∧
    FirstEntry (isCondFor 5) (queued true [reportMsg, .cond 5 true]).line [newEntry reportMsg]
      (newEntry (.cond 5 true)) [] := by
  unfold FirstEntry
  decide +kernel
/-- Without an entry of the condition: room, a REPORT to remove, and none. -/
theorem witness_ConditionInputs_room :
    (∀ e ∈ (queued true [reportMsg, .cond 6 true, .cond 7 true]).line.queue, isCondFor 5 e.msg = false) ∧
    (queued true [reportMsg, .cond 6 true, .cond 7 true]).line.queue.length < 4 ∧
    (∀ e ∈ (queued false [.cond 6 true, reportMsg, .cond 7 true, reportMsg]).line.queue, isCondFor 5 e.msg = false) ∧
    OldestFree isReportMsg (queued false [.cond 6 true, reportMsg, .cond 7 true, reportMsg]).line
      [newEntry (.cond 6 true)] (newEntry reportMsg) [newEntry (.cond 7 true), newEntry reportMsg] ∧
    (∀ e ∈ (queued false [.cond 6 true, .cond 7 true, .cond 8 true, demandMsg]).line.queue, isCondFor 5 e.msg = false) ∧
    NoneFree isReportMsg (queued false [.cond 6 true, .cond 7 true, .cond 8 true, demandMsg]).line :=
  ⟨by decide +kernel, by decide +kernel, by decide +kernel,
    oldestFree_of_first (by unfold FirstEntry; decide +kernel) (by decide +kernel), by decide +kernel,
    noneFree_of_none (by decide +kernel)⟩
/-- The REPORT on the line is passed over for the one behind it. -/
theorem witness_ConditionInputs_onLine :
    OldestFree isReportMsg (queued true [reportMsg, reportMsg, .cond 6 true, .cond 7 true]).line [newEntry reportMsg]
      (newEntry reportMsg) [newEntry (.cond 6 true), newEntry (.cond 7 true)] := by
  refine ⟨by decide +kernel, by decide +kernel, by decide +kernel, fun b x a h _ => ?_⟩
  cases b with
  | nil => decide +kernel
  | cons y ys => simp at h

/-- The look machine in the initial look with a dwell, an arc of condition 5 to look 1 and one of condition 6. -/
def looking (dwell : Nat) : State :=
  { onAir with
    image := { defaultImage with
      looks := fill 8 { unusedLook with inUse := true, preset := some 12, dwell := 255 }
      arcs := [{ source := some 0, target := 1, condition := 5, required := true },
               { source := none, target := 2, condition := 6, required := true }] }
    look := { lookAtRestart with started := true, entered := true, current := some 0, dwell := dwell }
    conditions := { conditionsAtRestart with
      entries := setAt (setAt conditionsAtRestart.entries 5 { value := true, stamp := 2, source := some 3 }) 6
        { value := true, stamp := 2, source := some 4 } }
    transit := { transitAtRestart with
      lookFrames := [frame 9 false]
      condNotices := [{ condition := 7, value := true, stamp := 9 }]
      homes := [{ label := 9, ident := cueSeven.ident }] } }

theorem witness_LookMachineEvents : ∀ dwell ∈ [0, 1, 2],
    (looking dwell).transit.lookFrames = [frame 9 false] ∧ (looking dwell).transit.condNotices.map (·.condition) = [7] ∧
    (looking dwell).transit.homes = [{ label := 9, ident := cueSeven.ident }] ∧
    (looking dwell).transit.runLook = none ∧ (looking dwell).look.started = true ∧ (looking dwell).look.entered = true ∧
    (looking dwell).look.dwell = dwell ∧ (looking dwell).station.state ≠ .safe := by decide +kernel
/-- A machine not started, and one not entered with no run notice or the notice of another frame start. -/
theorem witness_LookMachineEvents_idle :
    { looking 0 with look := lookAtRestart }.look.started = false ∧
    ∀ n ∈ [none, some 2],
      let s := { looking 0 with look := { lookAtRestart with started := true, runNotice := n } }
      s.look.entered = false ∧ s.look.runNotice ≠ some (frame 9 false).serial ∧
        s.transit.condNotices = [{ condition := 7, value := true, stamp := 9 }] := by decide +kernel
theorem witness_LookMachineEvents_safe :
    let s := { looking 0 with station := { onAir.station with state := .safe } }
    s.station.state = .safe ∧ s.transit.homes = [{ label := 9, ident := cueSeven.ident }] ∧
      s.transit.condNotices = [{ condition := 7, value := true, stamp := 9 }] := by decide +kernel
/-- Two arcs eligible with one stamp, of a look and of ANY; and no arc at all. -/
theorem witness_TransitionTakesOldestChange :
    (∀ p ∈ [((0 : Nat), (0 : LookNo)), (1, 3)],
      ∃ a ∈ (looking 0).image.arcs, (looking 0).image.arcs[p.1]? = some a ∧
        ((a.source = some 0 ∧ (looking 0).look.current = some 0) ∨
          (a.source = none ∧ (looking 0).look.current ≠ some a.target)) ∧
        (heldCondition (looking 0) a.condition).1 = a.required) ∧
    onAir.image.arcs = [] := by decide +kernel
/-- A condition with a notice waiting, and one without. -/
theorem witness_TransitionTakesOldestChange_held :
    (looking 0).transit.condNotices = [] ++ { condition := 7, value := true, stamp := 9 } :: [] ∧
    ∀ x ∈ (looking 0).transit.condNotices, x.condition ≠ 5 := by decide +kernel

/-- R66: equal stamps, so the lower index is taken. R67: with the change of condition 5 not yet noticed its old value
false counts, and the arc of condition 6 is taken. -/
theorem test_transition_selects :
    (after .dwellExpiry (looking 1)).look.entryCause = .arc 0 ∧
    (after .dwellExpiry { looking 1 with transit := { (looking 1).transit with
      condNotices := [{ condition := 5, value := false, stamp := 0 }] } }).look.entryCause = .arc 1 := by
  decide +kernel
/-- Pins CIN1 and CIN3 mapped, CIN3 high; the run notice of frame start 1 or 0 with 0 taken; and frame start 1. -/
def noticing (serial : Nat) (pinHigh : Bool) : State :=
  { onAir with
    image := { defaultImage with pinMap := setAt (setAt (fill 4 none) 1 (some 0)) 3 (some 23) }
    conditions := { conditionsAtRestart with
      debouncers := setAt (fill 4 debouncerAtRestart) 3 { level := pinHigh, candidate := none } }
    look := { lookAtRestart with started := true, runNotice := some 1 }
    transit := { transitAtRestart with
      runLook := some { label := 9, serial := serial }, lookFrames := [frame 9 false] } }

theorem witness_RunNoticeSamplesAndEnters : ∀ serial ∈ [0, 1], ∀ pinHigh ∈ [false, true],
    let s := noticing serial pinHigh
    s.transit.runLook = some { label := 9, serial := serial } ∧ s.look.started = true ∧ s.look.entered = false ∧
      s.image.pinMap[3] = some 23 ∧ s.conditions.debouncers[3].level = pinHigh ∧
      (serial ≤ s.look.taken ∨ s.look.taken < serial) ∧
      s.transit.lookFrames = [frame 9 false] ∧ s.look.runNotice = some (frame 9 false).serial := by decide +kernel

/-- R58, R69: the pin found high sets condition 23 and queues its COND; F_r taken, the initial look is entered. -/
theorem test_run_notice : (after .runNoticeLook (noticing 0 true)).conditions.entries[23].value = true ∧
    (after .runNoticeLook (noticing 0 true)).line.queue.map (·.msg) = [.cond 23 true] ∧
    (after .runNoticeLook (noticing 0 true)).look.entered = true ∧
    (after .runNoticeLook (noticing 1 true)).look.entered = false ∧
    (after .lookFrameStart (noticing 1 true)).look.entered = true := by decide +kernel

/-- A LOOK HOME that comes with the run notice of `noticing` still waiting. -/
def homing (serial : Nat) : State :=
  { noticing serial true with transit := { (noticing serial true).transit with
      homes := [{ label := 9, ident := cueSeven.ident }] } }

theorem witness_LookMachineEvents_notice : ∀ serial ∈ [0, 1],
    (homing serial).transit.homes = [{ label := 9, ident := cueSeven.ident }] ∧
    (homing serial).look.started = true ∧ (homing serial).station.state ≠ .safe ∧
    (homing serial).transit.runLook = some { label := 9, serial := serial } := by decide +kernel
/-- R70: the pins are sampled before LOOK HOME enters. With F_r not taken it makes the first entry; with F_r taken
the notice has made it. -/
theorem test_look_home_samples : ∀ serial ∈ [0, 1],
    let t := after .lookHome (homing serial)
    t.conditions.entries[23].value = true ∧ t.look.entryCause = .home ∧ t.transit.runLook = none ∧
      counterOf t .lookEntry = 2 - serial := by decide +kernel

/-! Fades -/

theorem witness_FadeStaysBetweenStartAndTarget : (7 : BitVec 16).toNat ≤ 7 ∧ (7 : BitVec 16) ≠ 0 := by decide

/-- A fade start request of preset `p`. -/
def request (p : Byte) : FadeRequest := { preset := p, frame := 301, total := 7, airSafe := false, source := .start }

theorem witness_FadeRequestJoinsList : ∀ p ∈ [(63 : Byte), 64],
    let s := withTransit { transitAtRestart with cueFades := [request p], lookFades := [request p] } onAir
    s.station.state ≠ .safe ∧ s.transit.cueFades = [request p] ∧ s.transit.lookFades = [request p] ∧
      (p = 64 → 64 ≤ (request p).preset.toNat) ∧ (p = 63 → (request p).preset.toNat = (63 : Fin 64).val) ∧
      s.fade.requests.length < 16 := by decide +kernel
theorem witness_FadeRequestJoinsList_full :
    16 ≤ { onAir with fade := { fadeAtRestart with requests := List.replicate 16 readyForty } }.fade.requests.length := by
  decide

theorem witness_FadeRequestJoinsList_safe :
    let s := withTransit { transitAtRestart with cueFades := [request 63], lookFades := [request 64] } (inState .safe)
    s.station.state = .safe ∧ s.transit.cueFades = [request 63] ∧ s.transit.lookFades = [request 64] := by decide +kernel

/-- An answer to tag `tag` waiting, with requests of tags 4 and 5 READING. -/
def answered (tag : Nat) (kind : AnswerKind) (f : FrameNo) : State :=
  withTransit { transitAtRestart with answers := [{ tag := tag, kind := kind }] }
    { onAir with fade := { fadeAtRestart with
      frame := f
      requests := [{ readyForty with phase := .reading, content := none, tag := 4 }] ++
        { readyForty with phase := .reading, content := none, tag := 5 } :: [] } }

theorem witness_AnswersSettleRequests : ∀ n ∈ [300, 301],
    ∀ k ∈ [AnswerKind.content contentForty, .empty, .bad, .refused],
    let f := BitVec.ofNat 24 n
    (answered 5 k f).transit.answers = [{ tag := 5, kind := k }] ∧
    (answered 5 k f).fade.requests.map (·.tag) = [4, 5] ∧
    (n = 300 → isBefore f readyForty.req.frame = true) ∧ (n = 301 → isBefore f readyForty.req.frame = false) ∧
    ∀ x ∈ (answered 6 k f).fade.requests, x.tag ≠ 6 := by decide +kernel

theorem witness_AnswersSettleRequests_safe : ∀ k ∈ [AnswerKind.content contentForty, .empty, .bad, .refused],
    let s := withTransit { transitAtRestart with answers := [{ tag := 5, kind := k }] } (inState .safe)
    s.transit.answers = [{ tag := 5, kind := k }] ∧ s.station.state = .safe ∧ s.fade.requests = [] := by decide +kernel

/-- Frame start 301 waiting at the fade engine, a READY request for channel 40, and a fade on channel 41. -/
def fading (enabled : Bool) (steps : Nat) (scales : List ScaleMessage) (r : RequestRecord) : State :=
  withTransit { transitAtRestart with fadeFrames := [frame 301 false] }
    { onAir with
      fade := { fadeAtRestart with
        requests := [r]
        enabled := enabled
        scales := scales
        channels := setAt fadeAtRestart.channels 41
          { level := 14286, lastOut := none,
            fade := some { start := 40000, target := 10000, total := 7, frame := 294, steps := steps,
                           airSafe := false, source := .start } } }
      protection := { protectionAtRestart with latch := false } }

theorem witness_FrameStartStepsFades : ∀ enabled ∈ [false, true], ∀ steps ∈ [5, 6],
    ∀ scales ∈ [[], [({ label := 301, k := 32768, serial := 1 } : ScaleMessage)]],
    let s := fading enabled steps scales readyForty
    s.transit.fadeFrames = [frame 301 false] ∧ packetsPending s.fade = false ∧ s.fade.waiting = [] ∧
      s.fade.enabled = enabled ∧ (scaleFor 1 s.fade.scales = none ↔ scales = []) ∧
      s.fade.requests = [] ++ readyForty :: [] ∧ requestDue (frame 301 false) readyForty = true ∧
      affects s readyForty 40 = true ∧ affects s readyForty 41 = false ∧
      s.fade.channels[41].fade.isSome = true ∧ s.fade.channels[42].fade = none ∧
      (steps = 5 → steps + 1 < (7 : BitVec 16).toNat) ∧ (steps = 6 → (7 : BitVec 16).toNat ≤ steps + 1) ∧
      readyForty.req.total ≠ 0 := by decide +kernel
theorem witness_FrameStartStepsFades_cut :
    let r := { readyForty with req := { readyForty.req with total := 0 } }
    (fading true 5 [] r).fade.requests = [] ++ r :: [] ∧ requestDue (frame 301 false) r = true ∧
      affects (fading true 5 [] r) r 40 = true ∧ r.req.total = 0 ∧ r.content = some contentForty := by decide +kernel
/-- R82: protection in force and a request that is not air-safe: channel 40 is left out with one PROTECT_DROP. -/
theorem test_protect_drop :
    let s := withProtection { protectionAtRestart with latch := true } (fading true 5 [] readyForty)
    counterOf (after .fadeFrameStart s) .protectDrop = 1 ∧ (after .fadeFrameStart s).fade.channels[40].fade = none := by
  decide +kernel
/-- DEFERRED; READY at F, and after it with the adoption mark and without. -/
theorem witness_FrameStartStepsFades_due : isAfter readyForty.req.frame 301 = false ∧
    isAfter readyForty.req.frame 300 = true ∧ requestDue (frame 300 true) readyForty = true ∧
    requestDue (frame 300 false) readyForty = false ∧
    requestDue (frame 300 false) { readyForty with phase := .deferred } = true := by decide +kernel

/-- Packets owed, packets in transmission, and a frame start that waits already. -/
def holding (p : PacketState) (sending : List FixtureSend) (waits : List FrameEvent) : State :=
  let s := fading true 5 [] readyForty
  { s with fade := { s.fade with packets := p, sending := sending, waiting := waits } }
def packet : FixtureSend := { frame := 300, refresh := false, levels := fill 128 0 }
theorem witness_FrameStartStepsFades_waits :
    ∀ p ∈ [(PacketState.owed, ([] : List FixtureSend), ([] : List FrameEvent)), (.formed, [packet], []),
           (.notDue, [], [frame 300 false])],
    let s := holding p.1 p.2.1 p.2.2
    s.transit.fadeFrames = [frame 301 false] ∧
      ((s.fade.enabled = true ∧ (s.fade.packets = .owed ∨ s.fade.sending ≠ [])) ∨ s.fade.waiting ≠ []) := by
  decide +kernel
/-- R87: frame start 301 waits while packets are in transmission, and is taken when they have gone. -/
theorem test_fade_frame_waits :
    let s := after .fadeFrameStart (holding .formed [packet] [])
    s.fade.waiting = [frame 301 false] ∧ s.fade.frame = 0 ∧
      (after .fixturePacketsSent s).fade.frame = 301 ∧ (after .fixturePacketsSent s).fade.waiting = [] := by
  decide +kernel

/-- Channel 1 UNSCALED, channel 2 PINNED. -/
def classes : Image :=
  { defaultImage with
    channels := setAt (setAt defaultImage.channels 1 { cls := .unscaled, rated := 0, pinned := 0 }) 2
      { cls := .pinned, rated := 0, pinned := 777 } }

theorem witness_OutputLevels : ∀ latch ∈ [false, true],
    let s : State := { onAir with image := classes, protection := { protectionAtRestart with latch := latch } }
    s.image.channels[1].cls = .unscaled ∧ s.image.channels[2].cls = .pinned ∧ s.image.channels[3].cls = .scaled ∧
      protectedInForce s.protection 3 = latch := by decide +kernel

/-- Station 5 with its links enabled. -/
def linked (p : PacketState) (k : Option Nat) (sending : List FixtureSend) : State :=
  withTransit { transitAtRestart with fadeScales := [{ label := 0, k := 32768, serial := 0 }], protNotices := 1 }
    { onAir with fade := { fadeAtRestart with enabled := true, packets := p, k := k, sending := sending } }

theorem witness_PacketsAndRunNotice_scale :
    (linked .owed none []).transit.fadeScales = [{ label := 0, k := 32768, serial := 0 }] ∧
    0 = (linked .owed none []).fade.taken ∧ (linked .owed none []).fade.packets = .owed := by decide +kernel
theorem witness_PacketsAndRunNotice_refresh :
    let s := linked .formed (some 4096) [{ frame := 0, refresh := false, levels := fill 128 0 }]
    s.transit.protNotices = 0 + 1 ∧ s.fade.enabled = true ∧ s.fade.packets = .formed ∧ s.fade.k = some 4096 ∧
      s.fade.sending = [{ frame := 0, refresh := false, levels := fill 128 0 }] ∧ s.fade.waiting = [] := by
  decide +kernel
/-- k of frame start 1 with 0, 1 and 2 taken, and no packets owed. -/
theorem witness_PacketsAndRunNotice_scales : ∀ n ∈ [0, 1, 2], ∀ p ∈ [PacketState.notDue, .formed],
    let m : ScaleMessage := { label := 9, k := 4096, serial := 1 }
    let s := withTransit { transitAtRestart with fadeScales := [m] }
      { onAir with fade := { fadeAtRestart with enabled := true, packets := p, taken := n } }
    s.transit.fadeScales = [m] ∧ m.serial = 1 ∧ s.fade.taken = n ∧ s.fade.packets ≠ .owed := by decide +kernel
/-- R87, R171: k that comes before its frame start is kept, and the packets go at the frame start. -/
theorem test_scale_before_frame :
    let s := withTransit { transitAtRestart with
        fadeFrames := [frame 9 false], fadeScales := [{ label := 9, k := 4096, serial := 1 }] }
      { onAir with fade := { fadeAtRestart with enabled := true } }
    let t := after .fadeFrameStart (after .scaleArrivalFade s)
    t.fade.packets = .formed ∧ t.fade.k = some 4096 ∧ t.fade.scales = [] ∧
      (after .fadeFrameStart s).fade.packets = .owed := by decide +kernel
/-- Links disabled, packets owed, and no k held. -/
theorem witness_PacketsAndRunNotice_noRefresh :
    ∀ x ∈ [(false, PacketState.notDue, some 4096), (true, .owed, none), (true, .formed, none)],
    let s := withTransit { transitAtRestart with protNotices := 1 }
      { onAir with fade := { fadeAtRestart with enabled := x.1, packets := x.2.1, k := x.2.2 } }
    s.transit.protNotices = 0 + 1 ∧ (s.fade.enabled = false ∨ s.fade.packets ≠ .formed ∨ s.fade.k = none) := by
  decide +kernel
/-- The last packets sent with a frame start that waits, and packets sent before others. -/
theorem witness_PacketsAndRunNotice_waits : ∀ ps ∈ [[], [packet]],
    let s := holding .formed (packet :: ps) [frame 300 false]
    s.fade.sending = packet :: ps ∧ s.fade.waiting = [frame 300 false] ∧ s.fade.packets ≠ .owed := by decide +kernel
/-- R196: the packet of link 1 for frame 0x010203 with channel 64 at 0xABCD and channel 127 at 1. -/
theorem test_packet_bytes :
    let b := packetBytes 1 { frame := 0x010203, refresh := true, levels := setAt (setAt (fill 128 0) 64 0xABCD) 127 1 }
    b.take 6 = [1, 2, 3, 1, 0xAB, 0xCD] ∧ b.drop 130 = [0, 1] ∧ b.length = 132 := by decide +kernel
theorem witness_PacketsAndRunNotice_full :
    let s : State := { onAir with
      image := { defaultImage with startPreset := some 63 }
      fade := { fadeAtRestart with requests := List.replicate 16 readyForty }
      transit := { transitAtRestart with runFade := some { label := 9, serial := 1 } } }
    s.transit.runFade = some { label := 9, serial := 1 } ∧ s.image.startPreset = some 63 ∧
      16 ≤ s.fade.requests.length := by decide +kernel
theorem witness_PacketsAndRunNotice_notice : ∀ serial ∈ [0, 1], ∀ k ∈ [none, some 32768],
    ∀ start ∈ [none, some (63 : Byte)],
    let s : State := { onAir with
      image := { defaultImage with startPreset := start }
      fade := { fadeAtRestart with k := k }
      transit := { transitAtRestart with runFade := some { label := 9, serial := serial } } }
    s.transit.runFade = some { label := 9, serial := serial } ∧ s.image.startPreset = start ∧
      s.fade.requests.length < 16 ∧ s.fade.k = k ∧ (s.fade.taken < serial ∨ serial ≤ s.fade.taken) := by
  decide +kernel
theorem witness_ForecastCases :
    let s := fading true 5 [] readyForty
    s.image.channels[40].cls ≠ .pinned ∧ s.fade.requests = [] ++ readyForty :: [] ∧ readyForty.phase ≠ .reading ∧
      readyForty.content = some contentForty ∧ contentForty.mask.getLsbD 40 = true ∧ s.fade.channels[40].fade = none ∧
      contentForty.mask.getLsbD 41 = false ∧ s.fade.channels[41].fade.isSome = true ∧
      contentForty.mask.getLsbD 42 = false ∧ s.fade.channels[42].fade = none ∧
      { s with image := classes }.image.channels[2].cls = .pinned := by decide +kernel
/-- A fade over 7 frames at step 5, seen 1 and 2 frames ahead. -/
theorem witness_ForecastCases_steps : ∀ n ∈ [301, 302],
    5 + (if isAfter (BitVec.ofNat 24 n) 300 then frameDistance 300 (BitVec.ofNat 24 n) else 0) = n - 295 ∧
    (n = 301 → n - 295 < (7 : BitVec 16).toNat) ∧ (n = 302 → (7 : BitVec 16).toNat ≤ n - 295) := by decide +kernel

/-! Preset store -/

/-- Buffer A in a state. -/
def bufferAs (b : BufferState) : State := withStore { storeAtRestart with
  bufferA := { bufferAtRestart with state := b } } onAir

theorem witness_PresetWritesOpenBuffer : Routed .preset presetTwo onAir ∧
    (presetFields presetTwo).buffer.toNat = 0 ∧ (bufferOf .a onAir.store).state = .opened ∧
    Routed .preset presetTwo (bufferAs .queued) ∧ (bufferOf .a (bufferAs .queued).store).state ≠ .opened ∧
    (let m := toFive .preset [2, 0, 1, 0, 0, 0, 0, 1]
     Routed .preset m onAir ∧ 2 ≤ (presetFields m).buffer.toNat) :=
  ⟨routed_of_test (by decide +kernel), by decide +kernel, by decide +kernel, routed_of_test (by decide +kernel),
    by decide +kernel, routed_of_test (by decide +kernel), by decide +kernel⟩
/-- Two levels from channel 127: entries 0 and 1, and a channel that neither names. -/
theorem witness_PresetWritesOpenBuffer_part : (presetFields presetTwo).levels.length = 2 ∧
    (presetFields presetTwo).levels[1]? = some 0x5678 ∧
    ∀ i < 2, channelMod ((presetFields presetTwo).firstChannel.toNat + i) ≠ 1 := by decide +kernel

theorem witness_CommitJoinsOrStarts : Routed .commit commitTwelve onAir ∧ (commitBuffer commitTwelve).toNat = 0 ∧
    (commitPreset commitTwelve).toNat = (12 : Fin 64).val ∧ (bufferOf .a onAir.store).state = .opened ∧
    onAir.store.ops = [] ∧ onAir.store.serving = none ∧ onAir.store.reads = [] ∧ onAir.store.running = none ∧
    onAir.store.restartWait = false :=
  ⟨routed_of_test (by decide +kernel), by decide +kernel⟩
theorem witness_CommitJoinsOrStarts_errors :
    Routed .commit (toFive .commit [2, 0]) onAir ∧ 2 ≤ (commitBuffer (toFive .commit [2, 0])).toNat ∧
    Routed .commit (toFive .commit [0, 64]) onAir ∧ 64 ≤ (commitPreset (toFive .commit [0, 64])).toNat ∧
    Routed .commit commitTwelve (bufferAs .committing) ∧ (bufferOf .a (bufferAs .committing).store).state ≠ .opened :=
  ⟨routed_of_test (by decide +kernel), by decide +kernel, routed_of_test (by decide +kernel), by decide +kernel,
    routed_of_test (by decide +kernel), by decide +kernel⟩
/-- Behind a map program: with three operations queued one more joins, with four none does. -/
theorem witness_CommitJoinsOrStarts_queue : ∀ n ∈ [3, 4],
    let s := withStore { storeAtRestart with
      ops := List.replicate n .mapErase, running := some (.mapProgram 127 1) } onAir
    routedTest .commit commitTwelve s = true ∧ (bufferOf .a s.store).state = .opened ∧
      (n = 3 → s.store.ops.length < 4) ∧ (n = 4 → 4 ≤ s.store.ops.length) ∧ s.store.serving = none ∧
      s.store.reads = [] ∧ s.store.running = some (.mapProgram 127 1) ∧
      ∀ c ∈ runningCommit s, c.suspended = false := by decide +kernel
/-- With a read being served, a read waiting and a restart wait open. -/
theorem witness_CommitJoinsOrStarts_busy :
    let s := withStore { storeAtRestart with
      serving := some { preset := 5, tag := 1 }, reads := [{ preset := 6, tag := 2 }], restartWait := true } onAir
    routedTest .commit commitTwelve s = true ∧ (bufferOf .a s.store).state = .opened ∧ s.store.ops.length < 4 := by
  decide +kernel

/-- A read of a preset waiting at the preset store. -/
def reading (n : Fin 64) (s : State) : State :=
  withTransit { transitAtRestart with reads := [{ preset := n, tag := 9 }] } s

theorem witness_ReadsAreServed_forwarded : (reading 12 (committing (commitRun .verify))).transit.reads =
      [{ preset := 12, tag := 9 }] ∧
    ∃ c ∈ runningCommit (reading 12 (committing (commitRun .verify))), c.preset = 12 := by decide +kernel
theorem witness_ReadsAreServed_full :
    let s := reading 5 (withStore { storeAtRestart with
      reads := List.replicate 8 { preset := 6, tag := 1 }, running := some (.commit (commitRun .verify)) } onAir)
    s.transit.reads = [{ preset := 5, tag := 9 }] ∧ (∀ c ∈ runningCommit s, c.preset ≠ 5) ∧
      8 ≤ s.store.reads.length := by decide +kernel
theorem witness_ReadsAreServed_idle : ∀ e ∈ [EntryState.empty, .bad, .valid],
    let s := reading 63 (withStore { storeAtRestart with
      directory := setAt storeAtRestart.directory 63 { state := e, airSafe := false } } onAir)
    s.transit.reads = [{ preset := 63, tag := 9 }] ∧ s.store.running = none ∧ s.store.serving = none ∧
      s.store.reads = [] ∧ s.store.ops = [] ∧ s.store.directory[63].state = e := by decide +kernel
theorem witness_ReadsAreServed_asks : ∀ n ∈ [7, 8],
    let c := { commitRun .program with suspends := n }
    let s := reading 5 (withValidFive (committing c))
    s.store.running = some (.commit c) ∧ c.preset ≠ 5 ∧ c.phase ≠ .verify ∧ c.suspended = false ∧
      s.store.serving = none ∧ s.store.reads = [] ∧ s.store.restartWait = false ∧
      s.store.directory[5].state = .valid := by decide +kernel
theorem witness_ReadsAreServed_suspension :
    let c := { commitRun .erase with asked := true, suspends := 7 }
    let s := withValidFive { committing c with
      store := { (committing c).store with reads := [{ preset := 5, tag := 9 }] } }
    s.store.running = some (.commit c) ∧ c.asked = true ∧ c.suspended = false ∧ c.phase ≠ .verify ∧
      s.store.reads = [{ preset := 5, tag := 9 }] ∧ s.store.directory[5].state = .valid := by decide +kernel
theorem witness_ReadsAreServed_end :
    let c := { commitRun .program with suspended := true, suspends := 8 }
    let s := withValidFive { committing c with
      store := { (committing c).store with serving := some { preset := 5, tag := 9 } } }
    s.store.serving = some { preset := 5, tag := 9 } ∧ s.flash.presets[5].body = .programmed contentForty ∧
      s.store.reads = [] ∧ s.store.running = some (.commit c) ∧ c.suspended = true := by decide +kernel
/-- A read served with others waiting; a read taken behind seven; a suspension reached with an EMPTY head read. -/
theorem witness_ReadsAreServed_waiting :
    (let s := withValidFive (withStore { storeAtRestart with
       serving := some { preset := 5, tag := 9 }, reads := [{ preset := 6, tag := 1 }] } onAir)
     s.store.serving = some { preset := 5, tag := 9 } ∧ s.flash.presets[5].body = .programmed contentForty) ∧
    (let s := reading 5 (withStore { storeAtRestart with reads := List.replicate 7 { preset := 6, tag := 1 } } onAir)
     s.transit.reads = [{ preset := 5, tag := 9 }] ∧ (∀ c ∈ runningCommit s, c.preset ≠ 5) ∧ s.store.reads.length < 8) ∧
    (let c := { commitRun .erase with asked := true }
     let s := { committing c with store := { (committing c).store with reads := [{ preset := 6, tag := 1 }] } }
     s.store.running = some (.commit c) ∧ c.asked = true ∧ c.suspended = false ∧ c.phase ≠ .verify ∧
       (answerHeads s).store.reads = []) := by decide +kernel
/-- The arbiter over a free array and over a commit, suspended or not, with the head read of preset 5 VALID, of
preset 6 EMPTY, or none, with a restart wait and without. -/
theorem witness_ReadsAreServed_arbiter : ∀ wait ∈ [false, true], ∀ reads ∈ [[], [(5 : Fin 64)], [6], [6, 5]],
    ∀ run ∈ [none, some (commitRun .erase), some { commitRun .program with suspended := true },
             some { commitRun .erase with suspends := 8 }, some (commitRun .verify)],
    let s := withValidFive (withStore { storeAtRestart with
      reads := reads.map fun n => { preset := n, tag := 9 }
      ops := [.mapErase]
      running := run.map .commit
      restartWait := wait } onAir)
    s.store.serving = none ∧ s.store.running = run.map .commit ∧ s.store.restartWait = wait ∧
      s.store.ops = [.mapErase] ∧ s.station.state ≠ .safe ∧
      (answerHeads s).store.reads = (if 5 ∈ reads then [{ preset := 5, tag := 9 }] else []) := by decide +kernel

theorem witness_CommitPhasesEnd : ∀ p ∈ [CommitPhase.erase, .program, .verify],
    (committing (commitRun p)).store.running = some (.commit (commitRun p)) ∧ (commitRun p).suspended = false ∧
    (commitRun p).phase = p ∧ (committing (commitRun p)).store.serving = none ∧
    (committing (commitRun p)).store.reads = [] ∧ (committing (commitRun p)).store.ops = [] := by decide +kernel
/-- R106: with an operation waiting, the end of VERIFY starts it. -/
theorem test_verify_starts_next :
    let s := { committing (commitRun .verify) with
      store := { (committing (commitRun .verify)).store with ops := [.mapErase] } }
    (after (.verifyEnd true) s).store.running = some .mapErase ∧ (after (.verifyEnd true) s).flash.journal = some .map ∧
      (after (.verifyEnd true) s).store.ops = [] := by decide +kernel

/-- A map operation in progress over a map page. -/
def mapping (r : Running) (e : EntryState) (page : Page ChannelSet) : State :=
  { onAir with
    flash := { onAir.flash with mapPage := page }
    store := { storeAtRestart with mapEntry := e, running := some r } }

theorem witness_MapOperationsEnd :
    ∀ p ∈ [(EntryState.bad, ({ void := true, body := .damaged } : Page ChannelSet)), (.empty, erasedPage),
           (.valid, { void := false, body := .programmed 3 })],
    ∀ r ∈ [Running.mapErase, .mapProgram 127 0x80000001],
    (mapping r p.1 p.2).store.serving = none ∧ (mapping r p.1 p.2).store.reads = [] ∧
    (mapping r p.1 p.2).store.ops = [] ∧ (mapping r p.1 p.2).store.running = some r ∧
    (mapping r p.1 p.2).store.mapEntry = p.1 ∧
    (p.1 = .valid → (mapping r p.1 p.2).flash.mapPage.body = .programmed 3) := by decide +kernel
/-- A map erase that ends with a commit queued and a read waiting. -/
theorem witness_MapOperationsEnd_waiting :
    let s := withStore { storeAtRestart with
      running := some .mapErase, ops := [.commit .a 12], reads := [{ preset := 5, tag := 9 }] } onAir
    s.store.running = some .mapErase ∧ s.store.reads ≠ [] ∧ s.store.ops ≠ [] := by decide +kernel
theorem witness_StartScanJudgesPages : ∀ st ∈ [StationState.scanning, .safe],
    let s := withTransit { transitAtRestart with scanMap := some 1 }
      (withStore { storeAtRestart with scanning := true } (inState st))
    s.store.scanning = true ∧ s.station.state = st ∧ s.transit.scanMap = some 1 := by decide +kernel

/-! Protection -/

theorem witness_OnAirPinAndMapCopy : ∀ level ∈ [false, true], ∀ latch ∈ [false, true],
    let s := withTransit { transitAtRestart with mapDone := [7] } (withProtection { protectionAtRestart with
      started := true, pin := !level, latch := latch, outstanding := 1,
      candidate := some { level := level, since := 0 } } onAir)
    s.protection.started = true ∧ s.protection.candidate = some { level := level, since := 0 } ∧
      s.transit.mapDone = [7] := by decide +kernel
theorem witness_ProtectMessages : ∀ pin ∈ [false, true],
    let s := withProtection { protectionAtRestart with started := true, pin := pin } onAir
    s.protection.pin = pin ∧ routedTest .protect (protect 1) s = true ∧ protectCode (protect 1) = 1 ∧
      routedTest .protect (protect 0) s = true ∧ protectCode (protect 0) = 0 ∧
      routedTest .protect (protect 2) s = true ∧ 1 < (protectCode (protect 2)).toNat := by decide +kernel
theorem witness_MapMessages : ∀ pin ∈ [false, true], ∀ n ∈ [0, 3, 4],
    let s := withProtection { protectionAtRestart with started := true, pin := pin }
      (withStore { storeAtRestart with
        ops := List.replicate n .mapErase, running := if n = 0 then none else some .mapErase } onAir)
    routedTest .map (mapMsg 0) s = true ∧ mapCode (mapMsg 0) = 0 ∧ routedTest .map (mapMsg 1) s = true ∧
      mapCode (mapMsg 1) = 1 ∧ routedTest .map (mapMsg 2) s = true ∧ 1 < (mapCode (mapMsg 2)).toNat ∧
      s.protection.pin = pin ∧ s.store.serving = none ∧ s.store.reads = [] ∧ s.store.restartWait = false ∧
      (n = 0 → s.store.running = none ∧ s.store.ops = []) ∧ (n = 3 → s.store.ops.length < 4) ∧
      (n = 4 → 4 ≤ s.store.ops.length) ∧ s.protection.outstanding < 5 ∧
      ∀ x ∈ runningCommit s, x.suspended = false := by decide +kernel
/-- With a read being served, a read waiting, a suspended commit and a restart wait open. -/
theorem witness_MapMessages_busy :
    let s := withStore { storeAtRestart with
      serving := some { preset := 5, tag := 1 }, reads := [{ preset := 6, tag := 2 }], restartWait := true
      running := some (.commit { commitRun .erase with suspended := true }) } onAir
    routedTest .map (mapMsg 1) s = true ∧ mapCode (mapMsg 1) = 1 ∧ s.protection.pin = false ∧
      s.store.ops.length < 4 := by decide +kernel

/-- Five outstanding, three map operations and a commit queued, one in progress and a notice waiting. -/
def fullWithNotice : State :=
  let s := outstanding 3 [7]
  { s with store := { s.store with ops := s.store.ops ++ [.commit .a 12] } }
/-- Five outstanding with a notice waiting: with room in the queue, and with a full one. -/
theorem witness_MapMessages_five : ∀ s ∈ [outstanding 3 [7], fullWithNotice],
    routedTest .map (mapMsg 1) s = true ∧ mapCode (mapMsg 1) = 1 ∧ s.protection.pin = false ∧
    5 ≤ s.protection.outstanding ∧ (s.store.ops.length < 4 ∨ 4 ≤ s.store.ops.length) := by decide +kernel
/-- R129: a MAP refused at a full queue leaves the count and the map copy, whatever notice waits. -/
theorem test_refused_map_keeps_count :
    let t := after (.mapErase (mapMsg 0)) fullWithNotice
    t.protection = fullWithNotice.protection ∧ t.transit.mapDone = [7] ∧ counterOf t .opqFull = 1 := by decide +kernel
/-- R129: a MAP that comes before the waiting notice is taken leaves the count at 5, and the notice's map is taken. -/
theorem test_outstanding_stays_five :
    let t := after (.mapErase (mapMsg 0)) (outstanding 3 [7])
    t.protection.outstanding = 5 ∧ t.protection.map = 7 ∧ t.store.ops.length = 4 ∧ t.transit.mapDone = [] := by
  decide +kernel

/-! Wall feed -/

/-- The wall feed with a load state and a raster position. -/
def raster (l : LoadState) (frozen : Bool) (p : Option RasterPosition) : State :=
  withWall { wallAtRestart 0 with load := l, frozen := frozen, raster := p } onAir

theorem witness_RasterMarkersAndErrors : ∀ l ∈ [LoadState.empty, .filling, .complete], ∀ frozen ∈ [false, true],
    takesRaster (raster l frozen none) = true ∧ (raster l frozen none).wall.load = l ∧
    (raster l frozen none).wall.frozen = frozen := by decide +kernel
/-- The first marker, a marker after a whole line, a short line, and the marker past the last row. -/
theorem witness_RasterMarkersAndErrors_marker :
    ∀ p ∈ [(({ row := none, column := 0 } : RasterPosition), false), ({ row := some 1078, column := 1920 }, false),
           ({ row := some 0, column := 1919 }, true), ({ row := some 1079, column := 1920 }, true)],
    (raster .filling false (some p.1)).wall.raster = some p.1 ∧
    (((p.1.row ≠ none ∧ p.1.column < onAir.image.rasterColumns) ∨
      onAir.image.rasterRows ≤ (match p.1.row with | some r => r + 1 | none => 0)) ↔ p.2 = true) := by decide +kernel
theorem witness_PixelsFillTheLoad :
    ∀ p ∈ [((none : Option Nat), 0), (some 0, 1919), (some 0, 1920), (some 575, 1023), (some 576, 0)],
    takesRaster (raster .filling false (some { row := p.1, column := p.2 })) = true ∧
    (p = (some 575, 1023) → inWindow onAir.image p.2 575 = true) ∧
    (p = (some 576, 0) → inWindow onAir.image p.2 576 = false) ∧ (p = (some 0, 1920) → onAir.image.rasterColumns ≤ p.2) := by
  decide +kernel
/-- The window pointer at its last place, and elsewhere. -/
theorem witness_PixelsFillTheLoad_last :
    (1023 + 1 = segmentWidth onAir.image ∧ 575 + 1 = segmentHeight onAir.image) ∧
    ¬ (0 + 1 = segmentWidth onAir.image ∧ 575 + 1 = segmentHeight onAir.image) := by decide +kernel
/-- The pointer in a line and at its last column; a component that clamps and one that does not. -/
theorem witness_PixelsFillTheLoad_pointer : 1022 + 1 < segmentWidth onAir.image ∧ segmentWidth onAir.image ≤ 1023 + 1 ∧
    1023 < (1000 * 40000 + 16384) / 32768 ∧ ¬ 1023 < (1000 * 32768 + 16384) / 32768 := by decide +kernel
/-- R146: a line error leaves a COMPLETE load, and abandons a FILLING one. -/
theorem test_line_error_load : ∀ l ∈ [LoadState.filling, .complete],
    (after (.rasterPixel black) (raster l false (some { row := none, column := 0 }))).wall.load =
      (if l = .filling then .empty else .complete) := by decide +kernel
theorem witness_PixelArithmetic : ∀ muted ∈ [false, true],
    let w := { wallAtRestart 0 with enabled := true, muted := muted, scan := some 9, k := some 32768 }
    (32768 : Nat) ≤ 32768 ∧ w.k = some 32768 ∧ w.enabled = true ∧ w.muted = muted ∧ w.scan ≠ none := by decide
/-- R139, R153: with the default window of 576 rows links 0 to 8 carry rows; with 65 rows link 1 carries one row and
link 2 is black; outside a scan every link is black. -/
theorem witness_PixelArithmetic_links :
    let small : Image := { defaultImage with rowEnd := defaultImage.rowStart + 64 }
    let s := withWall { wallAtRestart 0 with scan := some 9 } { onAir with image := small }
    64 * 8 < segmentHeight onAir.image ∧ onAir.wall.scan = none ∧ s.wall.scan = some 9 ∧
      64 * 1 < segmentHeight s.image ∧ segmentHeight s.image ≤ 64 * 2 ∧ panelLink s 2 = .black ∧
      panelLinkRows s.image 1 = [64] := by decide +kernel

/-- Frame start 100 waiting at the wall feed. -/
def wallFrame (w : WallFeed) : State :=
  withTransit { transitAtRestart with wallFrames := [frame 100 false] } (withWall w onAir)

theorem witness_WallFrameStartSwapsOrRepeats : ∀ l ∈ [LoadState.empty, .filling, .complete],
    ∀ frozen ∈ [false, true], ∀ scales ∈ [[], [({ label := 100, k := 4096, serial := 1 } : ScaleMessage)]],
    ∀ n ∈ [99, 100],
    let label : FrameNo := BitVec.ofNat 24 n
    let s := wallFrame { wallAtRestart 0 with
      load := l, frozen := frozen, scales := scales, muteRequest := some { mute := true, label := label } }
    s.transit.wallFrames = [frame 100 false] ∧ s.wall.scan = none ∧ s.wall.scanOwed = false ∧ s.wall.waiting = [] ∧
      s.wall.muteRequest = some { mute := true, label := label } ∧
      (isBefore label 100 = true ↔ n = 99) ∧ s.wall.frozen = frozen ∧ s.wall.load = l ∧
      (scaleFor 1 s.wall.scales = none ↔ scales = []) := by decide +kernel

/-- A scan in progress, a scan owed, and a frame start that waits already. -/
theorem witness_WallFrameStartSwapsOrRepeats_waits :
    ∀ w ∈ [{ wallAtRestart 0 with scan := some 99 }, { wallAtRestart 0 with scanOwed := true },
           { wallAtRestart 0 with waiting := [frame 99 false] }],
    (wallFrame w).transit.wallFrames = [frame 100 false] ∧
    ((wallFrame w).wall.scan ≠ none ∨ (wallFrame w).wall.scanOwed = true ∨ (wallFrame w).wall.waiting ≠ []) := by
  decide +kernel
theorem witness_ScansAndWallActions_waits :
    let s := wallFrame { wallAtRestart 0 with scan := some 98, waiting := [frame 99 false] }
    s.wall.scan = some 98 ∧ s.wall.scanOwed = false ∧ s.wall.waiting = [frame 99 false] := by decide +kernel
/-- R153: frame start 100 waits during the scan of 98, and its swap is made when the scan has ended. -/
theorem test_wall_frame_waits :
    let s := after .wallFrameStart (wallFrame { wallAtRestart 0 with scan := some 98, load := .complete, luma := 5 })
    s.wall.waiting = [frame 100 false] ∧ s.wall.live = false ∧ (after .scanEnd s).wall.live = true ∧
      (after .scanEnd s).wall.liveLuma = 5 ∧ (after .scanEnd s).wall.frame = 100 := by decide +kernel
theorem witness_ScansAndWallActions_safe :
    ∀ a ∈ [CueAction.wallFreeze, .wallRun, .wallMute, .wallUnmute, .wallProfile 3],
    let x : WallAction := { action := a, label := 9, ident := cueSeven.ident }
    let s := withTransit { transitAtRestart with wallActions := [x], lookProfiles := [4] } (inState .safe)
    s.station.state = .safe ∧ s.transit.wallActions = [x] ∧ x.action = a ∧ s.transit.lookProfiles = [4] ∧
      4 ≤ (4 : Byte).toNat := by decide +kernel
theorem witness_ScansAndWallActions_scale :
    let s := withTransit { transitAtRestart with wallScales := [{ label := 0, k := 4096, serial := 0 }] }
      (withWall { wallAtRestart 0 with scanOwed := true } onAir)
    s.transit.wallScales = [{ label := 0, k := 4096, serial := 0 }] ∧ 0 = s.wall.taken ∧ s.wall.scanOwed = true := by
  decide +kernel
/-- k of frame start 1 with 0, 1 and 2 taken, and no scan owed. -/
theorem witness_ScansAndWallActions_scales : ∀ n ∈ [0, 1, 2],
    let m : ScaleMessage := { label := 9, k := 4096, serial := 1 }
    let s := withTransit { transitAtRestart with wallScales := [m] }
      (withWall { wallAtRestart 0 with taken := n } onAir)
    s.transit.wallScales = [m] ∧ m.serial = 1 ∧ s.wall.taken = n ∧ s.wall.scanOwed = false := by decide +kernel
/-- R153: k that comes before its frame start is kept, and the scan begins at the frame start. -/
theorem test_wall_scale_before_frame :
    let s := withTransit { transitAtRestart with
        wallFrames := [frame 9 false], wallScales := [{ label := 9, k := 4096, serial := 1 }] }
      (withWall (wallAtRestart 0) onAir)
    (after .wallFrameStart (after .scaleArrivalWall s)).wall.scan = some 9 ∧
      (after .wallFrameStart s).wall.scanOwed = true := by decide +kernel
theorem witness_ScansAndWallActions_notice : ∀ scanning ∈ [false, true],
    let scan : Option FrameNo := if scanning then some 9 else none
    let s := withTransit { transitAtRestart with runWall := some { label := 9, serial := 1 } }
      (withWall { wallAtRestart 0 with scan := scan } onAir)
    s.transit.runWall = some { label := 9, serial := 1 } ∧ s.wall.scan = scan ∧ s.wall.waiting = [] := by decide +kernel
theorem witness_ScansAndWallActions_actions :
    ∀ a ∈ [CueAction.wallFreeze, .wallRun, .wallMute, .wallUnmute, .wallProfile 3, .wallProfile 4],
    ∀ frozen ∈ [false, true],
    let x : WallAction := { action := a, label := 9, ident := cueSeven.ident }
    let s := withTransit { transitAtRestart with wallActions := [x], lookProfiles := [3] } (raster .filling frozen none)
    s.transit.wallActions = [x] ∧ s.station.state ≠ .safe ∧ x.action = a ∧ s.wall.frozen = frozen ∧
      s.transit.lookProfiles = [3] ∧ (3 : Byte).toNat = (3 : Fin 4).val ∧ 4 ≤ (4 : Byte).toNat := by decide +kernel

/-! Supply budget -/

theorem witness_DemandStored : Routed .demand demand502 onAir ∧
    onAir.budget.peers[demand502.source.toFin] = none ∧ onAir.budget.last = none :=
  ⟨routed_of_test (by decide +kernel), by decide +kernel⟩

/-- A table entry of station 3 with announcements for two frames. -/
def peer (a : FrameNo) (b : Option FrameNo) : PeerEntry :=
  { peerThree with
    first := { target := a, x := 1, s := 2, clamp := false }
    second := b.map fun t => { target := t, x := 3, s := 4, clamp := false } }

/-- Entries before, at and after target 502, as the entry's one announcement and as its two. -/
theorem witness_DemandStored_held :
    ∀ p ∈ [(501, none), (502, none), (503, none), (501, some 502), (500, some 501), (501, some 503), (503, some 504)],
    let e := peer (BitVec.ofNat 24 p.1) (p.2.map (BitVec.ofNat 24))
    routedTest .demand demand502 (withPeer e) = true ∧
    (withPeer e).budget.peers[demand502.source.toFin] = some e ∧ (demandFields demand502).target = 502 ∧
    (isBefore e.first.target 502 = true ↔ p.1 = 501 ∨ p.1 = 500) := by decide +kernel
theorem witness_DemandStored_second : isBefore 501 (502 : FrameNo) = true ∧ isBefore 503 (502 : FrameNo) = false := by
  decide
theorem witness_BudgetClose_rows : (4096 : Nat) ≤ 32768 ∧ (4096 : Nat) ≤ 32768 ∧ 1000 + 3000 ≤ 4000 ∧
    ¬ (4000 + 1 ≤ 4000) ∧ 4000 ≤ 4000 ∧ 3999 < 4000 ∧ 4000 < 3999 + 2 := by decide
/-- The announcement for 501, the later of those before 502, and the earlier of those ahead of 499. -/
theorem witness_BudgetClose_taken : selectAnnouncement 501 peerThree =
      (.exact, { target := 501, x := 65535, s := 0, clamp := true }) ∧
    (selectAnnouncement 502 peerThree).1 = .stale ∧ (selectAnnouncement 499 peerThree).1 = .ahead ∧
    peerThree.first.target ≠ 501 ∧ isBefore peerThree.first.target 501 = true := by decide +kernel

/-- Frame start 100 waiting at the budget unit. -/
def budgeting (joined : Bool) (g : FrameNo) : State :=
  withTransit { transitAtRestart with
      budgetFrames := [frame 100 false], joinNotice := some { label := 9, serial := 1 } }
    { onAir with budget := { onAir.budget with
      joined := joined
      last := some { target := g, x := 0, s := 0, counted := 1, stale := 0, ahead := 0, kTarget := 32768, k := 5120,
                     flags := { noFlags with full := true } } } }

theorem witness_BudgetFrameStarts : ∀ joined ∈ [false, true], ∀ n ∈ [100, 99],
    let s := budgeting joined (BitVec.ofNat 24 n)
    s.transit.budgetFrames = [frame 100 false] ∧ s.budget.joined = joined ∧
    s.budget.last.map (·.target) = some (BitVec.ofNat 24 n) ∧
    s.transit.joinNotice = some { label := 9, serial := 1 } ∧ s.budget.taken < 1 := by decide +kernel
theorem witness_BudgetFrameStarts_taken :
    let s := { budgeting false 9 with budget := { (budgeting false 9).budget with taken := 1 } }
    s.transit.joinNotice = some { label := 9, serial := 1 } ∧ 1 ≤ s.budget.taken := by decide +kernel
/-- The placement of a DEMAND: in place, with room, with a REPORT to remove, and with a COND to remove. -/
theorem witness_BudgetFrameStarts_place :
    FirstEntry isDemandMsg (queued true [reportMsg, demandMsg]).line [newEntry reportMsg] (newEntry demandMsg) [] ∧
    (queued false [reportMsg]).line.queue.length < 4 ∧
    OldestFree isReportMsg (queued false [reportMsg, .cond 6 true, .cond 7 true, .cond 8 true]).line []
      (newEntry reportMsg) [newEntry (.cond 6 true), newEntry (.cond 7 true), newEntry (.cond 8 true)] ∧
    NoneFree isReportMsg (queued false [.cond 5 true, .cond 6 true, .cond 7 true, .cond 8 true]).line ∧
    OldestFree isCondMsg (queued false [.cond 5 true, .cond 6 true, .cond 7 true, .cond 8 true]).line []
      (newEntry (.cond 5 true)) [newEntry (.cond 6 true), newEntry (.cond 7 true), newEntry (.cond 8 true)] ∧
    ∀ e ∈ (queued false [.cond 5 true, .cond 6 true, .cond 7 true, .cond 8 true]).line.queue, isDemandMsg e.msg = false :=
  ⟨by unfold FirstEntry; decide +kernel, by decide +kernel,
    oldestFree_of_first (by unfold FirstEntry; decide +kernel) (by decide +kernel),
    noneFree_of_none (by decide +kernel),
    oldestFree_of_first (by unfold FirstEntry; decide +kernel) (by decide +kernel), by decide +kernel⟩
/-- R164: with peer hold 25 an entry last announced for 75 stands at the close for 100, and is lost at the one for 101. -/
theorem test_peer_lost : ∀ f ∈ [99, 100],
    let s := withTransit { transitAtRestart with budgetFrames := [frame (BitVec.ofNat 24 f) false] }
      { withPeer (peer 75 none) with
        image := { defaultImage with peerHold := 25 }
        budget := { (withPeer (peer 75 none)).budget with joined := true } }
    counterOf (after .budgetFrameStart s) .peerLost = (if f = 100 then 1 else 0) := by decide +kernel

/-! Start-up, restart, SAFE -/

/-- The setup port programming row 127. -/
def programming : State :=
  { inState .setup with setup := { setupAtEntry with
      busy := true, rowBuffer := some { row := 127, bytes := fill 64 0xA5 } } }

theorem witness_SupplyAndResetRestart : NoRowProgramming onAir ∧ onAir.power.powered = true ∧
    { onAir with power := { powered := true, resetHeld := true } }.power.resetHeld = true := by
  unfold NoRowProgramming
  decide +kernel
theorem witness_SupplyAndResetRestart_row : programming.setup.busy = true ∧
    programming.setup.rowBuffer = some { row := 127, bytes := fill 64 0xA5 } ∧ memWf programming.configStore = true ∧
    programming.power.powered = true ∧ (∃ t, exec .powerLoss programming = .next t) ∧
    (∃ t, exec .resetPinAssertion programming = .next t) ∧ ∃ t, exec (.powerOn lowPins) programming = .next t :=
  ⟨by decide +kernel, by decide +kernel, by decide +kernel, by decide +kernel, ⟨_, rfl⟩, ⟨_, rfl⟩, ⟨_, rfl⟩⟩

/-- A commit broken off in each phase, and a map operation broken off. -/
theorem witness_SupplyAndResetRestart_broken :
    (∀ p ∈ [CommitPhase.erase, .program, .verify], runningCommit (committing (commitRun p)) = some (commitRun p)) ∧
    (let s := mapping .mapErase .empty erasedPage
     s.store.running.isSome = true ∧ runningCommit s = none) := by decide +kernel

/-- The state after reset with a configuration store. -/
def loaded (m : Memory) : State := { State.reset with configStore := m }

theorem goodStore_checks : storeCheckAgrees goodStore = true ∧ firstFailedCheck goodStore = none := by decide +kernel
theorem witness_LoadingEnds_good : isLive (loaded goodStore) = true ∧ (loaded goodStore).station.state = .loading ∧
    AtRestart (loaded goodStore).station.number (loaded goodStore) ∧
    storeCheckAgrees (loaded goodStore).configStore = true ∧ firstFailedCheck (loaded goodStore).configStore = none :=
  ⟨rfl, rfl, ⟨rfl, rfl, rfl, rfl, rfl, rfl, rfl, rfl, rfl, rfl, rfl, rfl, rfl, rfl, rfl⟩, goodStore_checks.1,
    goodStore_checks.2⟩
/-- The good store with wall profile 3 in its initial look and the check value to match; and the good store. -/
theorem witness_LoadingEnds_profile :
    let m := goodStore.map fun c => if c.1 = 584 then (584, 3) else if c.1 = 8190 then (8190, 49)
      else if c.1 = 8191 then (8191, 17) else c
    storeCheckAgrees m = true ∧ firstFailedCheck m = none ∧
      ((readImage m).looks[(readImage m).initialLook].profile = some 3) ∧
      (readImage goodStore).looks[(readImage goodStore).initialLook].profile = none := by decide +kernel
theorem witness_LoadingEnds_journal : ∀ j ∈ [PageName.preset 63, .map],
    let s := { loaded goodStore with flash := { arrayErased with journal := some j } }
    s.flash.journal = some j ∧ isLive s = true ∧ s.station.state = .loading := by decide +kernel
theorem witness_LoadingEnds_blank : isLive (loaded []) = true ∧ (loaded []).station.state = .loading ∧
    storeCheckAgrees (loaded []).configStore = false := by decide +kernel
/-- The good store with dwell 0 in its initial look and the check value to match: check 8 fails. -/
def dwellZero : Memory :=
  goodStore.filter (fun c => decide (c.1 < 586)) ++ [(8190, 163), (8191, 9)]

theorem witness_LoadingEnds_inconsistent : storeCheckAgrees (loaded dwellZero).configStore = true ∧
    firstFailedCheck (loaded dwellZero).configStore = some 8 := by decide +kernel
/-- The good store with channel 0 PINNED at 0x0102, look 1 in use, and the arcs ANY to 1 and 1 to 0. -/
def arcStore : Memory :=
  [(1, 1), (6, 1), (9, 25), (11, 78), (12, 32), (13, 50), (14, 3), (16, 255), (20, 2), (22, 2), (64, 2), (65, 7),
   (66, 1), (67, 2), (576, 255), (577, 23), (580, 1), (581, 255), (584, 255), (586, 4), (587, 1), (588, 12), (590, 25),
   (591, 3), (592, 1), (593, 255), (637, 2), (638, 8), (639, 1), (640, 23), (641, 1), (642, 1), (644, 5)]
theorem witness_CheckedImageInRange : ∀ m ∈ [goodStore, arcStore], firstFailedCheck m = none := by decide +kernel
theorem witness_CheckedImageInRange_parts : (readImage arcStore).looks[1].inUse = true ∧
    (readImage arcStore).arcs[0]?.map (·.source) = some none ∧ (readImage arcStore).arcs[1]?.map (·.source) =
      some (some 1) := by decide +kernel
/-- R197: the channel record, the pin map, the look record and the arcs of those bytes. -/
theorem test_image_bytes : (readImage arcStore).channels[0] = { cls := .pinned, rated := 7, pinned := 0x0102 } ∧
    (readImage arcStore).pinMap.toList = [none, some 23, some 0, some 0] ∧
    (readImage arcStore).looks[1] =
      { inUse := true, preset := some 12, frames := 25, profile := some 3, airSafe := true, dwell := 255 } ∧
    (readImage arcStore).arcs = [{ source := none, target := 1, condition := 23, required := true },
      { source := some 1, target := 0, condition := 5, required := false }] := by decide +kernel

theorem witness_StrapChangeEntersSafe : ∀ st ∈ [StationState.scanning, .seeking, .joining, .running],
    let s := { inState st with station := { (inState st).station with
      strapCandidates := setAt (fill 5 none) 4 (some 1000) } }
    isOperating s.station.state = true ∧ s.station.strapCandidates[4] ≠ none ∧
      s.station.number.getLsbD 4 = false ∧ s.station.number.getLsbD 2 = true := by decide +kernel

/-- A commit suspended for a read that is served and for none, the other buffer queued, a load FILLING. -/
theorem witness_StrapChangeEntersSafe_store : ∀ serving ∈ [none, some { preset := 5, tag := 1 }],
    let c := { commitRun .erase with suspended := true }
    let s := { committing c with
      store := { (committing c).store with
        bufferB := { bufferAtRestart with state := .queued, target := some 9 }
        ops := [.commit .b 9], serving := serving }
      wall := { wallAtRestart 0 with load := .filling } }
    (bufferOf .b s.store).state = .queued ∧ (bufferOf .a s.store).state ≠ .queued ∧
      s.store.running = some (.commit c) ∧ s.store.serving = serving ∧ s.wall.load = .filling := by decide +kernel

/-- R33: a COND on the line at SAFE entry runs on with its entry gone, and the REPORT behind it stays. -/
theorem test_safe_keeps_attempt :
    let s := queued true [.cond 5 true, reportMsg]
    let t := after (.strapChange 4) { s with station := { s.station with
      strapCandidates := setAt (fill 5 none) 4 (some 1000) } }
    t.line.queue = [newEntry reportMsg] ∧
      t.line.attempt = some { copy := .cond 5 true, source := 5, held := false } := by decide +kernel

/-- Frame start 9 waiting at the start-up controller, with frames counted. -/
def counting (st : StationState) (lock : Genlock) (n : Nat) : State :=
  { inState st with
    station := { (inState st).station with framesCounted := n }
    timebase := { timebaseAtRestart with lock := lock }
    transit := { transitAtRestart with ctrlFrames := [frame 9 false], scanEnd := true } }

theorem witness_StationMovesToRunning :
    ((counting .scanning .acquire 0).transit.scanEnd = true ∧
      (counting .scanning .acquire 0).station.state = .scanning) ∧
    ∀ p ∈ [(StationState.seeking, Genlock.locked, 0), (.seeking, .acquire, 48), (.seeking, .acquire, 49),
           (.joining, .flywheel, 1), (.joining, .flywheel, 2)],
    let s := counting p.1 p.2.1 p.2.2
    let n := s.station.framesCounted + 1
    s.transit.ctrlFrames = [frame 9 false] ∧ s.station.state = p.1 ∧ s.timebase.lock = p.2.1 ∧
      (n < s.image.seekFrames ↔ p.2.2 < 49) ∧ (p.2.2 = 49 → n = s.image.seekFrames) ∧
      (n < s.image.joinFrames ↔ p.2.2 < 2) ∧ (p.2.2 = 2 → n = s.image.joinFrames) := by decide +kernel
theorem witness_StationMovesToRunning_other : ∀ st ∈ [StationState.scanning, .running, .safe],
    let s := counting st .locked 0
    s.transit.ctrlFrames = [frame 9 false] ∧ s.station.state ≠ .seeking ∧ s.station.state ≠ .joining := by decide +kernel

def restartMsg : Message := toFive .restart []

theorem witness_RestartMessageRestarts : ∀ wait ∈ [false, true],
    let s := withTransit { transitAtRestart with restartReq := true, arrayQuiet := true }
      { onAir with station := { onAir.station with restartWait := wait } }
    routedTest .restart restartMsg s = true ∧ s.station.restartWait = wait ∧ s.transit.restartReq = true ∧
      s.store.running = none ∧ s.transit.arrayQuiet = true ∧ s.line.attempt = none := by decide +kernel
theorem witness_RestartMessageRestarts_commit :
    let s := withTransit { transitAtRestart with restartReq := true } (committing (commitRun .erase))
    s.transit.restartReq = true ∧ s.store.running = some (.commit (commitRun .erase)) ∧
      (commitRun .erase).suspended = false ∧ s.store.reads = [] := by decide +kernel
/-- A message of the own station on the line, which the restart leaves there, and its end after the restart. -/
theorem witness_RestartMessageRestarts_attempt : ∀ closing ∈ [false, true],
    let a : Attempt := { copy := .cond 5 true, source := 5, held := true }
    let s := withTransit { transitAtRestart with arrayQuiet := true }
      { onAir with
        station := { onAir.station with restartWait := true }
        line := { lineAtRestart 5 with lineState := .busy, attempt := some a, closing := closing } }
    s.transit.arrayQuiet = true ∧ s.station.restartWait = true ∧ s.line.attempt = some a ∧ s.line.closing = closing := by
  decide +kernel
/-- R33: other straps at the restart change no bit of the message on the line. -/
theorem test_restart_keeps_bits :
    let s := withTransit { transitAtRestart with arrayQuiet := true }
      { onAir with
        station := { onAir.station with restartWait := true }
        line := { lineAtRestart 5 with
          lineState := .busy, attempt := some { copy := .cond 5 true, source := 5, held := true } } }
    let t := after (.arrayQuiet { stn := 9, setup := false }) s
    t.station.number = 9 ∧ attemptBits t = attemptBits s ∧ (attemptBits s).isSome = true := by decide +kernel

/-! Status reports -/

theorem witness_QueriesAreAnswered : ∀ r ∈ [(0 : Byte), 1, 2, 3, 4, 5, 6, 7, 8, 9, 10],
    routedTest .query (query r 0) onAir = true ∧ queryRecord (query r 0) = r ∧ onAir.line.queue.length < 4 ∧
    onAir.store.ops.length ≤ 4 := by decide +kernel
theorem witness_QueriesAreAnswered_full :
    let s := withLine { onAir.line with queue := List.replicate 4 (condEntry 0) } (inState .safe)
    routedTest .query (query 1 0) s = true ∧ 4 ≤ s.line.queue.length := by decide +kernel
/-- Records with each optional part present: a cue in the second part of CUES, a condition of LOOK index 3, and a
covering request and a running fade of CHANNEL. -/
theorem witness_QueriesAreAnswered_parts :
    (let s := withCues (List.replicate 8 (cue 8 50) ++ [cueSeven]) 0 onAir
     s.cues.records[8 + 0]? = some cueSeven) ∧
    (23 : ConditionNo).val = 8 * ((3 : Byte).toNat - 1) + (7 : Fin 8).val ∧ (37 : Fin 38).val = 19 + (18 : Fin 19).val ∧
    (fading true 5 [] readyForty).fade.requests = [] ++ readyForty :: [] ∧ readyForty.phase ≠ .reading ∧
    contentForty.mask.getLsbD (channelMod (40 : Byte).toNat).val = true ∧
    (fading true 5 [] readyForty).fade.channels[channelMod (41 : Byte).toNat].fade.isSome = true := by decide +kernel
/-- 12.2, by hand: the ninth record, 0x03 0x0007 0x000064 and FADE, behind frame 0, mode HOLD and the count 9. -/
theorem test_cues_bytes : cuesRecord 1 (withCues (List.replicate 8 (cue 8 50) ++ [cueSeven]) 0 onAir) =
    [0, 0, 0, 0, 9, 3, 0, 7, 0, 0, 100, 1] := by decide +kernel
/-- 12.2, by hand: channel 41 SCALED with the fade 40000 to 10000 in 7 from frame 294 at step 5 and source START. -/
theorem test_channel_bytes : (channelRecord 41 (fading true 5 [] readyForty)).drop 5 =
    [0x37, 0xCE, 0, 0, 0, 1, 1, 0x9C, 0x40, 0x27, 0x10, 0, 7, 0, 1, 38, 0, 5, 0, 2, 0, 0, 0] ++ List.replicate 14 0 := by
  decide +kernel

/-! Setup port -/

/-- The setup port with a transaction at a pointer. -/
def port (x : Transaction) (pointer : BitVec 13) (count : Nat) (row : BitVec 7) : State :=
  { inState .setup with setup := { setupAtEntry with
      transaction := x, pointer := pointer, writeCount := count
      rowBuffer := some { row := row, bytes := fill 64 0xA5 } } }

theorem witness_SetupWritesAndReads_address : onAir.station.state ≠ .setup ∧ setupActive programming = true ∧
    programming.setup.transaction = .none ∧ programming.setup.busy = true ∧
    setupActive (port .none 0 0 0) = true ∧ (port .none 0 0 0).setup.transaction = .none ∧
    (port .none 0 0 0).setup.busy = false ∧
    ∀ b ∈ [(0xB6 : Byte), 0xB7], b.toNat / 2 = 90 + (port .none 0 0 0).station.number.toNat % 4 := by decide +kernel
theorem witness_SetupWritesAndReads_pointer : setupActive (port .addressHigh 0 0 0) = true ∧
    (port .addressHigh 0 0 0).setup.transaction = .addressHigh ∧
    (port (.addressLow 0xFF) 0 0 0).setup.transaction = .addressLow 0xFF := by decide +kernel
/-- Row 126 of a region locked and unlocked, and row 127, which is never locked. -/
theorem witness_SetupWritesAndReads_end : ∀ row ∈ [(126 : BitVec 7), 127], ∀ lock ∈ [(0 : Byte), 1],
    let s := { port .data 0 1 row with configStore := if lock = 0 then [] else [(8189, lock)] }
    setupActive s = true ∧ s.setup.transaction = .data ∧ 0 < s.setup.writeCount ∧ s.setup.busy = false ∧
      s.setup.rowBuffer = some { row := row, bytes := fill 64 0xA5 } ∧
      (row = 127 ∨ memRead s.configStore (8182 + row.toNat / 16) = lock) := by decide +kernel
theorem witness_SetupWritesAndReads_read : setupActive (port .read 8191 0 0) = true ∧
    (port .read 8191 0 0).setup.transaction = .read ∧ (port .read 8191 0 0).setup.pointer.toNat = 8191 := by decide +kernel
/-- A foreign target address; writes with no data byte; a repeated start in a write with data and in a read. -/
theorem witness_SetupWritesAndReads_repeated :
    (0xB4 : Byte).toNat / 2 ≠ 90 + (port .none 0 0 0).station.number.toNat % 4 ∧
    (∀ x ∈ [Transaction.addressHigh, .addressLow 1, .data, .read], setupActive (port x 0 0 0) = true ∧
      (port x 0 0 0).setup.transaction = x ∧ (port x 0 0 0).setup.writeCount = 0) ∧
    0 < (port .data 0 1 127).setup.writeCount ∧ (port .data 0 1 127).setup.busy = false := by decide +kernel
/-- R187: a repeated start ends a write with data: the programming begins and the address is not acknowledged. -/
theorem test_repeated_start : let t := after (.setupTargetAddress 0xB6) (port .data 0 1 127)
    t.setup.busy = true ∧ t.setup.ack = some false ∧ t.setup.transaction = .none := by decide +kernel
theorem witness_SetupDataAndProgramming : ∀ n ∈ [0, 1],
    setupActive (port .data 8191 n 127) = true ∧ (port .data 8191 n 127).setup.transaction = .data ∧
    (port .data 8191 n 127).setup.writeCount = n ∧
    (port .data 8191 n 127).setup.rowBuffer = some { row := 127, bytes := fill 64 0xA5 } := by decide +kernel
theorem witness_SetupDataAndProgramming_end : setupActive programming = true ∧ programming.setup.busy = true ∧
    programming.setup.rowBuffer = some { row := 127, bytes := fill 64 0xA5 } ∧
    memWf programming.configStore = true := by decide +kernel

end Sys2Proof.Tests
end

section
/-! Tables, counters, frame distances: rules for the shared operations; frame order (R12) and the pins of R193. -/

namespace Sys2Proof.Machine

/-! ### Tables -/

/-- An entry of a table with one entry replaced. -/
theorem setAt_getElem {α : Type} {n : Nat} (v : Vector α n) (i j : Fin n) (a : α) :
    (setAt v i a)[j] = if j = i then a else v[j] := by
  simp [setAt, Vector.getElem_set, Fin.ext_iff, eq_comm]

theorem setAt_getElem_self {α : Type} {n : Nat} (v : Vector α n) (i : Fin n) (a : α) :
    (setAt v i a)[i] = a := by
  rw [setAt_getElem, if_pos rfl]

theorem setAt_getElem_ne {α : Type} {n : Nat} (v : Vector α n) {i j : Fin n} (a : α) (h : j ≠ i) :
    (setAt v i a)[j] = v[j] := by
  rw [setAt_getElem, if_neg h]

theorem fill_getElem {α : Type} {n : Nat} (a : α) (i : Fin n) : (fill n a)[i] = a := by
  simp [fill]

/-! ### Counters (R191) -/

/-- Every counter has a number of its own. -/
theorem counterNumber_injective : Function.Injective counterNumber :=
  Function.LeftInverse.injective (g := fun n => Counter.ofNat (if n.val < 18 then n.val else n.val - 1))
    fun c => by cases c <;> rfl

@[simp] theorem counterOf_countN_self (c : Counter) (n : Nat) (s : State) :
    counterOf (countN c n s) c = saturatingAdd (counterOf s c) n :=
  setAt_getElem_self _ _ _

theorem counterOf_countN_ne {c x : Counter} (h : x ≠ c) (n : Nat) (s : State) :
    counterOf (countN c n s) x = counterOf s x :=
  setAt_getElem_ne _ _ (counterNumber_injective.ne h)

@[simp] theorem saturatingAdd_zero (c : BitVec 16) : saturatingAdd c 0 = c := by
  unfold saturatingAdd; bv_omega

/-- Two counts are one count of their sum. -/
theorem saturatingAdd_saturatingAdd (c : BitVec 16) (m n : Nat) :
    saturatingAdd (saturatingAdd c m) n = saturatingAdd c (m + n) := by
  have hval (k : Nat) : (saturatingAdd c k).toNat = min 65535 (c.toNat + k) := by
    rw [saturatingAdd, BitVec.toNat_ofNat]; omega
  rw [saturatingAdd, hval, saturatingAdd]
  congr 1; omega

/-- Counting nothing changes nothing. -/
@[simp] theorem countN_zero (c : Counter) (s : State) : countN c 0 s = s := by
  have hset : setAt s.counters (counterNumber c) s.counters[counterNumber c] = s.counters := by
    simp [setAt]
  rw [countN, saturatingAdd_zero, hset]

/-- Counting twice in one counter is counting the sum. -/
theorem countN_countN (c : Counter) (m n : Nat) (s : State) : countN c m (countN c n s) = countN c (n + m) s := by
  have hset : setAt (countN c n s).counters (counterNumber c) (saturatingAdd (counterOf (countN c n s) c) m) =
      setAt s.counters (counterNumber c) (saturatingAdd (counterOf s c) (n + m)) := by
    rw [counterOf_countN_self, saturatingAdd_saturatingAdd, countN_counters, setAt, setAt, setAt, Vector.set_set]
  exact congrArg (fun cs => { s with counters := cs }) hset

/-! ### Frame numbers (R12) -/

/-- The distance back is what the distance out leaves of the number space. -/
theorem frameDistance_symm (a b : FrameNo) : frameDistance b a = (16777216 - frameDistance a b) % 16777216 := by
  unfold frameDistance; bv_omega

theorem frameDistance_lt (a b : FrameNo) : frameDistance a b < 16777216 := (b - a).isLt

theorem frameDistance_eq_zero_iff {a b : FrameNo} : frameDistance a b = 0 ↔ a = b := by
  unfold frameDistance; bv_omega

theorem isAfter_iff (a b : FrameNo) : isAfter b a = true ↔ 1 ≤ frameDistance a b ∧ frameDistance a b ≤ 8388607 := by
  simp [isAfter]

theorem isBefore_iff (a b : FrameNo) : isBefore b a = true ↔ 8388608 ≤ frameDistance a b := by
  simp [isBefore]

/-- Settles O10, by the distance back from the distance out. -/
theorem frameOrder : Obligations.FrameOrder := by
  intro a b
  have hback := frameDistance_symm a b
  have hlt := frameDistance_lt a b
  have hzero := frameDistance_eq_zero_iff (a := a) (b := b)
  refine ⟨fun hhalf => ?_, fun hhalf => ⟨?_, fun hne => ?_, fun heq => ?_⟩⟩
  · simp only [← Bool.not_eq_true, isBefore_iff, isAfter_iff]
    omega
  · rw [Bool.eq_iff_iff, isAfter_iff, isBefore_iff]
    omega
  · have hpos : frameDistance a b ≠ 0 := fun h => hne (hzero.1 h)
    rw [Bool.eq_iff_iff, Bool.not_eq_true', ← Bool.not_eq_true, isAfter_iff, isBefore_iff]
    omega
  · have hnone := hzero.2 heq
    simp only [← Bool.not_eq_true, isBefore_iff, isAfter_iff]
    omega

/-! ### Pins (R10, R193) -/

/-- Settles O58. -/
theorem faultAndAlertPins : Obligations.FaultAndAlertPins := by
  intro s
  constructor
  · simp [faultPin]
  · simp [alertPin, flywheelIndication, or_assoc]

end Sys2Proof.Machine
end

section
/-! The frame timebase: what each of its events does (R3 to R14). -/

namespace Sys2Proof.Machine

/-! ### Frame starts (R11, R14) -/

/-- The event a timebase issues is fixed by its number, mark and serial (R11, R14). -/
theorem eq_issued_event {t : Timebase} {e : FrameEvent} (hframe : e.frame = t.pendingTime.getD (t.frame + 1))
    (hmark : e.adopted = true ↔ e.frame ≠ t.frame + 1) (hserial : e.serial = t.issued + 1) :
    e = { frame := nextFrameNumber t, adopted := adoptsFrame t, serial := t.issued + 1 } := by
  have hadopted : e.adopted = adoptsFrame t := by
    rw [Bool.eq_iff_iff, hmark, adoptsFrame, decide_eq_true_iff, nextFrameNumber, hframe]
  cases e
  simp_all [nextFrameNumber]

/-- The internal timer issues one period after the last frame start while the timebase runs unlocked (R8). -/
theorem internalTimerExpiry_of_unlocked {s : State} {l : Micros} (hrun : s.timebase.timerRunning = true)
    (hlock : s.timebase.lock ≠ .locked) (hlast : s.timebase.lastStart = some l) :
    internalTimerExpiry s = issueFrameStart (l + s.image.period) s := by
  unfold internalTimerExpiry
  rw [hrun, hlast]
  cases h : s.timebase.lock with
  | locked => exact absurd h hlock
  | acquire => rfl
  | flywheel => rfl

/-- Loss of lock: FLYWHEEL without pulse history, and a frame start at the loss deadline (R7). -/
theorem lossDeadline_of_locked {s : State} {r : Micros} (hrun : s.timebase.timerRunning = true)
    (hlock : s.timebase.lock = .locked) (href : s.timebase.reference = some r) :
    lossDeadline s = issueFrameStart (r + s.image.period + s.image.period / 4)
      (count .genlockLoss { s with timebase := { s.timebase with
        lock := .flywheel, reference := none, run := 0 } }) := by
  unfold lossDeadline
  rw [hrun, hlock, href, Nat.add_assoc]
  rfl

theorem seekEnd_of_acquire {s : State} (hsent : s.transit.seekEnd = true)
    (hrun : s.timebase.timerRunning = true) (hlock : s.timebase.lock = .acquire) :
    seekEnd s = { s with
      timebase := { s.timebase with lock := .flywheel }
      transit := { s.transit with seekEnd := false } } := by
  simp [seekEnd, hsent, hrun, hlock]

theorem seekEnd_of_not_acquire {s : State} (hsent : s.transit.seekEnd = true) (hlock : s.timebase.lock ≠ .acquire) :
    seekEnd s = { s with transit := { s.transit with seekEnd := false } } := by
  simp [seekEnd, hsent, hlock]

/-- A running timebase holds the frame number of a TIME as its pending TIME value (R13). -/
theorem takeTime_of_running (m : Message) {s : State} (hrun : s.timebase.timerRunning = true) :
    takeTime m s = { s with timebase := { s.timebase with
      pendingTime := some (BitVec.ofNat 24 (ofBytes (m.body.take 3))) } } := by
  rw [takeTime, if_pos hrun]
  rfl

/-- Settles O17, event by event. -/
theorem timebaseEvents : Obligations.TimebaseEvents := by
  refine ⟨fun s l e hrun hlock hlast hframe hmark hserial => ?_,
    ⟨fun s r hrun hlock href => congrArg Host.Outcome.next (lossDeadline_of_locked hrun hlock href),
      fun s hsent hrun =>
        ⟨fun hlock => congrArg Host.Outcome.next (seekEnd_of_acquire hsent hrun hlock),
          fun hlock => congrArg Host.Outcome.next (seekEnd_of_not_acquire hsent hlock)⟩⟩,
    fun m s hrouted hrun => ?_, fun s now e hframe hmark hserial => ?_⟩
  · obtain rfl := eq_issued_event hframe hmark hserial
    exact congrArg Host.Outcome.next (internalTimerExpiry_of_unlocked hrun hlock hlast)
  · have howner : receive (kindCode .time) m (takeTime m) s = takeTime m (lineToGap s) := receive_routed hrouted _
    exact congrArg Host.Outcome.next (howner.trans (takeTime_of_running m hrun))
  · obtain rfl := eq_issued_event hframe hmark hserial
    rfl

/-! ### Genlock pulses (R3 to R6) -/

/-- The tolerance of R3, both ends included. -/
theorem inTolerance_iff (period interval : Nat) : inTolerance period interval = true ↔
    period - period / 50 ≤ interval ∧ interval ≤ period + period / 50 := by
  rw [inTolerance, pulseMargin, Bool.and_eq_true, decide_eq_true_iff, decide_eq_true_iff]

/-- An edge 1 µs or more after the edge before it is a pulse of its own (R3). -/
theorem samePulse_eq_false {lastEdge : Option Nanos} {now : Nanos}
    (h : ∀ edge, lastEdge = some edge → 1000 ≤ now - edge) : samePulse lastEdge now = false := by
  cases lastEdge with
  | none => rfl
  | some edge => simpa [samePulse] using h edge rfl

/-- The state with an edge remembered as the last one (R3, log 9). -/
def withEdge (now : Nanos) (s : State) : State :=
  { s with timebase := { s.timebase with lastEdge := some now } }

/-- An edge that belongs to the pulse before it is only remembered (R3). -/
theorem genlockPulse_of_samePulse {s : State} {now : Nanos} (hrun : s.timebase.timerRunning = true)
    (hsame : samePulse s.timebase.lastEdge now = true) : genlockPulse now s = withEdge now s := by
  simp [genlockPulse, hrun, hsame, withEdge]

theorem genlockPulse_of_unlocked {s : State} {now : Nanos} (hrun : s.timebase.timerRunning = true)
    (hnew : samePulse s.timebase.lastEdge now = false) (hlock : s.timebase.lock ≠ .locked) :
    genlockPulse now s = pulseUnlocked now (withEdge now s) := by
  cases h : s.timebase.lock with
  | locked => exact absurd h hlock
  | acquire => simp [genlockPulse, withEdge, hrun, hnew, h]
  | flywheel => simp [genlockPulse, withEdge, hrun, hnew, h]

theorem genlockPulse_of_locked {s : State} {now : Nanos} (hrun : s.timebase.timerRunning = true)
    (hnew : samePulse s.timebase.lastEdge now = false) (hlock : s.timebase.lock = .locked) :
    genlockPulse now s = pulseLocked now (withEdge now s) := by
  simp [genlockPulse, withEdge, hrun, hnew, hlock]

/-- Without a reference pulse, or outside its tolerance, a pulse restarts the run (R4). -/
theorem pulseUnlocked_restarts {s : State} {now : Nanos} {r : Micros}
    (h : s.timebase.reference = none ∨ (s.timebase.reference = some r ∧
      inTolerance s.image.period (pulseInterval r now) = false)) :
    pulseUnlocked now s = { s with timebase := { s.timebase with reference := some (wholeMicros now), run := 0 } } := by
  unfold pulseUnlocked
  obtain href | ⟨href, hout⟩ := h
  · rw [href]
  · simp [href, hout]

/-- A pulse in tolerance that leaves the run below 4 adds to it (R4). -/
theorem pulseUnlocked_counts {s : State} {now : Nanos} {r : Micros} (href : s.timebase.reference = some r)
    (hin : inTolerance s.image.period (pulseInterval r now) = true) (hrun : s.timebase.run ≠ 3) :
    pulseUnlocked now s = { s with timebase := { s.timebase with
      reference := some (wholeMicros now), run := s.timebase.run + 1 } } := by
  simp [pulseUnlocked, href, hin, hrun]

/-- The pulse that makes the run 4 locks (R5). -/
theorem pulseUnlocked_locks {s : State} {now : Nanos} {r : Micros} (href : s.timebase.reference = some r)
    (hin : inTolerance s.image.period (pulseInterval r now) = true) (hrun : s.timebase.run = 3) :
    pulseUnlocked now s = lockTimebase (wholeMicros now) s := by
  simp [pulseUnlocked, href, hin, hrun]

/-- A pulse in tolerance in LOCKED is accepted (R6). -/
theorem pulseLocked_accepts {s : State} {now : Nanos} {r : Micros} (href : s.timebase.reference = some r)
    (hin : inTolerance s.image.period (pulseInterval r now) = true) :
    pulseLocked now s = issueFrameStart (wholeMicros now)
      { s with timebase := { s.timebase with reference := some (wholeMicros now) } } := by
  simp [pulseLocked, href, hin]

/-- Any other pulse in LOCKED is rejected (R6). -/
theorem pulseLocked_rejects {s : State} {now : Nanos} {r : Micros} (href : s.timebase.reference = some r)
    (hout : inTolerance s.image.period (pulseInterval r now) = false) :
    pulseLocked now s = count .pulseReject s := by
  simp [pulseLocked, href, hout]

/-- Settles O18: each genlock state's law, after the edge is told apart from the one before it. -/
theorem genlockPulses : Obligations.GenlockPulses := by
  refine ⟨fun s now r l hrun hedge hlock hlast => ?_, fun s now r hrun hedge hlock href => ?_,
    fun s now edge hrun hedge hclose => ?_⟩
  · have hpulse := genlockPulse_of_unlocked hrun (samePulse_eq_false hedge) hlock
    refine ⟨fun hrestart => congrArg Host.Outcome.next (hpulse.trans (pulseUnlocked_restarts (r := r) ?_)),
      fun href hlow hhigh => ?_⟩
    · exact hrestart.imp_right fun ⟨href, hout⟩ =>
        ⟨href, Bool.eq_false_iff.2 fun hin => hout ((inTolerance_iff _ _).1 hin)⟩
    have hin := (inTolerance_iff s.image.period (pulseInterval r now)).2 ⟨hlow, hhigh⟩
    refine ⟨fun hcount => congrArg Host.Outcome.next
        (hpulse.trans (pulseUnlocked_counts (s := withEdge now s) href hin hcount.ne)), fun hfour => ?_⟩
    have hlocks := hpulse.trans (pulseUnlocked_locks (s := withEdge now s) href hin hfour)
    have hprogress : frameRun (withEdge now s).timebase (wholeMicros now) = now / 1000 - l := by
      simp [frameRun, withEdge, hlast, wholeMicros]
    refine ⟨fun hearly => congrArg Host.Outcome.next (hlocks.trans ?_),
      fun hdue => congrArg Host.Outcome.next (hlocks.trans ?_)⟩
    · rw [lockTimebase, hprogress]
      exact if_neg hearly.not_ge
    · rw [lockTimebase, hprogress]
      exact if_pos hdue
  · have hpulse := genlockPulse_of_locked hrun (samePulse_eq_false hedge) hlock
    refine ⟨fun hlow hhigh => congrArg Host.Outcome.next
        (hpulse.trans (pulseLocked_accepts (s := withEdge now s) href ((inTolerance_iff _ _).2 ⟨hlow, hhigh⟩))),
      fun hout => congrArg Host.Outcome.next
        (hpulse.trans (pulseLocked_rejects (s := withEdge now s) href ?_))⟩
    exact Bool.eq_false_iff.2 fun hin => hout ((inTolerance_iff _ _).1 hin)
  · have hsame : samePulse s.timebase.lastEdge now = true := by simpa [samePulse, hedge] using hclose
    exact congrArg Host.Outcome.next (genlockPulse_of_samePulse hrun hsame)

end Sys2Proof.Machine
end

section
/-! The cue list: the stable sort of R45, and what a frame start and the run notice do with its records (R44 to
R48). -/

namespace Sys2Proof.Machine

/-! ### Sorting by offset (R35, R45) -/

/-- The offsets of a list of records from a frame do not fall (R35). -/
def OffsetsRise (current : FrameNo) (rs : List CueRecord) : Prop :=
  rs.Pairwise fun a b => frameOffset a.target current ≤ frameOffset b.target current

theorem placeRecord_perm (current : FrameNo) (r : CueRecord) (rs : List CueRecord) :
    (placeRecord current r rs).Perm (r :: rs) := by
  induction rs with
  | nil => exact .refl _
  | cons x xs ih =>
    unfold placeRecord
    split
    · exact (ih.cons x).trans (.swap r x xs)
    · exact .refl _

theorem placeRecord_rises {current : FrameNo} (r : CueRecord) {rs : List CueRecord} (h : OffsetsRise current rs) :
    OffsetsRise current (placeRecord current r rs) := by
  induction rs with
  | nil => exact List.pairwise_singleton _ r
  | cons x xs ih =>
    obtain ⟨hfirst, hrest⟩ := List.pairwise_cons.1 h
    unfold placeRecord
    split
    case isTrue hle =>
      refine List.pairwise_cons.2 ⟨fun y hy => ?_, ih hrest⟩
      obtain rfl | hmem := List.mem_cons.1 ((placeRecord_perm current r xs).mem_iff.1 hy)
      · exact hle
      · exact hfirst y hmem
    case isFalse hgt =>
      refine List.pairwise_cons.2 ⟨fun y hy => ?_, h⟩
      obtain rfl | hmem := List.mem_cons.1 hy
      · omega
      · have := hfirst y hmem
        omega

/-- A placed record comes after every record at its target that the list holds already (R35). -/
theorem placeRecord_filter_target {current : FrameNo} (r : CueRecord) {rs : List CueRecord}
    (h : OffsetsRise current rs) (f : FrameNo) :
    (placeRecord current r rs).filter (fun x => x.target == f) =
      rs.filter (fun x => x.target == f) ++ [r].filter fun x => x.target == f := by
  induction rs with
  | nil => rfl
  | cons x xs ih =>
    obtain ⟨hfirst, hrest⟩ := List.pairwise_cons.1 h
    unfold placeRecord
    split
    case isTrue => simp only [List.filter_cons (x := x), ih hrest]; split <;> rfl
    case isFalse hgt =>
      by_cases hr : r.target = f
      · have hnone : (x :: xs).filter (fun x => x.target == f) = [] := by
          refine List.filter_eq_nil_iff.2 fun y hy => ?_
          have hbehind : frameOffset x.target current ≤ frameOffset y.target current := by
            obtain rfl | hmem := List.mem_cons.1 hy
            · exact le_rfl
            · exact hfirst y hmem
          intro heq
          rw [beq_iff_eq.1 heq, ← hr] at hbehind
          exact hgt hbehind
        rw [List.filter_cons (x := r), hnone]
        simp [hr]
      · simp [List.filter_cons (x := r), hr]

/-- What sorting again makes of a list already placed and the records still to place. -/
theorem foldl_placeRecord {current : FrameNo} (rs acc : List CueRecord) (h : OffsetsRise current acc) :
    let sorted := rs.foldl (fun acc r => placeRecord current r acc) acc
    sorted.Perm (acc ++ rs) ∧ OffsetsRise current sorted ∧ ∀ f : FrameNo,
      sorted.filter (fun x => x.target == f) = (acc ++ rs).filter fun x => x.target == f := by
  induction rs generalizing acc with
  | nil => exact ⟨by simp, h, by simp⟩
  | cons r rs ih =>
    obtain ⟨hperm, hrise, hstable⟩ := ih (placeRecord current r acc) (placeRecord_rises r h)
    refine ⟨hperm.trans ?_, hrise, fun f => (hstable f).trans ?_⟩
    · exact ((placeRecord_perm current r acc).append_right rs).trans List.perm_middle.symm
    · rw [List.filter_append, placeRecord_filter_target r h, List.append_assoc, ← List.filter_append,
        ← List.filter_append]
      rfl

/-- Sorting again keeps the records, orders them by offset, and keeps the order of equal targets (R45). -/
theorem resortRecords_spec (current : FrameNo) (rs : List CueRecord) :
    (resortRecords current rs).Perm rs ∧ OffsetsRise current (resortRecords current rs) ∧ ∀ f : FrameNo,
      (resortRecords current rs).filter (fun x => x.target == f) = rs.filter fun x => x.target == f := by
  simpa [resortRecords] using foldl_placeRecord rs [] List.Pairwise.nil

/-! ### Taken records (R44, R46) -/

/-- Dispatching a FADE record appends its request; any other action appends none (R46). -/
theorem dispatchCue_cueFades (label : FrameNo) (r : CueRecord) (t : Transit) :
    (dispatchCue label r t).cueFades = t.cueFades ++ fadesOf label [r] := by
  obtain ⟨ident, target, action, airSafe, late⟩ := r
  cases action with
  | fade preset frames => rfl
  | _ => exact (List.append_nil _).symm

/-- Dispatching a LOOK HOME record appends it; any other action appends none (R46). -/
theorem dispatchCue_homes (label : FrameNo) (r : CueRecord) (t : Transit) :
    (dispatchCue label r t).homes = t.homes ++ homesOf label [r] := by
  obtain ⟨ident, target, action, airSafe, late⟩ := r
  cases action with
  | lookHome => rfl
  | _ => exact (List.append_nil _).symm

/-- Dispatching a wall record appends its action; a FADE or a LOOK HOME appends none (R46). -/
theorem dispatchCue_wallActions (label : FrameNo) (r : CueRecord) (t : Transit) :
    (dispatchCue label r t).wallActions = t.wallActions ++ wallActionsOf label [r] := by
  obtain ⟨ident, target, action, airSafe, late⟩ := r
  cases action with
  | fade preset frames => exact (List.append_nil _).symm
  | lookHome => exact (List.append_nil _).symm
  | _ => rfl

/-- Dispatching a record appends its action to what is on its way and changes nothing else (R46, R47). -/
theorem dispatchCue_eq (label : FrameNo) (r : CueRecord) (t : Transit) :
    dispatchCue label r t = { t with
      cueFades := t.cueFades ++ fadesOf label [r]
      homes := t.homes ++ homesOf label [r]
      wallActions := t.wallActions ++ wallActionsOf label [r] } := by
  rw [← dispatchCue_cueFades, ← dispatchCue_homes, ← dispatchCue_wallActions]
  obtain ⟨ident, target, action, airSafe, late⟩ := r
  cases action <;> rfl

/-- Dispatching records appends their actions in list order (R46). -/
theorem foldl_dispatchCue (label : FrameNo) (taken : List CueRecord) (t : Transit) :
    taken.foldl (fun t r => dispatchCue label r t) t = { t with
      cueFades := t.cueFades ++ fadesOf label taken
      homes := t.homes ++ homesOf label taken
      wallActions := t.wallActions ++ wallActionsOf label taken } := by
  induction taken generalizing t with
  | nil =>
    have hnone : fadesOf label [] = [] ∧ homesOf label [] = [] ∧ wallActionsOf label [] = [] := ⟨rfl, rfl, rfl⟩
    obtain ⟨hfades, hhomes, hwall⟩ := hnone
    rw [List.foldl_nil, hfades, hhomes, hwall, List.append_nil, List.append_nil, List.append_nil]
  | cons r rs ih =>
    have happend : fadesOf label (r :: rs) = fadesOf label [r] ++ fadesOf label rs ∧
        homesOf label (r :: rs) = homesOf label [r] ++ homesOf label rs ∧
        wallActionsOf label (r :: rs) = wallActionsOf label [r] ++ wallActionsOf label rs :=
      ⟨List.filterMap_append (l := [r]), List.filterMap_append (l := [r]), List.filterMap_append (l := [r])⟩
    obtain ⟨hfades, hhomes, hwall⟩ := happend
    rw [List.foldl_cons, ih, dispatchCue_eq, hfades, hhomes, hwall]
    simp only [List.append_assoc]

/-- Taking the due records removes them, counts those that become late and sends their actions (R44, R46). -/
theorem takeDue_eq (s : State) :
    let due := s.cues.records.filter (isDue s.image.lateWindow s.cues.frame)
    takeDue s = countN .cueLate (due.countP (becomesLate s.cues.frame)) { s with
      cues := { s.cues with
        records := s.cues.records.filter fun r => !isDue s.image.lateWindow s.cues.frame r }
      transit := { s.transit with
        cueFades := s.transit.cueFades ++ fadesOf s.cues.frame due
        homes := s.transit.homes ++ homesOf s.cues.frame due
        wallActions := s.transit.wallActions ++ wallActionsOf s.cues.frame due } } := by
  simp only [takeDue, foldl_dispatchCue]

/-! ### A frame start (R44, R45) -/

/-- A record that the adoption of a frame start carries past +8,388,607 (R45, log 38). -/
def carriedPast (e : FrameEvent) (c : CueList) (r : CueRecord) : Bool :=
  e.adopted && outrunsOffsets c.frame e.frame r

/-- The records that stay at a frame start's adoption (R45). -/
def keptAt (e : FrameEvent) (c : CueList) : List CueRecord := c.records.filter fun r => !carriedPast e c r

/-- Those records in the order the frame start gives them (R45). -/
def sortedAt (e : FrameEvent) (c : CueList) : List CueRecord :=
  if e.adopted then resortRecords e.frame (keptAt e c) else keptAt e c

/-- The records that a frame start takes (R44, R46). -/
def takenAt (e : FrameEvent) (s : State) : List CueRecord :=
  match s.cues.mode with
  | .take => (sortedAt e s.cues).filter (isDue s.image.lateWindow e.frame)
  | .hold => []

theorem keptAt_of_not_adopted {e : FrameEvent} (h : e.adopted = false) (c : CueList) : keptAt e c = c.records := by
  simp [keptAt, carriedPast, h]

theorem sortedAt_of_not_adopted {e : FrameEvent} (h : e.adopted = false) (c : CueList) :
    sortedAt e c = c.records := by
  simp [sortedAt, h, keptAt_of_not_adopted]

theorem sortedAt_of_adopted {e : FrameEvent} (h : e.adopted = true) (c : CueList) :
    sortedAt e c = resortRecords e.frame (keptAt e c) := if_pos h

theorem sortedAt_perm (e : FrameEvent) (c : CueList) : (sortedAt e c).Perm (keptAt e c) := by
  unfold sortedAt
  split
  · exact (resortRecords_spec _ _).1
  · exact .refl _

/-- `removeOutrun` removes and counts the records carried past; without the mark there are none (R45). -/
theorem removeOutrun_eq (e : FrameEvent) (s : State) : removeOutrun e s =
    countN .cueStale (s.cues.records.countP (carriedPast e s.cues)) (setRecords (keptAt e s.cues) s) := by
  unfold removeOutrun
  cases h : e.adopted
  · have hnone : carriedPast e s.cues = fun _ => false := funext fun r => by simp [carriedPast, h]
    rw [keptAt_of_not_adopted h, hnone]
    simp [setRecords]
  · have hmark : carriedPast e s.cues = outrunsOffsets s.cues.frame e.frame :=
      funext fun r => by simp [carriedPast, h]
    rw [keptAt, hmark]
    rfl

/-- A count over a list, split by a condition that part of the list satisfies. -/
theorem countP_or_eq_add {α : Type} (p q : α → Bool) (l : List α) :
    (l.countP fun a => p a || q a) = l.countP p + (l.filter fun a => !p a).countP q := by
  induction l with
  | nil => rfl
  | cons a l ih => cases hp : p a <;> simp [hp, ih, List.countP_cons] <;> omega

/-- The cue list after the removals and the sort of a frame start, before any record is taken (R44, R45). -/
theorem removeStale_ageRecords_removeOutrun (e : FrameEvent) (s : State) :
    removeStale (ageRecords e (removeOutrun e s)) =
      countN .cueStale (s.cues.records.countP fun r => carriedPast e s.cues r || isStale s.image.lateWindow e.frame r)
        { s with cues := { s.cues with
            frame := e.frame
            taken := e.serial
            records := (sortedAt e s.cues).filter fun r => !isStale s.image.lateWindow e.frame r } } := by
  rw [countP_or_eq_add, ← keptAt, ← (sortedAt_perm e s.cues).countP_eq, ← countN_countN, removeOutrun_eq]
  rfl

/-- A record is due and not stale when it is due: its offset is no less than minus the late window. -/
theorem isDue_and_not_isStale (w : Nat) (current : FrameNo) (r : CueRecord) :
    (isDue w current r && !isStale w current r) = isDue w current r := by
  rw [Bool.eq_iff_iff]
  simp only [isDue, isStale, Bool.and_eq_true, Bool.not_eq_true', decide_eq_true_iff,
    decide_eq_false_iff_not]
  omega

/-- A record that is neither stale nor due is ahead. -/
theorem not_isDue_and_not_isStale (w : Nat) (current : FrameNo) (r : CueRecord) :
    (!isDue w current r && !isStale w current r) = decide (0 < frameOffset r.target current) := by
  rw [Bool.eq_iff_iff]
  simp only [isDue, isStale, Bool.and_eq_true, Bool.not_eq_true', decide_eq_true_iff,
    decide_eq_false_iff_not, Bool.and_eq_false_iff]
  omega

/-- A frame start at the cue list: one count of CUE_STALE and one of CUE_LATE on the state with the aged list and the
actions sent (R44 to R46). -/
theorem cueFrame_eq (e : FrameEvent) (s : State) :
    let w : Int := s.image.lateWindow
    cueFrame e s = countN .cueLate ((takenAt e s).countP (becomesLate e.frame))
      (countN .cueStale
        (s.cues.records.countP fun r => carriedPast e s.cues r || isStale s.image.lateWindow e.frame r)
        { s with
          cues := { s.cues with
            frame := e.frame
            taken := e.serial
            records := (sortedAt e s.cues).filter fun r => decide (0 < frameOffset r.target e.frame) ||
              (decide (-w ≤ frameOffset r.target e.frame) && decide (s.cues.mode = .hold)) }
          transit := { s.transit with
            cueFades := s.transit.cueFades ++ fadesOf e.frame (takenAt e s)
            homes := s.transit.homes ++ homesOf e.frame (takenAt e s)
            wallActions := s.transit.wallActions ++ wallActionsOf e.frame (takenAt e s) } }) := by
  intro w
  unfold cueFrame
  rw [removeStale_ageRecords_removeOutrun]
  obtain hmode | hmode : s.cues.mode = .take ∨ s.cues.mode = .hold := by cases s.cues.mode <;> simp
  · have htaken : takenAt e s = ((sortedAt e s.cues).filter fun r => !isStale s.image.lateWindow e.frame r).filter
        (isDue s.image.lateWindow e.frame) := by
      simp only [takenAt, hmode, List.filter_filter, isDue_and_not_isStale]
    have hrest : ((sortedAt e s.cues).filter fun r => decide (0 < frameOffset r.target e.frame) ||
          (decide (-w ≤ frameOffset r.target e.frame) && decide (s.cues.mode = .hold))) =
        ((sortedAt e s.cues).filter fun r => !isStale s.image.lateWindow e.frame r).filter
          fun r => !isDue s.image.lateWindow e.frame r := by
      simp [List.filter_filter, not_isDue_and_not_isStale, hmode]
    rw [hrest, htaken]
    simp only [countN_cues, hmode, takeDue_eq]
    rfl
  · have htaken : takenAt e s = [] := by simp only [takenAt, hmode]
    have hrest : ((sortedAt e s.cues).filter fun r => decide (0 < frameOffset r.target e.frame) ||
          (decide (-w ≤ frameOffset r.target e.frame) && decide (s.cues.mode = .hold))) =
        (sortedAt e s.cues).filter fun r => !isStale s.image.lateWindow e.frame r := by
      refine List.filter_congr fun r _ => ?_
      rw [Bool.eq_iff_iff]
      simp only [hmode, isStale, Bool.or_eq_true, Bool.and_eq_true, Bool.not_eq_true',
        decide_eq_true_iff, decide_eq_false_iff_not, eq_self, and_true]
      omega
    have hnone : fadesOf e.frame [] = [] ∧ homesOf e.frame [] = [] ∧ wallActionsOf e.frame [] = [] :=
      ⟨rfl, rfl, rfl⟩
    obtain ⟨hfades, hhomes, hwall⟩ := hnone
    rw [hrest, htaken, hfades, hhomes, hwall, List.append_nil, List.append_nil, List.append_nil, List.countP_nil,
      countN_zero]
    simp only [countN_cues, hmode]

/-- Settles O20: the stable sort, then what is removed, taken, counted and sent. -/
theorem cueListTakesDueRecords : Obligations.CueListTakesDueRecords := by
  refine ⟨fun s e es hframes => ?_, fun s n hnotice => ?_⟩
  · let rest : State := { s with transit := { s.transit with cueFrames := es } }
    have hexec : exec .cueListFrameStart s = .next (cueFrame e rest) := by
      change Host.Outcome.next (cueListFrameStart s) = _
      rw [cueListFrameStart, hframes]
    refine ⟨cueFrame e rest, sortedAt e s.cues, takenAt e rest, hexec, (sortedAt_of_not_adopted · _),
      fun hmark => ?_, rfl, ?_, ?_, ?_, fun x hstale hlate => ?_⟩
    · rw [sortedAt_of_adopted hmark]
      exact resortRecords_spec e.frame (keptAt e s.cues)
    · rw [cueFrame_eq]
      rfl
    · rw [cueFrame_eq, counterOf_countN_ne (by decide), counterOf_countN_self]
      rfl
    · rw [cueFrame_eq, counterOf_countN_self, counterOf_countN_ne (by decide)]
      rfl
    · rw [cueFrame_eq, counterOf_countN_ne hlate, counterOf_countN_ne hstale]
      rfl
  · refine ⟨fun hbefore => ?_, fun hafter => ?_⟩
    · change Host.Outcome.next (runNoticeCueList s) = _
      rw [runNoticeCueList, hnotice]
      exact congrArg Host.Outcome.next (if_neg hbefore.not_ge)
    · let running : State := { s with
        cues := { s.cues with mode := .take }
        transit := { s.transit with runCue := none } }
      have hexec : exec .runNoticeCueList s = .next (takeDue running) := by
        change Host.Outcome.next (runNoticeCueList s) = _
        rw [runNoticeCueList, hnotice]
        exact congrArg Host.Outcome.next (if_pos hafter)
      have hrest : (s.cues.records.filter fun r =>
            decide (frameOffset r.target s.cues.frame < -(s.image.lateWindow : Int)) ||
              decide (0 < frameOffset r.target s.cues.frame)) =
          s.cues.records.filter fun r => !isDue s.image.lateWindow s.cues.frame r := by
        refine List.filter_congr fun r _ => ?_
        rw [Bool.eq_iff_iff]
        simp only [isDue, Bool.or_eq_true, Bool.not_eq_true', Bool.and_eq_false_iff,
          decide_eq_true_iff, decide_eq_false_iff_not]
        omega
      refine ⟨takeDue running, _, hexec, rfl, ?_, ?_, fun x hlate => ?_⟩
      · simp only [hrest]
        rw [takeDue_eq]
        rfl
      · rw [takeDue_eq, counterOf_countN_self]
        rfl
      · rw [takeDue_eq, counterOf_countN_ne hlate]
        rfl

end Sys2Proof.Machine
end

section
/-! Start-up: the way to RUNNING (R183, R184), SAFE entry (R185) and the end of LOADING (R181). -/

namespace Sys2Proof.Machine

/-! ### SCANNING to RUNNING (R183, R184) -/

theorem scanEndNotice_of_scanning {s : State} (hsent : s.transit.scanEnd = true) (hscan : s.station.state = .scanning) :
    scanEndNotice s = { s with
      station := { s.station with state := .seeking, framesCounted := 0 }
      transit := { s.transit with scanEnd := false } } := by
  simp [scanEndNotice, hsent, hscan]

/-- The state with the controller's next frame start `e` taken off its way and its current frame set (R11, R12). -/
def controllerTook (e : FrameEvent) (es : List FrameEvent) (s : State) : State :=
  { s with
    station := { s.station with frame := e.frame }
    transit := { s.transit with ctrlFrames := es } }

theorem controllerFrameStart_cons {s : State} {e : FrameEvent} {es : List FrameEvent}
    (h : s.transit.ctrlFrames = e :: es) :
    controllerFrameStart s = controllerCounts e (controllerTook e es s) := by
  rw [controllerFrameStart, h]
  rfl

/-- A frame start in SEEKING under lock ends SEEKING (R183). -/
theorem controllerCounts_seeking_locked (e : FrameEvent) {s : State} (hstate : s.station.state = .seeking)
    (hlock : s.timebase.lock = .locked) : controllerCounts e s = enterJoining .locked e (countFrame s) := by
  rw [controllerCounts, hstate]
  exact if_pos hlock

/-- One without lock counts, before the last seek frame (R183). -/
theorem controllerCounts_seeking_counts (e : FrameEvent) {s : State} (hstate : s.station.state = .seeking)
    (hlock : s.timebase.lock ≠ .locked) (hmore : s.station.framesCounted + 1 < s.image.seekFrames) :
    controllerCounts e s = countFrame s := by
  rw [controllerCounts, hstate]
  exact (if_neg hlock).trans (if_neg hmore.not_ge)

/-- At the last seek frame without lock the seek end is sent (R183). -/
theorem controllerCounts_seeking_ends (e : FrameEvent) {s : State} (hstate : s.station.state = .seeking)
    (hlock : s.timebase.lock ≠ .locked) (hlast : s.image.seekFrames ≤ s.station.framesCounted + 1) :
    controllerCounts e s = enterJoining .flywheel e
      { countFrame s with transit := { s.transit with seekEnd := true } } := by
  rw [controllerCounts, hstate]
  exact (if_neg hlock).trans (if_pos hlast)

/-- A frame start in JOINING counts, before the last join frame (R184). -/
theorem controllerCounts_joining_counts (e : FrameEvent) {s : State} (hstate : s.station.state = .joining)
    (hmore : s.station.framesCounted + 1 < s.image.joinFrames) : controllerCounts e s = countFrame s := by
  rw [controllerCounts, hstate]
  exact if_neg hmore.not_ge

/-- The last join frame starts RUNNING (R184). -/
theorem controllerCounts_joining_ends (e : FrameEvent) {s : State} (hstate : s.station.state = .joining)
    (hlast : s.image.joinFrames ≤ s.station.framesCounted + 1) :
    controllerCounts e s = enterRunning e (countFrame s) := by
  rw [controllerCounts, hstate]
  exact if_pos hlast

/-- In every other state a frame start neither counts nor moves the station. -/
theorem controllerCounts_of_not_waiting (e : FrameEvent) {s : State} (hseek : s.station.state ≠ .seeking)
    (hjoin : s.station.state ≠ .joining) : controllerCounts e s = s := by
  unfold controllerCounts
  split
  · contradiction
  · contradiction
  all_goals rfl

/-- SEEK_FRAMES_END is the whole of the frame start at which SEEKING ends without lock (log 6). -/
theorem exec_seekFramesEnd {s : State} (h : seekFramesEnd s = true) :
    exec .seekFramesEnd s = exec .controllerFrameStart s :=
  congrArg Host.Outcome.next (if_pos h)

/-- JOIN_FRAMES_END is the whole of F_r (log 6). -/
theorem exec_joinFramesEnd {s : State} (h : joinFramesEnd s = true) :
    exec .joinFramesEnd s = exec .controllerFrameStart s :=
  congrArg Host.Outcome.next (if_pos h)

/-- Settles O55, by the state in which the frame start is taken. -/
theorem stationMovesToRunning : Obligations.StationMovesToRunning := by
  refine ⟨fun s hsent hscan => congrArg Host.Outcome.next (scanEndNotice_of_scanning hsent hscan),
    fun s e es hframes => ?_⟩
  intro n notice
  have htook : exec .controllerFrameStart s = .next (controllerCounts e (controllerTook e es s)) :=
    congrArg Host.Outcome.next (controllerFrameStart_cons hframes)
  refine ⟨fun hseek => ⟨fun hlock => ?_, fun hlock hmore => ?_, fun hlock hlast => ?_⟩,
    fun hjoin => ⟨fun hmore => ?_, fun hlast => ?_⟩, fun hseek hjoin => ?_⟩
  · rw [htook, controllerCounts_seeking_locked e (s := controllerTook e es s) hseek hlock]
    rfl
  · rw [htook, controllerCounts_seeking_counts e (s := controllerTook e es s) hseek hlock hmore]
    rfl
  · have hends : exec .seekFramesEnd s = exec .controllerFrameStart s :=
      exec_seekFramesEnd (by simp [seekFramesEnd, hseek, hlock, ← hlast, n])
    rw [hends, htook, controllerCounts_seeking_ends e (s := controllerTook e es s) hseek hlock hlast.ge]
    exact ⟨rfl, rfl⟩
  · rw [htook, controllerCounts_joining_counts e (s := controllerTook e es s) hjoin hmore]
    rfl
  · have hends : exec .joinFramesEnd s = exec .controllerFrameStart s :=
      exec_joinFramesEnd (by simp [joinFramesEnd, hjoin, ← hlast, n])
    rw [hends, htook, controllerCounts_joining_ends e (s := controllerTook e es s) hjoin hlast.ge]
    exact ⟨rfl, rfl⟩
  · rw [htook, controllerCounts_of_not_waiting e (s := controllerTook e es s) hseek hjoin]
    rfl

/-! ### SAFE entry (R33, R120, R156, R185) -/

/-- A pin level written into a word of pins moves that pin alone. -/
theorem getLsbD_pinWritten {w : Nat} (pins : BitVec w) (n q : Fin w) (level : Bool) :
    (if level then pins ||| BitVec.twoPow w n.val else pins &&& ~~~BitVec.twoPow w n.val).getLsbD q.val =
      if q = n then level else pins.getLsbD q.val := by
  have hq := q.isLt
  by_cases hqn : q = n
  · subst hqn
    cases level <;> simp
  · have hval : q.val ≠ n.val := fun h => hqn (Fin.ext h)
    cases level <;> simp [hqn, hval]

/-- The line at SAFE entry, by whether its head is a REPORT (R33, log 21). -/
theorem lineAtSafe_eq (l : CueLine) : lineAtSafe l = { l with
    queue := l.queue.filter fun e => isReportMsg e.msg
    attempt := l.attempt.map fun a =>
      { a with held := a.held && l.queue.head?.any fun e => isReportMsg e.msg }
    backoff := if l.queue.head?.any (fun e => isReportMsg e.msg) then l.backoff else none } := by
  obtain ⟨lineState, queue, attempt, backoff, register, closing⟩ := l
  cases queue <;> rfl

/-- A buffer at SAFE entry (R120). -/
theorem bufferAtSafe_eq (b : StagingBuffer) : bufferAtSafe b =
    if b.state = .queued then { b with state := .opened, target := none } else b := by
  obtain ⟨content, writePoint, state, target⟩ := b
  cases state <;> rfl

/-- SAFE entry acts on each staging buffer. -/
theorem bufferOf_storeAtSafe (x : BufferName) (p : PresetStore) :
    bufferOf x (storeAtSafe p) = bufferAtSafe (bufferOf x p) := by
  cases x <;> rfl

/-- The commit in progress goes on at SAFE entry, and stays suspended only while a read is served (R115, R120). -/
theorem storeAtSafe_running_of_commit {p : PresetStore} {c : CommitRun} (h : p.running = some (.commit c)) :
    (storeAtSafe p).running = some (.commit { c with suspended := c.suspended && p.serving.isSome }) := by
  simp [storeAtSafe, h, runningAtSafe]

/-- Any other operation goes on as it was. -/
theorem storeAtSafe_running_of_no_commit {s : State} (h : runningCommit s = none) :
    (storeAtSafe s.store).running = s.store.running := by
  unfold runningCommit at h
  unfold storeAtSafe
  split at h
  · exact absurd h (by simp)
  all_goals rename_i hrunning; simp [hrunning, runningAtSafe]

/-- The wall feed at SAFE entry (R156). -/
theorem wallAtSafe_eq (w : WallFeed) : wallAtSafe w = { w with
    load := if w.load = .filling then .empty else w.load
    enabled := false, scan := none, scanOwed := false, waiting := [], noticeWaits := false } := by
  unfold wallAtSafe abandonLoad
  split <;> rfl

/-- Outside a scan every panel pixel is black (R153). -/
theorem panelPixel_of_no_scan {w : WallFeed} (h : w.scan = none) (col row : Nat) : panelPixel w col row = black := by
  rw [panelPixel, h]

theorem enterSafe_outputsDark (cause : SafeCause) (failed : Option Nat) (s : State) :
    OutputsDark (enterSafe cause failed s) :=
  ⟨rfl, panelPixel_of_no_scan rfl⟩

/-- A strap edge in an operating state (R185). -/
theorem stnEdge_of_operating {s : State} (n : Fin 5) (level : Bool) (now : Nanos)
    (h : isOperating s.station.state = true) :
    stnEdge n level now s = { s with
      pins := { s.pins with
        stn := if level then s.pins.stn ||| BitVec.twoPow 5 n.val else s.pins.stn &&& ~~~BitVec.twoPow 5 n.val }
      station := { s.station with
        strapCandidates := setAt s.station.strapCandidates n
          (if level = s.station.number.getLsbD n.val then none else some now) } } := by
  simp [stnEdge, h]

/-- A held candidate takes an operating station to SAFE (R185). -/
theorem strapChange_of_candidate {s : State} {n : Fin 5} (h : isOperating s.station.state = true)
    (held : s.station.strapCandidates[n] ≠ none) : strapChange n s = enterSafe .strapChange none s :=
  if_pos ⟨h, Option.isSome_iff_ne_none.2 held⟩

/-- Settles O54: the edge by its pin and its candidate, the held candidate by each block's law at SAFE entry. -/
theorem strapChangeEntersSafe : Obligations.StrapChangeEntersSafe := by
  intro s n hoperating
  refine ⟨fun level now => ⟨stnEdge n level now s, rfl, ?_⟩,
    fun held => ⟨enterSafe .strapChange none s, congrArg Host.Outcome.next (strapChange_of_candidate hoperating held),
      ?_⟩⟩
  · rw [stnEdge_of_operating n level now hoperating]
    refine ⟨setAt_getElem_self _ _ _, rfl, (getLsbD_pinWritten _ n n level).trans (if_pos rfl), fun q hq => ?_⟩
    exact ⟨setAt_getElem_ne _ _ hq, (getLsbD_pinWritten _ n q level).trans (if_neg hq)⟩
  · refine ⟨rfl, rfl, rfl, rfl, rfl, rfl, rfl, rfl, rfl, rfl, rfl, rfl, fun q => fill_getElem _ q,
      lineAtSafe_eq s.line, rfl, rfl, rfl, rfl, rfl, rfl, rfl, enterSafe_outputsDark _ _ s, rfl, rfl, rfl,
      fun x => (bufferOf_storeAtSafe x s.store).trans (bufferAtSafe_eq _), fun c => storeAtSafe_running_of_commit,
      storeAtSafe_running_of_no_commit, rfl, wallAtSafe_eq s.wall, fun p => fill_getElem _ p, rfl, rfl, rfl, rfl, rfl,
      rfl, rfl, rfl, rfl⟩

/-! ### The end of LOADING (R181) -/

theorem voidJournalled_journal (f : FlashArray) : (voidJournalled f).journal = none := by
  unfold voidJournalled
  split
  · assumption
  · rfl
  · rfl

/-- A journal that names a preset page sets the void mark of that page alone (R117). -/
theorem voidJournalled_preset {f : FlashArray} {n : Fin 64} (h : f.journal = some (.preset n)) :
    (voidJournalled f).mapPage = f.mapPage ∧
      (voidJournalled f).presets[n] = { f.presets[n] with void := true } ∧
      ∀ q : Fin 64, q ≠ n → (voidJournalled f).presets[q] = f.presets[q] := by
  rw [voidJournalled, h]
  exact ⟨rfl, setAt_getElem_self _ _ _, fun q hq => setAt_getElem_ne _ _ hq⟩

theorem voidJournalled_map {f : FlashArray} (h : f.journal = some .map) :
    (voidJournalled f).presets = f.presets ∧ (voidJournalled f).mapPage = { f.mapPage with void := true } := by
  rw [voidJournalled, h]
  exact ⟨rfl, rfl⟩

theorem voidJournalled_none {f : FlashArray} (h : f.journal = none) : voidJournalled f = f := by
  rw [voidJournalled, h]

theorem initialProfile_of_none {i : Image} (h : i.looks[i.initialLook].profile = none) : initialProfile i = 0 := by
  rw [initialProfile, h]
  rfl

theorem initialProfile_of_some {i : Image} {b : Byte} {q : Fin 4} (h : i.looks[i.initialLook].profile = some b)
    (hq : b.toNat = q.val) : initialProfile i = q := by
  have hlt : b.toNat < 4 := hq ▸ q.isLt
  have hbyte : profileOfByte b = some q := by simp [profileOfByte, hq]
  rw [initialProfile, h, Option.bind_some, hbyte]
  rfl

theorem startDebouncers_getElem (cin : BitVec 4) (now : Nanos) (p : Fin 4) :
    (startDebouncers cin now)[p] = debouncerStart (cin.getLsbD p.val) now := by
  simp [startDebouncers]

/-- The end of LOADING on a store whose check value disagrees (R181). -/
theorem loadingEnd_of_checkValue {s : State} (now : Nanos) (hlive : isLive s = true)
    (hload : s.station.state = .loading) (hcheck : storeCheckAgrees s.configStore = false) :
    loadingEnd now s = failImage .checkValue none s := by
  simp [loadingEnd, hlive, hload, hcheck]

/-- On a store that fails a consistency check (R181, R182). -/
theorem loadingEnd_of_failedCheck {s : State} (now : Nanos) {n : Nat} (hlive : isLive s = true)
    (hload : s.station.state = .loading) (hcheck : storeCheckAgrees s.configStore = true)
    (hfailed : firstFailedCheck s.configStore = some n) : loadingEnd now s = failImage .inconsistent (some n) s := by
  simp [loadingEnd, hlive, hload, hcheck, hfailed]

/-- On a good store (R181). -/
theorem loadingEnd_of_good {s : State} (now : Nanos) (hlive : isLive s = true) (hload : s.station.state = .loading)
    (hcheck : storeCheckAgrees s.configStore = true) (hgood : firstFailedCheck s.configStore = none) :
    loadingEnd now s = startStation (readImage s.configStore) now s := by
  simp [loadingEnd, hlive, hload, hcheck, hgood]

/-- SAFE entered from LOADING leaves every block at its restart values (R181, R185). -/
theorem failImage_atRestart (cause : SafeCause) (failed : Option Nat) {s : State}
    (h : AtRestart s.station.number s) : AtRestart s.station.number (failImage cause failed s) where
  image := rfl
  timebase := congrArg stopTimebase h.timebase
  line := rfl
  cues := congrArg cuesAtSafe h.cues
  conditions := congrArg conditionsAtSafe h.conditions
  look := h.look
  fade := congrArg fadeAtSafe h.fade
  store := congrArg storeAtSafe h.store
  protection := congrArg protectionAtSafe h.protection
  wall := rfl
  budget := rfl
  setup := h.setup
  flags := h.flags
  counters := h.counters
  transit := congrArg transitAtSafe h.transit

/-- Settles O52: a good store starts the blocks from their restart values, a bad one fails the image. -/
theorem loadingEnds : Obligations.LoadingEnds := by
  refine ⟨fun s now hlive hload hrestart hcheck hgood =>
      ⟨startStation (readImage s.configStore) now s,
        congrArg Host.Outcome.next (loadingEnd_of_good now hlive hload hcheck hgood), ?_⟩,
    fun s now hlive hload => ⟨fun hcheck => ⟨failImage .checkValue none s,
        congrArg Host.Outcome.next (loadingEnd_of_checkValue now hlive hload hcheck), ?_⟩,
      fun n hcheck hfailed => ⟨failImage .inconsistent (some n) s,
        congrArg Host.Outcome.next (loadingEnd_of_failedCheck now hlive hload hcheck hfailed), ?_⟩⟩⟩
  · refine ⟨rfl, rfl, congrArg (startTimebase now) hrestart.timebase, rfl, hrestart.cues,
      congrArg (fun l : LookMachine => { l with
        started := true, current := some (readImage s.configStore).initialLook }) hrestart.look,
      fun p => startDebouncers_getElem s.pins.cin now p,
      congrArg (fun p : PresetStore => { p with scanning := true }) hrestart.store,
      voidJournalled_journal s.flash, fun n => voidJournalled_preset, voidJournalled_map, voidJournalled_none,
      congrArg (startProtection (readImage s.configStore).protectAtStart s.pins.onAir now) hrestart.protection,
      rfl, rfl, fun hnone => congrArg wallAtRestart (initialProfile_of_none hnone),
      fun b q hsome hq => congrArg wallAtRestart (initialProfile_of_some hsome hq), rfl⟩
  · exact ⟨rfl, rfl, rfl, rfl, rfl, rfl, rfl, rfl, rfl, rfl, failImage_atRestart _ _⟩
  · exact ⟨rfl, rfl, rfl, rfl, rfl, rfl, rfl, rfl, rfl, rfl, failImage_atRestart _ _⟩

end Sys2Proof.Machine
end

section
/-! What a restart and SAFE entry make of the bounded lists, whichever command brings them (R180, R185). -/

namespace Sys2Proof.Machine

/-- What one of the five commands that can restart the part does to the blocks: they take their restart values, the
cue line at once or after the attempt it still sends (R33, log 22); or the bounded lists and what they depend on stay. -/
inductive RestartOutcome (s : State) : State → Prop
  | restarted {t : State} (number : StationNo) : AtRestart number t → RestartOutcome s t
  | attemptRunsOn {t : State} (number : StationNo) : t.line = { s.line with closing := true } →
      AtRestart number { t with line := lineAtRestart number } → RestartOutcome s t
  | kept {t : State} : t.line = s.line → t.cues = s.cues → t.fade = s.fade → t.store = s.store →
      t.protection = s.protection → t.transit.mapDone = s.transit.mapDone → RestartOutcome s t

theorem restartBlocks_atRestart (station : Station) (s : State) : AtRestart station.number (restartBlocks station s) := by
  constructor <;> rfl

theorem powerOn_outcome (pins : Pins) (s : State) : RestartOutcome s (powerOn pins s) :=
  .restarted _ (restartBlocks_atRestart _ _)

theorem powerLoss_outcome (s : State) : RestartOutcome s (powerLoss s) :=
  .restarted _ (restartBlocks_atRestart _ _)

theorem resetPinAssertion_outcome (s : State) : RestartOutcome s (resetPinAssertion s) := by
  unfold resetPinAssertion
  dsimp only
  split
  · exact .restarted _ (restartBlocks_atRestart _ _)
  · exact .kept rfl rfl rfl rfl rfl rfl

theorem resetPinDeassertion_outcome (straps : Straps) (s : State) : RestartOutcome s (resetPinDeassertion straps s) := by
  unfold resetPinDeassertion
  dsimp only
  split
  · split
    · exact .restarted _ (restartBlocks_atRestart _ _)
    · exact .kept rfl rfl rfl rfl rfl rfl
  · exact .kept rfl rfl rfl rfl rfl rfl

/-- A RESTART message's restart, with the attempt on the line running on if there is one (R33). -/
theorem restartByMessage_of_attempt {s : State} {a : Attempt} (h : s.line.attempt = some a) (straps : Straps) :
    restartByMessage straps s =
      { restart straps .restartMessage s.station.restartSource s with line := { s.line with closing := true } } := by
  simp [restartByMessage, h]

theorem restartByMessage_of_no_attempt {s : State} (h : s.line.attempt = none) (straps : Straps) :
    restartByMessage straps s = restart straps .restartMessage s.station.restartSource s := by
  simp [restartByMessage, h]

theorem restart_atRestart (straps : Straps) (cause : RestartCause) (source : Option StationNo) (s : State) :
    AtRestart straps.stn (restart straps cause source s) :=
  restartBlocks_atRestart (stationAtLoading straps cause source) _

theorem arrayQuiet_outcome (straps : Straps) (s : State) : RestartOutcome s (arrayQuiet straps s) := by
  unfold arrayQuiet
  split
  · split
    · cases h : s.line.attempt with
      | some a =>
        rw [restartByMessage_of_attempt h]
        exact .attemptRunsOn straps.stn rfl (restart_atRestart straps _ _ _)
      | none =>
        rw [restartByMessage_of_no_attempt h]
        exact .restarted straps.stn (restart_atRestart straps _ _ _)
    · exact .kept rfl rfl rfl rfl rfl rfl
  · exact .kept rfl rfl rfl rfl rfl rfl

/-- A strap change enters SAFE or does nothing (R185). -/
theorem strapChange_cases (strap : Fin 5) (s : State) :
    strapChange strap s = enterSafe .strapChange none s ∨ strapChange strap s = s := by
  unfold strapChange
  split
  · exact .inl rfl
  · exact .inr rfl

/-- The end of LOADING fails the image, starts the station or does nothing (R181). -/
theorem loadingEnd_cases (now : Nanos) (s : State) :
    (∃ cause failed, loadingEnd now s = failImage cause failed s) ∨
      loadingEnd now s = startStation (readImage s.configStore) now s ∨ loadingEnd now s = s := by
  unfold loadingEnd
  split
  · split
    · exact .inl ⟨_, _, rfl⟩
    · split
      · exact .inl ⟨_, _, rfl⟩
      · exact .inr (.inl rfl)
  · exact .inr (.inr rfl)

end Sys2Proof.Machine
end

section
/-! The transmit queue (R25 to R28): what placing, replacing and removing an entry does to it; its bound, its keys and
the backoff register (R31), which every command keeps. -/

namespace Sys2Proof.Machine

/-! ### Entries -/

/-- The copy on the line is the head's (R25). -/
theorem headOnLine_eq (l : CueLine) : headOnLine l = l.attempt.any fun a => a.held := by
  unfold headOnLine
  cases l.attempt <;> rfl

/-- A replaced entry leaves the count of every kind of entry that the new message shares with the old (R26, R27). -/
theorem replaceEntry_countP {p r : TxMessage → Bool} {m : TxMessage} (same : ∀ t, p t = true → r t = r m)
    (onLine : Bool) (q : List TxEntry) :
    ((replaceEntry p m onLine q).countP fun e => r e.msg) = q.countP fun e => r e.msg := by
  induction q generalizing onLine with
  | nil => rfl
  | cons e es ih =>
    unfold replaceEntry
    split
    next hp => simp [List.countP_cons, same _ hp]
    next => simp [List.countP_cons, ih]

theorem replaceEntry_length (p : TxMessage → Bool) (m : TxMessage) (onLine : Bool) (q : List TxEntry) :
    (replaceEntry p m onLine q).length = q.length := by
  induction q generalizing onLine with
  | nil => rfl
  | cons e es ih =>
    unfold replaceEntry
    split
    · rfl
    · simp [ih]

/-- Making room takes one entry out of the queue (R26, R27). -/
theorem removeOldest_some {p : TxMessage → Bool} {onLine : Bool} {q rest : List TxEntry}
    (h : removeOldest p onLine q = some rest) : rest.Sublist q ∧ rest.length + 1 = q.length := by
  induction q generalizing onLine rest with
  | nil => cases h
  | cons e es ih =>
    unfold removeOldest at h
    split at h
    · cases h
      exact ⟨List.sublist_cons_self e es, rfl⟩
    · obtain ⟨rest', hrest, rfl⟩ := Option.map_eq_some_iff.1 h
      obtain ⟨hsub, hlen⟩ := ih hrest
      exact ⟨hsub.cons_cons e, congrArg (· + 1) hlen⟩

/-- When it takes none, no entry behind the head satisfies the condition. -/
theorem removeOldest_none {p : TxMessage → Bool} {onLine : Bool} {q : List TxEntry}
    (h : removeOldest p onLine q = none) :
    (∀ e ∈ q.tail, p e.msg = false) ∧ (onLine = false → ∀ e ∈ q, p e.msg = false) := by
  induction q generalizing onLine with
  | nil => simp
  | cons e es ih =>
    unfold removeOldest at h
    split at h
    · cases h
    next hfree =>
      obtain ⟨-, hes⟩ := ih (Option.map_eq_none_iff.1 h)
      refine ⟨hes rfl, ?_⟩
      rintro rfl x hx
      obtain rfl | hmem := List.mem_cons.1 hx
      · simpa using hfree
      · exact hes rfl x hmem

/-! ### What every command keeps of the line -/

/-- A kind of message that the queue holds at most once (R25). -/
def IsKey (r : TxMessage → Bool) : Prop := r = isDemandMsg ∨ ∃ c, r = isCondFor c

/-- `l'` holds no more messages than `l`, or than the bound, no message of a key twice that `l` did not, and the
backoff register has not become 0 (R25, R31). -/
structure LineFits (l l' : CueLine) : Prop where
  length : l'.queue.length ≤ max 4 l.queue.length
  keyed : ∀ r, IsKey r → (l'.queue.countP fun e => r e.msg) ≤ max 1 (l.queue.countP fun e => r e.msg)
  register : l.register ≠ 0 → l'.register ≠ 0

theorem LineFits.trans {l l' l'' : CueLine} (h : LineFits l l') (h' : LineFits l' l'') : LineFits l l'' where
  length := by have := h.length; have := h'.length; omega
  keyed r hr := by have := h.keyed r hr; have := h'.keyed r hr; omega
  register hne := h'.register (h.register hne)

/-- A line that holds some of the messages it held. -/
theorem LineFits.of_sublist {l l' : CueLine}
    (hq : (l'.queue.map TxEntry.msg).Sublist (l.queue.map TxEntry.msg))
    (hr : l.register ≠ 0 → l'.register ≠ 0) : LineFits l l' where
  length := by
    have := hq.length_le
    simp only [List.length_map] at this
    omega
  keyed r _ := by
    have := hq.countP_le (p := r)
    simp only [List.countP_map, Function.comp_def] at this
    omega
  register := hr

theorem LineFits.of_kept {l l' : CueLine} (hq : l'.queue = l.queue) (hr : l'.register = l.register) : LineFits l l' :=
  .of_sublist (by rw [hq]) (by rw [hr]; exact id)

theorem LineFits.of_eq {l l' : CueLine} (h : l' = l) : LineFits l l' :=
  .of_kept (by rw [h]) (by rw [h])

/-- An operation on a state with the line of the state before. -/
theorem LineFits.after {f : State → State} (h : ∀ x, LineFits x.line (f x).line) {s s' : State}
    (hs : s'.line = s.line) : LineFits s.line (f s').line :=
  hs ▸ h s'

/-- A message joins the tail of what is left of the queue. -/
theorem LineFits.of_joined {l l' : CueLine} {m : TxMessage} {rest : List TxEntry}
    (hq : l'.queue = rest ++ [newEntry m]) (hsub : rest.Sublist l.queue)
    (hlen : rest.length + 1 ≤ 4 ∨ rest.length + 1 ≤ l.queue.length)
    (hkey : ∀ r, IsKey r → r m = true → ∀ e ∈ l.queue, r e.msg = false) (hr : l'.register = l.register) :
    LineFits l l' where
  length := by rw [hq, List.length_append, List.length_singleton]; omega
  keyed r hr := by
    have hrest := hsub.countP_le (p := fun e => r e.msg)
    have hnew : ([newEntry m].countP fun e => r e.msg) = (r m).toNat := by
      rw [List.countP_singleton, newEntry]
      cases r m <;> rfl
    rw [hq, List.countP_append, hnew]
    cases hm : r m with
    | false =>
      rw [Bool.toNat_false]
      omega
    | true =>
      have hnone : (l.queue.countP fun e => r e.msg) = 0 :=
        List.countP_eq_zero.2 fun e he => by simp [hkey r hr hm e he]
      rw [Bool.toNat_true]
      omega
  register := by rw [hr]; exact id

/-! ### Placing messages (R26 to R28) -/

theorem isKey_demand {r : TxMessage → Bool} (h : IsKey r) {group : Byte} {a : Announcement}
    (hr : r (.demand group a) = true) : r = isDemandMsg := by
  obtain rfl | ⟨c, rfl⟩ := h
  · rfl
  · cases hr

theorem isKey_cond {r : TxMessage → Bool} (h : IsKey r) {c : ConditionNo} {v : Bool} (hr : r (.cond c v) = true) :
    r = isCondFor c := by
  obtain rfl | ⟨c', rfl⟩ := h
  · cases hr
  · rw [beq_iff_eq.1 (show (c == c') = true from hr)]

theorem isKey_report {r : TxMessage → Bool} (h : IsKey r) (record index : Byte) (contents : List Byte) :
    r (.report record index contents) = false := by
  obtain rfl | ⟨c, rfl⟩ := h <;> rfl

/-- Every key says the same of all DEMANDs. -/
theorem isKey_demand_same {r : TxMessage → Bool} (h : IsKey r) (group : Byte) (a : Announcement) (t : TxMessage)
    (ht : isDemandMsg t = true) : r t = r (.demand group a) := by
  cases t with
  | demand => obtain rfl | ⟨c, rfl⟩ := h <;> rfl
  | cond | report => cases ht

/-- Every key says the same of all CONDs for one condition. -/
theorem isKey_cond_same {r : TxMessage → Bool} (h : IsKey r) {c : ConditionNo} (v : Bool) (t : TxMessage)
    (ht : isCondFor c t = true) : r t = r (.cond c v) := by
  cases t with
  | cond c' v' =>
    obtain rfl : c' = c := beq_iff_eq.1 ht
    obtain rfl | ⟨d, rfl⟩ := h <;> rfl
  | demand | report => cases ht

theorem lineFits_replaced {l : CueLine} {p : TxMessage → Bool} {m : TxMessage}
    (same : ∀ r, IsKey r → ∀ t, p t = true → r t = r m) :
    LineFits l { l with queue := replaceEntry p m (headOnLine l) l.queue } where
  length := by simp [replaceEntry_length]
  keyed r hr := by simp [replaceEntry_countP (same r hr)]
  register := id

/-- Making room keeps the bound and the keys. -/
theorem lineFits_makeRoom {l l' : CueLine} {p : TxMessage → Bool} {m : TxMessage} (h : makeRoom p m l = some l')
    (hkey : ∀ r, IsKey r → r m = true → ∀ e ∈ l.queue, r e.msg = false) : LineFits l l' := by
  obtain ⟨rest, hrest, rfl⟩ := Option.map_eq_some_iff.1 h
  obtain ⟨hsub, hlen⟩ := removeOldest_some hrest
  exact .of_joined rfl hsub (by omega) hkey rfl

theorem lineFits_joinTail {l : CueLine} {m : TxMessage} (room : l.queue.length < 4)
    (hkey : ∀ r, IsKey r → r m = true → ∀ e ∈ l.queue, r e.msg = false) : LineFits l (joinTail m l) :=
  .of_joined rfl (.refl _) (by omega) hkey rfl

theorem placeDemand_lineFits (group : Byte) (a : Announcement) (s : State) :
    LineFits s.line (placeDemand group a s).line := by
  unfold placeDemand
  dsimp only
  split
  · exact lineFits_replaced fun r hr => isKey_demand_same hr group a
  next hnone =>
    have hnone : ∀ e ∈ s.line.queue, isDemandMsg e.msg = false := by simpa using hnone
    have hkey (r) (hr : IsKey r) (hm : r (.demand group a) = true) : ∀ e ∈ s.line.queue, r e.msg = false := by
      rwa [isKey_demand hr hm]
    split
    next room => exact lineFits_joinTail room hkey
    next full =>
      split
      next hroom => exact lineFits_makeRoom hroom hkey
      next hreport =>
        split
        next hroom => exact lineFits_makeRoom hroom hkey
        next hcond =>
          have hreports := (removeOldest_none (Option.map_eq_none_iff.1 hreport)).1
          have hconds := (removeOldest_none (Option.map_eq_none_iff.1 hcond)).1
          match hqueue : s.line.queue with
          | [] | [_] => simp [hqueue] at full
          | x :: y :: ys =>
            simp only [hqueue, List.tail_cons, List.mem_cons, forall_eq_or_imp] at hnone hreports hconds
            obtain ⟨msg, losses, replaced⟩ := y
            cases msg with
            | demand => exact absurd hnone.2.1 (by simp [isDemandMsg])
            | cond => exact absurd hconds.1 (by simp [isCondMsg])
            | report => exact absurd hreports.1 (by simp [isReportMsg])

theorem placeCond_lineFits (c : ConditionNo) (v : Bool) (s : State) : LineFits s.line (placeCond c v s).line := by
  unfold placeCond
  dsimp only
  split
  · exact lineFits_replaced fun r hr => isKey_cond_same hr v
  next hnone =>
    have hnone : ∀ e ∈ s.line.queue, isCondFor c e.msg = false := by simpa using hnone
    have hkey (r) (hr : IsKey r) (hm : r (.cond c v) = true) : ∀ e ∈ s.line.queue, r e.msg = false := by
      rwa [isKey_cond hr hm]
    split
    next room => exact lineFits_joinTail room hkey
    next full =>
      split
      next hroom => exact lineFits_makeRoom hroom hkey
      next => exact .of_eq rfl

theorem placeReport_lineFits (record index : Byte) (contents : List Byte) (s : State) :
    LineFits s.line (placeReport record index contents s).line := by
  unfold placeReport
  split
  next room =>
    exact lineFits_joinTail room fun r hr hm => absurd hm (by simp [isKey_report hr])
  next => exact .of_eq rfl

/-! ### Attempts and backoff (R29 to R32) -/

/-- The seed of a station's backoff register is its number times 7 plus 1, from 1 to 218 (R17). -/
theorem backoffSeed_toNat (n : StationNo) : (backoffSeed n).toNat = n.toNat * 7 + 1 := by
  have := n.isLt
  rw [backoffSeed, BitVec.toNat_ofNat]
  omega

theorem backoffSeed_ne_zero (n : StationNo) : backoffSeed n ≠ 0 := by
  have := backoffSeed_toNat n
  intro h
  simp [h] at this

/-- A step of the generator shifts out bit 7 alone, and brings it in again when the other bits are 0 (R31). -/
theorem stepRegister_ne_zero : ∀ r : BitVec 8, r ≠ 0 → stepRegister r ≠ 0 := by decide

theorem lineFits_lineAtRestart (l : CueLine) (n : StationNo) : LineFits l (lineAtRestart n) :=
  .of_sublist (List.nil_sublist _) fun _ => backoffSeed_ne_zero n

/-- SAFE entry keeps REPORTs alone (R33). -/
theorem lineFits_lineAtSafe (l : CueLine) : LineFits l (lineAtSafe l) :=
  .of_sublist (List.filter_sublist.map _) id

theorem attemptStart_lineFits (s : State) : LineFits s.line (attemptStart s).line := by
  unfold attemptStart
  split
  next e es hqueue _ _ =>
    split
    · exact .of_sublist (by simp [hqueue]) id
    · exact .of_eq rfl
  next => exact .of_eq rfl

theorem attemptLost_lineFits (s : State) : LineFits s.line (attemptLost s).line := by
  unfold attemptLost
  split
  next => exact .of_eq rfl
  next a _ =>
    dsimp only
    split
    · exact lineFits_lineAtRestart _ _
    · split
      · exact .of_kept rfl rfl
      · split
        next => exact .of_kept rfl rfl
        next e es hqueue =>
          split
          · exact .of_sublist (by simp [discardHead, hqueue]) id
          · exact .of_sublist (by simp [backOff, hqueue]) (stepRegister_ne_zero _)

theorem queueAfterWin_sublist (q : List TxEntry) :
    ((queueAfterWin q).map TxEntry.msg).Sublist (q.map TxEntry.msg) := by
  cases q with
  | nil => exact .refl _
  | cons e es =>
    unfold queueAfterWin
    split
    next hq => cases hq
    next hq =>
      cases hq
      split
      · exact .refl _
      · exact List.sublist_cons_self _ _

theorem attemptWon_lineFits (s : State) : LineFits s.line (attemptWon s).line := by
  unfold attemptWon
  split
  next => exact .of_eq rfl
  next a _ =>
    dsimp only
    split
    · exact lineFits_lineAtRestart _ _
    · refine .of_sublist ?_ id
      dsimp only [setLine]
      split
      · exact queueAfterWin_sublist _
      · exact .refl _

/-! ### Commands -/

/-- A message leaves the line at GAP, and its owner does the rest (R16, R24). -/
theorem receive_lineFits {owner : State → State} (h : ∀ x, LineFits x.line (owner x).line) (code : BitVec 4)
    (m : Message) (s : State) : LineFits s.line (receive code m owner s).line := by
  have hgap : LineFits s.line (lineToGap s).line := .of_kept rfl rfl
  obtain heq | heq | ⟨c, heq⟩ | heq := receive_cases code m owner s
  · exact .of_eq (by rw [heq])
  · rwa [heq]
  · rwa [heq]
  · rw [heq]
    exact hgap.trans (h _)

/-- A message whose owner leaves the line alone. -/
theorem receive_lineFits_of_kept {owner : State → State} (h : ∀ x, (owner x).line = x.line) (code : BitVec 4)
    (m : Message) (s : State) : LineFits s.line (receive code m owner s).line :=
  receive_lineFits (fun x => .of_eq (h x)) code m s

theorem LineFits.ite {s t : State} {p : Prop} [Decidable p] (h : LineFits s.line t.line) :
    LineFits s.line (if p then t else s).line := by
  split
  · exact h
  · exact .of_eq rfl

theorem RestartOutcome.lineFits {s t : State} (h : RestartOutcome s t) : LineFits s.line t.line := by
  cases h with
  | restarted n hn =>
    rw [hn.line]
    exact lineFits_lineAtRestart _ n
  | attemptRunsOn n hl _ =>
    rw [hl]
    exact .of_kept rfl rfl
  | kept hl => exact .of_eq hl

theorem pinChange_lineFits (c : ConditionNo) (level : Bool) (s : State) :
    LineFits s.line (pinChange c level s).line := by
  have h := placeCond_lineFits c level (actOnCondition c level s.station.number s)
  rwa [show (actOnCondition c level s.station.number s).line = s.line by simp] at h

theorem samplePin_lineFits (pin : Fin 4) (s : State) : LineFits s.line (samplePin pin s).line := by
  unfold samplePin
  split
  · exact .ite (pinChange_lineFits _ _ _)
  · exact .of_eq rfl

theorem debouncedChange_lineFits (pin : Fin 4) (s : State) : LineFits s.line (debouncedChange pin s).line := by
  unfold debouncedChange
  split
  · exact .of_eq rfl
  · split
    · exact .of_eq rfl
    · dsimp only
      split
      · exact .of_eq rfl
      · split
        · exact .after (pinChange_lineFits _ _) rfl
        · exact .of_eq rfl

theorem samplePins_lineFits (s : State) : LineFits s.line (samplePins s).line :=
  (((samplePin_lineFits 0 s).trans (samplePin_lineFits 1 _)).trans (samplePin_lineFits 2 _)).trans
    (samplePin_lineFits 3 _)

theorem runNoticeLook_lineFits (s : State) : LineFits s.line (runNoticeLook s).line := by
  unfold runNoticeLook
  split
  · exact .of_eq rfl
  · dsimp only
    split
    all_goals
      simp only [firstEntry_keeps, holdConditions_keeps]
      exact .after samplePins_lineFits rfl

theorem lookHome_lineFits (s : State) : LineFits s.line (lookHome s).line := by
  unfold lookHome
  split
  · exact .of_eq rfl
  · dsimp only
    split
    · simp only [enterLook_keeps]
      exact .after runNoticeLook_lineFits rfl
    · exact .of_eq rfl

theorem generateAndClose_lineFits (s : State) : LineFits s.line (generateAndClose s).line := by
  have h := placeDemand_lineFits s.image.group (ownAnnouncement s (s.budget.frame + 2))
    (storeAnnouncement s.station.number s.image.group (ownAnnouncement s (s.budget.frame + 2)) s)
  simpa [generateAndClose, generateDemand] using h

theorem budgetFrameStart_lineFits (s : State) : LineFits s.line (budgetFrameStart s).line := by
  unfold budgetFrameStart
  split
  · exact .of_eq rfl
  · unfold budgetFrame
    split
    · exact .after generateAndClose_lineFits rfl
    · exact .of_eq rfl

theorem joinNotice_lineFits (s : State) : LineFits s.line (joinNotice s).line := by
  unfold joinNotice
  split
  · exact .of_eq rfl
  · dsimp only
    split
    · exact .after generateAndClose_lineFits rfl
    · exact .of_eq rfl

theorem takeQuery_lineFits (m : Message) (s : State) : LineFits s.line (takeQuery m s).line := by
  unfold takeQuery
  split
  · exact placeReport_lineFits _ _ _ _
  · exact .of_eq rfl

theorem queryFor_lineFits (record : Nat) (m : Message) (s : State) : LineFits s.line (queryFor record m s).line :=
  .ite (receive_lineFits (takeQuery_lineFits m) _ _ _)

theorem strapChange_lineFits (strap : Fin 5) (s : State) : LineFits s.line (strapChange strap s).line := by
  obtain h | h := strapChange_cases strap s
  · rw [h]
    exact lineFits_lineAtSafe _
  · rw [h]
    exact .of_eq rfl

theorem loadingEnd_lineFits (now : Nanos) (s : State) : LineFits s.line (loadingEnd now s).line := by
  obtain ⟨cause, failed, h⟩ | h | h := loadingEnd_cases now s
  · rw [h]
    exact (lineFits_lineAtRestart _ _).trans (lineFits_lineAtSafe _)
  · rw [h]
    exact lineFits_lineAtRestart _ _
  · rw [h]
    exact .of_eq rfl

/-- The state of the line and the backoff wait are neither queue nor register. -/
theorem lineIdle_lineFits (s : State) : LineFits s.line (lineIdle s).line := by
  unfold lineIdle
  split
  · exact .of_kept rfl rfl
  · exact .of_eq rfl

theorem startPattern_lineFits (slots : Nat) (s : State) : LineFits s.line (startPattern slots s).line := by
  unfold startPattern
  (repeat' split) <;> exact .of_kept rfl rfl

/-- Every command keeps the bound and the keys of the transmit queue, and the backoff register from 0: the commands
that act on the line one by one, and the rest by their frames. -/
theorem exec_lineFits {c : Instr} {s t : State} (h : exec c s = .next t) : LineFits s.line t.line := by
  cases c
  case powerOn pins => cases h; exact (powerOn_outcome pins s).lineFits
  case powerLoss => cases h; exact (powerLoss_outcome s).lineFits
  case resetPinAssertion => cases h; exact (resetPinAssertion_outcome s).lineFits
  case resetPinDeassertion straps => cases h; exact (resetPinDeassertion_outcome straps s).lineFits
  case arrayQuiet straps => cases h; exact (arrayQuiet_outcome straps s).lineFits
  case loadingEnd now => cases h; exact loadingEnd_lineFits now s
  case strapChange strap => cases h; exact strapChange_lineFits strap s
  case lineIdle => cases h; exact lineIdle_lineFits s
  case synchronisingWaitEnd => cases h; exact .ite (.of_kept rfl rfl)
  case startPattern slots => cases h; exact startPattern_lineFits slots s
  case startPatternError => cases h; exact .ite (.of_kept rfl rfl)
  case framingError => cases h; exact .ite (.of_kept rfl rfl)
  case backoffWaitEnd => cases h; exact .ite (.of_kept rfl rfl)
  case attemptStart => cases h; exact attemptStart_lineFits s
  case attemptLost => cases h; exact attemptLost_lineFits s
  case messageDiscard => cases h; exact .ite (attemptLost_lineFits s)
  case attemptWon => cases h; exact attemptWon_lineFits s
  case debouncedChange pin => cases h; exact debouncedChange_lineFits pin s
  case runNoticeLook => cases h; exact runNoticeLook_lineFits s
  case lookHome => cases h; exact lookHome_lineFits s
  case budgetFrameStart => cases h; exact budgetFrameStart_lineFits s
  case joinNotice => cases h; exact joinNotice_lineFits s
  case queryStatus | queryBudget | queryPeer | queryCues | queryLook | queryDirectory | queryCounters | queryChannel |
      queryWall => cases h; exact queryFor_lineFits _ _ s
  case queryUnknownRecord m => cases h; exact .ite (receive_lineFits (takeQuery_lineFits m) _ _ _)
  case checkValueMismatch | unknownKind | take =>
    cases h
    split
    · exact .of_eq rfl
    · exact receive_lineFits_of_kept (fun _ => by simp) _ _ _
  case time | reportReceived | preset | commit | cond | demand | restart =>
    cases h
    exact receive_lineFits_of_kept (fun _ => by simp) _ _ _
  case cancel | protectOn | protectOff | protectCodeError | mapErase | mapProgram | mapCodeError =>
    cases h
    exact .ite (receive_lineFits_of_kept (fun _ => by simp) _ _ _)
  all_goals
    cases h
    exact .of_eq (by simp [apply_ite State.line])

end Sys2Proof.Machine
end

section
/-! The cue list (R34): its bound, and one record for an identity; the request list (R76). -/

namespace Sys2Proof.Machine

/-! ### The records of an identity -/

/-- The identities of a list of records. -/
def identities (rs : List CueRecord) : List CueId := rs.map CueRecord.ident

theorem removeFirst_sublist {α : Type} (p : α → Bool) (l : List α) : (removeFirst p l).Sublist l := by
  induction l with
  | nil => exact .refl _
  | cons a as ih =>
    unfold removeFirst
    split
    · exact List.sublist_cons_self a as
    · exact ih.cons_cons a

theorem findCue_none {c : CueId} {rs : List CueRecord} (h : findCue c rs = none) : c ∉ identities rs := by
  intro hmem
  obtain ⟨r, hr, rfl⟩ := List.mem_map.1 hmem
  simpa using List.find?_eq_none.1 h r hr

/-- The first record of an identity taken out, and that identity put in front, are the records as they were. -/
theorem cons_removeFirst_perm {c : CueId} {rs : List CueRecord} (h : findCue c rs ≠ none) :
    (c :: identities (removeFirst (fun x => x.ident == c) rs)).Perm (identities rs) := by
  induction rs with
  | nil => exact absurd rfl h
  | cons x xs ih =>
    unfold removeFirst
    split
    next hx => rw [← beq_iff_eq.1 hx]; exact .refl _
    next hx =>
      have hxs : findCue c xs ≠ none := by simpa [findCue, hx] using h
      exact (List.Perm.swap _ _ _).trans ((ih hxs).cons x.ident)

theorem replaceInPlace_identities (r : CueRecord) (rs : List CueRecord) :
    identities (replaceInPlace r rs) = identities rs := by
  induction rs with
  | nil => rfl
  | cons x xs ih =>
    unfold replaceInPlace
    split
    next hx => simp [identities, hx]
    next => exact congrArg (x.ident :: ·) ih

theorem placeRecord_identities (current : FrameNo) (r : CueRecord) (rs : List CueRecord) :
    (identities (placeRecord current r rs)).Perm (r.ident :: identities rs) :=
  (placeRecord_perm current r rs).map _

/-- A record put in the place of the one of its identity (R39, R40). -/
theorem putRecord_identities_of_found {current : FrameNo} {r : CueRecord} {rs : List CueRecord}
    (h : findCue r.ident rs ≠ none) : (identities (putRecord current r rs)).Perm (identities rs) := by
  unfold putRecord
  split
  · split
    · rw [replaceInPlace_identities]
    · exact (placeRecord_identities _ _ _).trans (cons_removeFirst_perm h)
  next hnone => exact absurd hnone h

/-- A record of a new identity joins the list (R39, R40). -/
theorem putRecord_identities_of_new {current : FrameNo} {r : CueRecord} {rs : List CueRecord}
    (h : findCue r.ident rs = none) : (identities (putRecord current r rs)).Perm (r.ident :: identities rs) := by
  unfold putRecord
  rw [h]
  exact placeRecord_identities _ _ _

/-! ### What every command keeps of the cue list -/

/-- `c'` holds some of the identities that `c` does, or one more that is new to it and for which it has room (R34). -/
def CuesFit (c c' : CueList) : Prop :=
  (identities c'.records).Subperm (identities c.records) ∨
    ∃ i, i ∉ identities c.records ∧ c.records.length < 16 ∧
      (identities c'.records).Perm (i :: identities c.records)

theorem CuesFit.of_eq {c c' : CueList} (h : c' = c) : CuesFit c c' := .inl (by rw [h])

theorem CuesFit.of_sublist {c c' : CueList} (h : c'.records.Sublist c.records) : CuesFit c c' :=
  .inl (h.map _).subperm

theorem CuesFit.length {c c' : CueList} (h : CuesFit c c') (bound : c.records.length ≤ 16) :
    c'.records.length ≤ 16 := by
  obtain h | ⟨i, -, room, h⟩ := h
  · have := h.length_le
    simp only [identities, List.length_map] at this
    omega
  · have := h.length_eq
    simp only [identities, List.length_map, List.length_cons] at this
    omega

theorem CuesFit.nodup {c c' : CueList} (h : CuesFit c c') (one : (identities c.records).Nodup) :
    (identities c'.records).Nodup := by
  obtain ⟨l, hperm, hsub⟩ | ⟨i, hnew, -, h⟩ := h
  · exact hperm.nodup_iff.1 (one.sublist hsub)
  · exact h.nodup_iff.2 (List.nodup_cons.2 ⟨hnew, one⟩)

theorem acceptCue_cuesFit (r : CueRecord) (s : State) : CuesFit s.cues (acceptCue r s).cues := by
  unfold acceptCue
  split
  next hfound =>
    simp only [countIf_cues, count_cues, setRecords_cues]
    exact .inl (putRecord_identities_of_found (by simp [hfound])).subperm
  next hnew =>
    split
    · exact .of_eq rfl
    next room =>
      simp only [countIf_cues, setRecords_cues]
      exact .inr ⟨r.ident, findCue_none hnew, by omega, putRecord_identities_of_new hnew⟩

theorem takeCue_cuesFit (m : Message) (s : State) : CuesFit s.cues (takeCue m s).cues := by
  unfold takeCue
  dsimp only
  split
  · unfold cancelCue
    split
    · exact .of_sublist (removeFirst_sublist _ _)
    · exact .of_eq rfl
  · split
    · exact .of_eq rfl
    · split
      · exact .of_eq rfl
      all_goals exact acceptCue_cuesFit _ _

theorem takeDue_cuesFit (s : State) : CuesFit s.cues (takeDue s).cues := by
  rw [takeDue_eq]
  exact .of_sublist List.filter_sublist

/-- A frame start takes records out and sorts what is left (R44, R45). -/
theorem cueFrame_cuesFit (e : FrameEvent) (s : State) : CuesFit s.cues (cueFrame e s).cues := by
  rw [cueFrame_eq]
  have hsorted : (identities (sortedAt e s.cues)).Subperm (identities s.cues.records) :=
    ((sortedAt_perm e s.cues).map _).subperm.trans (List.filter_sublist.map _).subperm
  exact .inl ((List.filter_sublist.map _).subperm.trans hsorted)

theorem cueListFrameStart_cuesFit (s : State) : CuesFit s.cues (cueListFrameStart s).cues := by
  unfold cueListFrameStart
  split
  · exact .of_eq rfl
  next e es _ => exact cueFrame_cuesFit e { s with transit := { s.transit with cueFrames := es } }

theorem runNoticeCueList_cuesFit (s : State) : CuesFit s.cues (runNoticeCueList s).cues := by
  unfold runNoticeCueList
  split
  · exact .of_eq rfl
  · dsimp only
    split
    · rw [takeDue_eq]
      exact .of_sublist List.filter_sublist
    · exact .of_sublist (.refl _)

theorem receive_cuesFit {owner : State → State} (h : ∀ x, CuesFit x.cues (owner x).cues) (code : BitVec 4)
    (m : Message) (s : State) : CuesFit s.cues (receive code m owner s).cues := by
  obtain heq | heq | ⟨c, heq⟩ | heq := receive_cases code m owner s
  · exact .of_eq (by rw [heq])
  · exact .of_eq (by rw [heq]; rfl)
  · exact .of_eq (by rw [heq]; rfl)
  · rw [heq]
    exact h (lineToGap s)

theorem RestartOutcome.cuesFit {s t : State} (h : RestartOutcome s t) : CuesFit s.cues t.cues := by
  cases h with
  | restarted n hn => rw [hn.cues]; exact .of_sublist (List.nil_sublist _)
  | attemptRunsOn n _ hn =>
    rw [show t.cues = cuesAtRestart from hn.cues]
    exact .of_sublist (List.nil_sublist _)
  | kept _ hc => exact .of_eq hc

theorem strapChange_cuesFit (strap : Fin 5) (s : State) : CuesFit s.cues (strapChange strap s).cues := by
  obtain h | h := strapChange_cases strap s
  · rw [h]
    exact .of_sublist (List.nil_sublist _)
  · exact .of_eq (by rw [h])

theorem loadingEnd_cuesFit (now : Nanos) (s : State) : CuesFit s.cues (loadingEnd now s).cues := by
  obtain ⟨cause, failed, h⟩ | h | h := loadingEnd_cases now s
  · rw [h]
    exact .of_sublist (List.nil_sublist _)
  · exact .of_eq (by rw [h]; rfl)
  · exact .of_eq (by rw [h])

/-- Every command keeps the bound and the identities of the cue list: the commands that act on it one by one, and the
rest by their frames. -/
theorem exec_cuesFit {c : Instr} {s t : State} (h : exec c s = .next t) : CuesFit s.cues t.cues := by
  cases c
  case powerOn pins => cases h; exact (powerOn_outcome pins s).cuesFit
  case powerLoss => cases h; exact (powerLoss_outcome s).cuesFit
  case resetPinAssertion => cases h; exact (resetPinAssertion_outcome s).cuesFit
  case resetPinDeassertion straps => cases h; exact (resetPinDeassertion_outcome straps s).cuesFit
  case arrayQuiet straps => cases h; exact (arrayQuiet_outcome straps s).cuesFit
  case loadingEnd now => cases h; exact loadingEnd_cuesFit now s
  case strapChange strap => cases h; exact strapChange_cuesFit strap s
  case cueListFrameStart => cases h; exact cueListFrameStart_cuesFit s
  case runNoticeCueList => cases h; exact runNoticeCueList_cuesFit s
  case take m =>
    cases h
    split
    · exact .of_eq rfl
    · exact receive_cuesFit (takeCue_cuesFit m) _ _ _
  case cancel m =>
    cases h
    split
    · exact receive_cuesFit (takeCue_cuesFit m) _ _ _
    · exact .of_eq rfl
  all_goals
    cases h
    exact .of_eq (by simp [apply_ite State.cues])

/-! ### The request list (R76) -/

/-- The request list of `f'` is no longer than that of `f`, or than its bound (R76). -/
def RequestsFit (f f' : FadeEngine) : Prop := f'.requests.length ≤ max 16 f.requests.length

theorem RequestsFit.of_le {f f' : FadeEngine} (h : f'.requests.length ≤ f.requests.length) : RequestsFit f f' :=
  h.trans (le_max_right _ _)

theorem RequestsFit.of_eq {f f' : FadeEngine} (h : f' = f) : RequestsFit f f' := .of_le (by rw [h])

theorem keepRequest_requestsFit (atHead : Bool) (r : FadeRequest) (n : Fin 64) (s : State) :
    RequestsFit s.fade (keepRequest atHead r n s).fade := by
  unfold keepRequest
  split
  · exact .of_eq rfl
  next room =>
    have hlen : (addRequest atHead r s.fade).requests.length = s.fade.requests.length + 1 := by
      unfold addRequest
      cases atHead <;> simp
    exact hlen.le.trans (by omega)

theorem takeFadeRequest_requestsFit (r : FadeRequest) (s : State) :
    RequestsFit s.fade (takeFadeRequest r s).fade := by
  unfold takeFadeRequest
  split
  · exact .of_eq rfl
  · split
    · exact .of_eq rfl
    · exact keepRequest_requestsFit _ _ _ _

theorem fadeStartRequest_requestsFit (origin : Origin) (s : State) :
    RequestsFit s.fade (fadeStartRequest origin s).fade := by
  unfold fadeStartRequest
  split
  all_goals
    split
    · exact .of_eq rfl
    · exact takeFadeRequest_requestsFit _ { s with transit := _ }

theorem storeContent_length (current : FrameNo) (tag : Nat) (c : Content) (rs : List RequestRecord) :
    (storeContent current tag c rs).length = rs.length := by
  induction rs with
  | nil => rfl
  | cons r rs ih =>
    unfold storeContent
    split
    · rfl
    · simp [ih]

theorem takeContent_requestsFit (tag : Nat) (c : Content) (s : State) :
    RequestsFit s.fade (takeContent tag c s).fade := by
  unfold takeContent
  split
  · exact .of_eq rfl
  · exact .of_le (by simp [storeContent_length])

theorem takeNoContent_requestsFit (tag : Nat) (badRef : Bool) (s : State) :
    RequestsFit s.fade (takeNoContent tag badRef s).fade := by
  unfold takeNoContent
  split
  · exact .of_eq rfl
  · exact .of_le (by simpa using (removeFirst_sublist _ _).length_le)

theorem contentAnswer_requestsFit (s : State) : RequestsFit s.fade (contentAnswer s).fade := by
  unfold contentAnswer
  split
  · exact .of_eq rfl
  · split
    · exact takeContent_requestsFit _ _ { s with transit := _ }
    all_goals exact .of_eq rfl

theorem answerWithoutContent_requestsFit (s : State) : RequestsFit s.fade (answerWithoutContent s).fade := by
  unfold answerWithoutContent
  split
  · exact .of_eq rfl
  · split
    · exact .of_eq rfl
    all_goals exact takeNoContent_requestsFit _ _ { s with transit := _ }

@[simp] theorem formPackets_requests (refresh : Bool) (k : Nat) (s : State) :
    (formPackets refresh k s).fade.requests = s.fade.requests := by
  rw [formPackets, setFade_fade]

@[simp] theorem sendPackets_requests (s : State) : (sendPackets s).fade.requests = s.fade.requests := by
  unfold sendPackets
  split
  · rw [formPackets_requests]
  · rw [setFade_fade]

@[simp] theorem setPinnedLevels_requests (s : State) : (setPinnedLevels s).fade.requests = s.fade.requests := by
  rw [setPinnedLevels, setFade_fade]

theorem fadeFrame_requests_length_le (e : FrameEvent) (s : State) :
    (fadeFrame e s).fade.requests.length ≤ s.fade.requests.length := by
  have hstep : (stepFades e s).fade.requests.length ≤ s.fade.requests.length :=
    List.length_filter_le _ _
  unfold fadeFrame
  dsimp only
  split
  · rwa [sendPackets_requests]
  · exact hstep

theorem fadeFrameStart_requestsFit (s : State) : RequestsFit s.fade (fadeFrameStart s).fade := by
  unfold fadeFrameStart
  split
  · exact .of_eq rfl
  · dsimp only
    split
    · exact .of_le le_rfl
    · exact .of_le (fadeFrame_requests_length_le _ { s with transit := _ })

theorem fixturePacketsSent_requestsFit (s : State) : RequestsFit s.fade (fixturePacketsSent s).fade := by
  unfold fixturePacketsSent
  split
  · exact .of_eq rfl
  · dsimp only
    split
    · exact .of_le (fadeFrame_requests_length_le _ (setFade { s.fade with waiting := _, sending := _ } s))
    · exact .of_le le_rfl

theorem scaleArrivalFade_requestsFit (s : State) : RequestsFit s.fade (scaleArrivalFade s).fade := by
  unfold scaleArrivalFade
  dsimp only
  (repeat' split) <;> exact .of_le (by simp)

theorem protectionNotice_requestsFit (s : State) : RequestsFit s.fade (protectionNotice s).fade := by
  unfold protectionNotice
  dsimp only
  (repeat' split) <;> exact .of_le (by simp)

theorem requestStartPreset_requestsFit (label : FrameNo) (s : State) :
    RequestsFit s.fade (requestStartPreset label s).fade := by
  unfold requestStartPreset
  split
  · exact .of_eq rfl
  · exact keepRequest_requestsFit _ _ _ _

theorem runNoticeFade_requestsFit (s : State) : RequestsFit s.fade (runNoticeFade s).fade := by
  unfold runNoticeFade
  split
  · exact .of_eq rfl
  next n _ =>
    have hstart := requestStartPreset_requestsFit n.label
      (setPinnedLevels { s with transit := { s.transit with runFade := none } })
    rw [RequestsFit, setPinnedLevels_requests] at hstart
    dsimp only
    split
    · rwa [RequestsFit, sendPackets_requests]
    · exact hstart

theorem RestartOutcome.requestsFit {s t : State} (h : RestartOutcome s t) : RequestsFit s.fade t.fade := by
  cases h with
  | restarted n hn => rw [hn.fade]; exact .of_le (Nat.zero_le _)
  | attemptRunsOn n _ hn =>
    rw [show t.fade = fadeAtRestart from hn.fade]
    exact .of_le (Nat.zero_le _)
  | kept _ _ hf => exact .of_eq hf

theorem strapChange_requestsFit (strap : Fin 5) (s : State) : RequestsFit s.fade (strapChange strap s).fade := by
  obtain h | h := strapChange_cases strap s
  · rw [h]
    exact .of_le (Nat.zero_le _)
  · exact .of_eq (by rw [h])

theorem loadingEnd_requestsFit (now : Nanos) (s : State) : RequestsFit s.fade (loadingEnd now s).fade := by
  obtain ⟨cause, failed, h⟩ | h | h := loadingEnd_cases now s
  · rw [h]
    exact .of_le (Nat.zero_le _)
  · exact .of_eq (by rw [h]; rfl)
  · exact .of_eq (by rw [h])

/-- Every command keeps the bound of the request list: the commands of the fade engine one by one, and the rest by their
frames. -/
theorem exec_requestsFit {c : Instr} {s t : State} (h : exec c s = .next t) : RequestsFit s.fade t.fade := by
  cases c
  case powerOn pins => cases h; exact (powerOn_outcome pins s).requestsFit
  case powerLoss => cases h; exact (powerLoss_outcome s).requestsFit
  case resetPinAssertion => cases h; exact (resetPinAssertion_outcome s).requestsFit
  case resetPinDeassertion straps => cases h; exact (resetPinDeassertion_outcome straps s).requestsFit
  case arrayQuiet straps => cases h; exact (arrayQuiet_outcome straps s).requestsFit
  case loadingEnd now => cases h; exact loadingEnd_requestsFit now s
  case strapChange strap => cases h; exact strapChange_requestsFit strap s
  case fadeStartRequest origin => cases h; exact fadeStartRequest_requestsFit origin s
  case contentAnswer => cases h; exact contentAnswer_requestsFit s
  case answerWithoutContent => cases h; exact answerWithoutContent_requestsFit s
  case fadeFrameStart => cases h; exact fadeFrameStart_requestsFit s
  case fadeCompletion =>
    cases h
    split
    · exact fadeFrameStart_requestsFit s
    · exact .of_eq rfl
  case fixturePacketsSent => cases h; exact fixturePacketsSent_requestsFit s
  case scaleArrivalFade => cases h; exact scaleArrivalFade_requestsFit s
  case protectionNotice => cases h; exact protectionNotice_requestsFit s
  case runNoticeFade => cases h; exact runNoticeFade_requestsFit s
  all_goals
    cases h
    exact .of_eq (by simp [apply_ite State.fade])

end Sys2Proof.Machine
end

section
/-! The preset store's queues (R105, R112) and the outstanding map operations (R129). -/

namespace Sys2Proof.Machine

/-! ### Map operations at work -/

/-- The map operation in progress, as a number. -/
def mapRunning : Option Running → Nat
  | some .mapErase => 1
  | some (.mapProgram _ _) => 1
  | some (.commit _) => 0
  | none => 0

theorem mapWork_eq (s : State) :
    mapWork s = s.store.ops.countP isMapOp + mapRunning s.store.running + s.transit.mapDone.length := by
  unfold mapWork runningCommit
  match s.store.running with
  | none | some (.commit _) | some .mapErase | some (.mapProgram _ _) => simp [mapRunning]

theorem mapRunning_le (r : Option Running) : mapRunning r ≤ 1 := by
  match r with
  | none | some (.commit _) | some .mapErase | some (.mapProgram _ _) => simp [mapRunning]

/-! ### What every command keeps of the array's queues -/

/-- `t` holds no more operations and reads than `s`, or than their bounds, and keeps the bound of outstanding map
operations (R105, R112, R129). -/
structure WorkFits (s t : State) : Prop where
  ops : t.store.ops.length ≤ max 4 s.store.ops.length
  reads : t.store.reads.length ≤ max 8 s.store.reads.length
  outstanding : OutstandingBounded s → OutstandingBounded t

/-- Map operations at work stay so, and the outstanding count is as it was. -/
structure WorkKept (s t : State) : Prop where
  ops : t.store.ops.length ≤ max 4 s.store.ops.length
  reads : t.store.reads.length ≤ max 8 s.store.reads.length
  work : mapWork s ≤ mapWork t
  outstanding : t.protection.outstanding = s.protection.outstanding

theorem WorkKept.fits {s t : State} (h : WorkKept s t) : WorkFits s t where
  ops := h.ops
  reads := h.reads
  outstanding := by
    rintro ⟨hfive, hwork, hops⟩
    have ho := h.ops
    have hw := h.work
    exact ⟨h.outstanding ▸ hfive, by rw [h.outstanding]; omega, by omega⟩

theorem WorkKept.trans {s t u : State} (h : WorkKept s t) (h' : WorkKept t u) : WorkKept s u where
  ops := by have := h.ops; have := h'.ops; omega
  reads := by have := h.reads; have := h'.reads; omega
  work := h.work.trans h'.work
  outstanding := h'.outstanding.trans h.outstanding

/-- Queues no longer than they were, with the same map operations at work. -/
theorem WorkKept.of_le {s t : State} (hops : t.store.ops = s.store.ops)
    (hreads : t.store.reads.length ≤ s.store.reads.length)
    (hrunning : mapRunning t.store.running = mapRunning s.store.running)
    (hdone : t.transit.mapDone = s.transit.mapDone)
    (hout : t.protection.outstanding = s.protection.outstanding) : WorkKept s t where
  ops := by rw [hops]; omega
  reads := by omega
  work := by rw [mapWork_eq, mapWork_eq, hops, hrunning, hdone]
  outstanding := hout

/-- The preset store, the notices on their way and the outstanding count as they were. -/
theorem WorkKept.of_eq {s t : State} (hstore : t.store = s.store) (hdone : t.transit.mapDone = s.transit.mapDone)
    (hout : t.protection.outstanding = s.protection.outstanding) : WorkKept s t :=
  .of_le (by rw [hstore]) (by rw [hstore]) (by rw [hstore]) hdone hout

/-! ### The arbiter (R106, R113 to R115) -/

theorem dropFlat_length_le (dir : Vector DirEntry 64) (rs : List ReadRequest) :
    (dropFlat dir rs).length ≤ rs.length := by
  induction rs with
  | nil => exact le_rfl
  | cons r rs ih =>
    unfold dropFlat
    split
    · exact ih.trans (Nat.le_succ _)
    · exact le_rfl

theorem answerHeads_workKept (s : State) : WorkKept s (answerHeads s) :=
  .of_le rfl (dropFlat_length_le _ _) rfl rfl rfl

theorem serveHead_workKept (s : State) : WorkKept s (serveHead s) := by
  unfold serveHead
  split
  · exact .of_eq rfl rfl rfl
  next hreads => exact .of_le rfl (by simp [hreads]) rfl rfl rfl

/-- A commit that goes on is no map operation. -/
theorem setRun_workKept {s : State} {c : CommitRun} (h : s.store.running = some (.commit c)) (c' : CommitRun) :
    WorkKept s (setRun c' s) :=
  .of_le rfl le_rfl (by rw [h]; rfl) rfl rfl

/-- The operation that starts leaves the queue for the array (R106). -/
theorem startOperation_workKept {s : State} (h : s.store.running = none) : WorkKept s (startOperation s) := by
  unfold startOperation
  split
  next => exact .of_eq rfl rfl rfl
  next op ops hops =>
    have hlen : ops.length ≤ max 4 s.store.ops.length := by simp [hops]
    cases op with
    | commit x n =>
      have hstore : (startCommit x n (setStore { s.store with ops := ops } s)).store.ops = ops ∧
          (startCommit x n (setStore { s.store with ops := ops } s)).store.reads = s.store.reads := by
        cases x <;> exact ⟨rfl, rfl⟩
      obtain ⟨ho, hr⟩ := hstore
      refine ⟨by rwa [ho], by rw [hr]; omega, ?_, rfl⟩
      rw [mapWork_eq, mapWork_eq, h, hops, ho]
      simp [mapRunning, isMapOp, startCommit]
    | mapErase | mapProgram =>
      refine ⟨hlen, le_max_right _ _, ?_, rfl⟩
      rw [mapWork_eq, mapWork_eq, h, hops]
      simp [mapRunning, List.countP_cons, isMapOp, startMap]

theorem arbitrate_workKept (s : State) : WorkKept s (arbitrate s) := by
  have hheads := answerHeads_workKept s
  obtain h | h | h | ⟨hidle, -, -, h⟩ | ⟨c, hc, -, h⟩ | ⟨c, hc, -, -, -, -, h⟩ := arbitrate_cases s
  all_goals rw [h]
  · exact .of_eq rfl rfl rfl
  · exact hheads
  · exact hheads.trans (serveHead_workKept _)
  · exact hheads.trans (startOperation_workKept hidle)
  · exact hheads.trans (setRun_workKept (s := answerHeads s) hc _)
  · exact hheads.trans (setRun_workKept (s := answerHeads s) hc _)

theorem WorkKept.arbitrated {s u : State} (h : WorkKept s u) : WorkKept s (arbitrate u) :=
  h.trans (arbitrate_workKept u)

/-! ### Operations and reads join (R103, R105, R112) -/

theorem takePreset_workKept (m : Message) (s : State) : WorkKept s (takePreset m s) := by
  unfold takePreset
  dsimp only
  split
  · exact .of_eq rfl rfl rfl
  next x _ =>
    split
    · cases x <;> exact .of_le rfl le_rfl rfl rfl rfl
    all_goals exact .of_eq rfl rfl rfl

theorem takeCommit_workKept (m : Message) (s : State) : WorkKept s (takeCommit m s) := by
  unfold takeCommit
  dsimp only
  split
  next x n _ _ =>
    split
    · split
      · exact .of_eq rfl rfl rfl
      next room =>
        refine .arbitrated ⟨?_, ?_, ?_, rfl⟩
        · simp only [setStore_store, List.length_append, List.length_singleton]
          omega
        · cases x <;> exact le_max_right _ _
        · rw [mapWork_eq, mapWork_eq]
          cases x <;> simp [setBuffer, isMapOp]
    all_goals exact .of_eq rfl rfl rfl
  next => exact .of_eq rfl rfl rfl

/-- A read joins a queue with room, or leaves the queues as they are (R112). -/
theorem takeRead_workKept (r : ReadRequest) (s : State) : WorkKept s (takeRead r s) := by
  unfold takeRead
  split
  · exact .of_eq rfl rfl rfl
  · split
    · exact .of_eq rfl rfl rfl
    next room =>
      refine .arbitrated ⟨le_max_right _ _, ?_, le_rfl, rfl⟩
      simp only [setStore_store, List.length_append, List.length_singleton]
      omega

theorem presetReadRequest_workKept (s : State) : WorkKept s (presetReadRequest s) := by
  unfold presetReadRequest
  split
  · exact .of_eq rfl rfl rfl
  next r rs _ =>
    exact .trans (t := { s with transit := { s.transit with reads := rs } }) (.of_eq rfl rfl rfl)
      (takeRead_workKept _ _)

theorem arrayReadEnd_workKept (s : State) : WorkKept s (arrayReadEnd s) := by
  unfold arrayReadEnd
  split
  · exact .of_eq rfl rfl rfl
  · exact .arbitrated (.of_le rfl le_rfl rfl rfl rfl)

theorem suspensionReached_workKept (s : State) : WorkKept s (suspensionReached s) := by
  unfold suspensionReached
  split
  next c hc =>
    split
    · have hcounted := (setRun_workKept hc
        { c with suspended := true, asked := false, suspends := c.suspends + 1 }).trans
        (t := setRun { c with suspended := true, asked := false, suspends := c.suspends + 1 } s)
        (u := count .suspend (setRun { c with suspended := true, asked := false, suspends := c.suspends + 1 } s))
        (.of_eq rfl rfl rfl)
      have hheads := hcounted.trans (answerHeads_workKept _)
      dsimp only
      split
      · exact hheads.arbitrated
      · exact hheads.trans (serveHead_workKept _)
    · exact .of_eq rfl rfl rfl
  all_goals exact .of_eq rfl rfl rfl

/-! ### Ends of work (R107 to R111) -/

theorem commitIn_some {phase : CommitPhase} {s : State} {c : CommitRun} (h : commitIn phase s = some c) :
    s.store.running = some (.commit c) := by
  unfold commitIn at h
  split at h
  next c' hc =>
    split at h
    · cases h; exact hc
    · cases h
  all_goals cases h

theorem eraseEnd_workKept (s : State) : WorkKept s (eraseEnd s) := by
  unfold eraseEnd
  split
  · exact .of_eq rfl rfl rfl
  next c hc => exact .of_le rfl le_rfl (by rw [commitIn_some hc]; rfl) rfl rfl

theorem programEnd_workKept (s : State) : WorkKept s (programEnd s) := by
  unfold programEnd
  split
  · exact .of_eq rfl rfl rfl
  next c hc => exact .of_le rfl le_rfl (by rw [commitIn_some hc]; rfl) rfl rfl

/-- The end of a commit takes no map operation from the array. -/
theorem endCommit_workKept {c : CommitRun} {s : State} (h : s.store.running = some (.commit c)) (entry : DirEntry) :
    WorkKept s (endCommit c entry s) := by
  unfold endCommit finishOperation
  refine .arbitrated (.of_le ?_ (le_of_eq ?_) (by rw [h]; rfl) rfl rfl)
  all_goals cases c.buffer <;> rfl

/-- The same after a verify has marked its page and the flag (R108 to R110). -/
theorem endCommit_workKept_of_marked {c : CommitRun} {s t : State} (h : s.store.running = some (.commit c))
    (entry : DirEntry) (hstore : t.store = s.store) (htransit : t.transit = s.transit)
    (hprotection : t.protection = s.protection) : WorkKept s (endCommit c entry t) :=
  .trans (.of_eq hstore (by rw [htransit]) (by rw [hprotection])) (endCommit_workKept (hstore ▸ h) entry)

theorem verifyEnd_workKept (success : Bool) (s : State) : WorkKept s (verifyEnd success s) := by
  unfold verifyEnd
  split
  · exact .of_eq rfl rfl rfl
  next c hc =>
    have hrun := commitIn_some hc
    dsimp only
    split
    · exact endCommit_workKept_of_marked hrun _ rfl rfl rfl
    · exact endCommit_workKept_of_marked hrun _ rfl rfl rfl

/-- A map operation that ends leaves the array with its completion notice on the way (R111). -/
theorem endMap_workKept (page : Page ChannelSet) (entry : EntryState) (s : State) : WorkKept s (endMap page entry s) := by
  unfold endMap finishOperation
  refine .arbitrated ⟨le_max_right _ _, le_max_right _ _, ?_, rfl⟩
  have := mapRunning_le s.store.running
  rw [mapWork_eq, mapWork_eq]
  simp only [List.length_append, List.length_singleton]
  omega

theorem mapEraseEnd_workKept (s : State) : WorkKept s (mapEraseEnd s) := by
  unfold mapEraseEnd
  split
  · exact endMap_workKept _ _ _
  all_goals exact .of_eq rfl rfl rfl

theorem mapProgramEnd_workKept (s : State) : WorkKept s (mapProgramEnd s) := by
  unfold mapProgramEnd
  split
  · split
    all_goals exact endMap_workKept _ _ _
  all_goals exact .of_eq rfl rfl rfl

theorem startScanEnd_workKept (s : State) : WorkKept s (startScanEnd s) := by
  unfold startScanEnd
  dsimp only
  split
  · exact .of_eq rfl rfl rfl
  · split <;> exact .of_le rfl le_rfl rfl rfl rfl

theorem restartRequest_workKept (s : State) : WorkKept s (restartRequest s) := by
  unfold restartRequest
  dsimp only
  split
  · exact .of_eq rfl rfl rfl
  · split
    · exact .of_le rfl le_rfl rfl rfl rfl
    · exact .arbitrated (.of_le rfl le_rfl rfl rfl rfl)

/-! ### Outstanding map operations (R128, R129) -/

theorem handOverMap_store_le (op : ArrayOp) (s : State) :
    (handOverMap op s).store.ops.length ≤ max 4 s.store.ops.length ∧
      (handOverMap op s).store.reads.length ≤ max 8 s.store.reads.length := by
  unfold handOverMap
  split
  next room =>
    have hroom : s.store.ops.length < 4 := of_decide_eq_true room
    have h := arbitrate_workKept (setStore { s.store with ops := s.store.ops ++ [op] } s)
    have hops := h.ops
    rw [setStore_store, List.length_append, List.length_singleton] at hops
    exact ⟨by omega, h.reads⟩
  · exact ⟨le_max_right _ _, le_max_right _ _⟩

theorem handOver_store_le (op : ArrayOp) (s : State) :
    (handOver op s).store.ops.length ≤ max 4 s.store.ops.length ∧
      (handOver op s).store.reads.length ≤ max 8 s.store.reads.length := by
  unfold handOver
  dsimp only
  split <;> exact handOverMap_store_le op s

/-- A map operation that the preset store accepts is at work until its notice is taken (R105, R129). -/
theorem mapWork_handOverMap {op : ArrayOp} (hop : isMapOp op = true) {s : State} (room : acceptsOp s = true) :
    mapWork s + 1 ≤ mapWork (handOverMap op s) := by
  rw [handOverMap, if_pos room]
  refine le_trans (le_of_eq ?_)
    (arbitrate_workKept (setStore { s.store with ops := s.store.ops ++ [op] } s)).work
  rw [mapWork_eq, mapWork_eq]
  simp [hop]
  omega

/-- One handed over with fewer than five outstanding keeps the bound (R129). -/
theorem handOver_outstandingBounded {op : ArrayOp} (hop : isMapOp op = true) {s : State} (room : acceptsOp s = true)
    (few : s.protection.outstanding < 5) (h : OutstandingBounded s) : OutstandingBounded (handOver op s) := by
  obtain ⟨-, hwork, hops⟩ := h
  have hmore := mapWork_handOverMap hop room
  have hlen := (handOverMap_store_le op s).1
  have hout : (handOver op s).protection.outstanding = s.protection.outstanding + 1 := by
    simp [handOver, room]
  have hsame : mapWork (handOver op s) = mapWork (handOverMap op s) ∧
      (handOver op s).store = (handOverMap op s).store := by
    rw [handOver, if_pos room]
    exact ⟨rfl, rfl⟩
  obtain ⟨hmap, hstore⟩ := hsame
  exact ⟨by omega, by omega, by rw [hstore]; omega⟩

theorem mapCompletionNotice_of_nil {s : State} (h : s.transit.mapDone = []) : mapCompletionNotice s = s := by
  rw [mapCompletionNotice, h]

/-- A completion notice taken settles one operation (R128). -/
theorem mapCompletionNotice_workFits (s : State) : WorkFits s (mapCompletionNotice s) := by
  refine ⟨by simp, by simp, ?_⟩
  rintro ⟨hfive, hwork, hops⟩
  unfold mapCompletionNotice
  split
  · exact ⟨hfive, hwork, hops⟩
  next m ms hdone =>
    refine ⟨(Nat.sub_le _ _).trans hfive, ?_, hops⟩
    rw [mapWork_eq] at hwork ⊢
    simp only [hdone, List.length_cons] at hwork
    dsimp only
    omega

/-- With five outstanding and room in the queue a notice is on its way: at most three operations are queued and one is
in progress (R105, R129, log 45). -/
theorem mapDone_ne_nil {s : State} (h : OutstandingBounded s) (five : 5 ≤ s.protection.outstanding)
    (room : acceptsOp s = true) : s.transit.mapDone ≠ [] := by
  obtain ⟨-, hwork, -⟩ := h
  have hroom : s.store.ops.length < 4 := of_decide_eq_true room
  have hqueued : s.store.ops.countP isMapOp ≤ s.store.ops.length := List.countP_le_length
  have hrunning := mapRunning_le s.store.running
  intro hnil
  rw [mapWork_eq, hnil, List.length_nil] at hwork
  omega

theorem requestMap_workFits {op : ArrayOp} (hop : isMapOp op = true) (s : State) : WorkFits s (requestMap op s) := by
  have hsize : (requestMap op s).store.ops.length ≤ max 4 s.store.ops.length ∧
      (requestMap op s).store.reads.length ≤ max 8 s.store.reads.length := by
    unfold requestMap
    split
    · simpa using handOver_store_le op (mapCompletionNotice s)
    · exact handOver_store_le op s
  refine ⟨hsize.1, hsize.2, fun h => ?_⟩
  cases room : acceptsOp s with
  | false =>
    rw [requestMap_refused op room]
    exact h
  | true =>
    by_cases five : 5 ≤ s.protection.outstanding
    · have hroom : acceptsOp (mapCompletionNotice s) = true := by simpa [acceptsOp] using room
      have hfew : (mapCompletionNotice s).protection.outstanding < 5 := by
        obtain ⟨m, ms, hdone⟩ := List.exists_cons_of_ne_nil (mapDone_ne_nil h five room)
        have hbound := h.1
        simp only [mapCompletionNotice, hdone]
        omega
      rw [requestMap, if_pos ⟨five, room⟩]
      exact handOver_outstandingBounded hop hroom hfew ((mapCompletionNotice_workFits s).outstanding h)
    · rw [requestMap, if_neg fun hboth => five hboth.1]
      exact handOver_outstandingBounded hop room (by omega) h

theorem takeMap_workFits (m : Message) (s : State) : WorkFits s (takeMap m s) := by
  unfold takeMap
  have hkept (c : Counter) : WorkFits s (count c s) := WorkKept.fits (.of_eq rfl rfl rfl)
  split
  · split
    · exact hkept _
    · exact requestMap_workFits rfl s
  · split
    · exact hkept _
    · exact requestMap_workFits rfl s
  · exact hkept _

theorem takeProtect_workKept (m : Message) (s : State) : WorkKept s (takeProtect m s) := by
  unfold takeProtect
  (repeat' split) <;> exact .of_eq rfl rfl rfl

theorem onAirEdge_workKept (level : Bool) (now : Nanos) (s : State) : WorkKept s (onAirEdge level now s) := by
  unfold onAirEdge
  dsimp only
  split <;> exact .of_eq rfl rfl rfl

theorem startScanMap_workKept (s : State) : WorkKept s (startScanMap s) := by
  unfold startScanMap
  split <;> exact .of_eq rfl rfl rfl

/-! ### Completion notices stay on their way (R128) -/

@[simp] theorem issueFrameStart_mapDone (now : Micros) (s : State) :
    (issueFrameStart now s).transit.mapDone = s.transit.mapDone := by
  simp [issueFrameStart, deliverFrame]

@[simp] theorem lockTimebase_mapDone (now : Micros) (s : State) :
    (lockTimebase now s).transit.mapDone = s.transit.mapDone := by
  unfold lockTimebase
  dsimp only
  (repeat' split) <;> simp

@[simp] theorem pulseUnlocked_mapDone (now : Nanos) (s : State) :
    (pulseUnlocked now s).transit.mapDone = s.transit.mapDone := by
  unfold pulseUnlocked
  (repeat' split) <;> simp

@[simp] theorem pulseLocked_mapDone (now : Nanos) (s : State) :
    (pulseLocked now s).transit.mapDone = s.transit.mapDone := by
  unfold pulseLocked
  (repeat' split) <;> simp

@[simp] theorem genlockPulse_mapDone (now : Nanos) (s : State) :
    (genlockPulse now s).transit.mapDone = s.transit.mapDone := by
  unfold genlockPulse
  dsimp only
  (repeat' split) <;> simp

@[simp] theorem lossDeadline_mapDone (s : State) :
    (lossDeadline s).transit.mapDone = s.transit.mapDone := by
  unfold lossDeadline
  (repeat' split) <;> simp

@[simp] theorem internalTimerExpiry_mapDone (s : State) :
    (internalTimerExpiry s).transit.mapDone = s.transit.mapDone := by
  unfold internalTimerExpiry
  (repeat' split) <;> simp

@[simp] theorem seekEnd_mapDone (s : State) :
    (seekEnd s).transit.mapDone = s.transit.mapDone := by
  unfold seekEnd
  dsimp only
  (repeat' split) <;> simp

@[simp] theorem takeDue_mapDone (s : State) :
    (takeDue s).transit.mapDone = s.transit.mapDone := by
  simp [takeDue_eq]

@[simp] theorem cueFrame_mapDone (e : FrameEvent) (s : State) :
    (cueFrame e s).transit.mapDone = s.transit.mapDone := by
  simp [cueFrame_eq]

@[simp] theorem cueListFrameStart_mapDone (s : State) :
    (cueListFrameStart s).transit.mapDone = s.transit.mapDone := by
  unfold cueListFrameStart
  (repeat' split) <;> simp

@[simp] theorem runNoticeCueList_mapDone (s : State) :
    (runNoticeCueList s).transit.mapDone = s.transit.mapDone := by
  unfold runNoticeCueList
  dsimp only
  (repeat' split) <;> simp

@[simp] theorem actOnCondition_mapDone (c : ConditionNo) (v : Bool) (source : StationNo) (s : State) :
    (actOnCondition c v source s).transit.mapDone = s.transit.mapDone := by
  unfold actOnCondition
  dsimp only
  (repeat' split) <;> simp

@[simp] theorem takeCond_mapDone (m : Message) (s : State) :
    (takeCond m s).transit.mapDone = s.transit.mapDone := by
  unfold takeCond
  (repeat' split) <;> simp

@[simp] theorem pinChange_mapDone (c : ConditionNo) (level : Bool) (s : State) :
    (pinChange c level s).transit.mapDone = s.transit.mapDone := by
  simp [pinChange]

@[simp] theorem debouncedChange_mapDone (pin : Fin 4) (s : State) :
    (debouncedChange pin s).transit.mapDone = s.transit.mapDone := by
  unfold debouncedChange
  dsimp only
  (repeat' split) <;> simp

@[simp] theorem samplePin_mapDone (pin : Fin 4) (s : State) :
    (samplePin pin s).transit.mapDone = s.transit.mapDone := by
  unfold samplePin
  (repeat' split) <;> simp

@[simp] theorem enterLook_mapDone (l : LookNo) (cause : EntryCause) (s : State) :
    (enterLook l cause s).transit.mapDone = s.transit.mapDone := by
  simp [enterLook]

@[simp] theorem considerTransition_mapDone (s : State) :
    (considerTransition s).transit.mapDone = s.transit.mapDone := by
  unfold considerTransition
  (repeat' split) <;> simp

@[simp] theorem lookFrame_mapDone (e : FrameEvent) (s : State) :
    (lookFrame e s).transit.mapDone = s.transit.mapDone := by
  unfold lookFrame
  dsimp only
  (repeat' split) <;> simp [firstEntry]

@[simp] theorem lookFrameStart_mapDone (s : State) :
    (lookFrameStart s).transit.mapDone = s.transit.mapDone := by
  unfold lookFrameStart
  (repeat' split) <;> simp

@[simp] theorem conditionChangeNotice_mapDone (s : State) :
    (conditionChangeNotice s).transit.mapDone = s.transit.mapDone := by
  unfold conditionChangeNotice
  dsimp only
  (repeat' split) <;> simp

@[simp] theorem runNoticeLook_mapDone (s : State) :
    (runNoticeLook s).transit.mapDone = s.transit.mapDone := by
  unfold runNoticeLook
  dsimp only
  (repeat' split) <;> simp [firstEntry, holdConditions, samplePins]

@[simp] theorem lookHome_mapDone (s : State) :
    (lookHome s).transit.mapDone = s.transit.mapDone := by
  unfold lookHome
  dsimp only
  (repeat' split) <;> simp

@[simp] theorem keepRequest_mapDone (atHead : Bool) (r : FadeRequest) (n : Fin 64) (s : State) :
    (keepRequest atHead r n s).transit.mapDone = s.transit.mapDone := by
  unfold keepRequest
  (repeat' split) <;> simp

@[simp] theorem takeFadeRequest_mapDone (r : FadeRequest) (s : State) :
    (takeFadeRequest r s).transit.mapDone = s.transit.mapDone := by
  unfold takeFadeRequest
  (repeat' split) <;> simp

@[simp] theorem fadeStartRequest_mapDone (origin : Origin) (s : State) :
    (fadeStartRequest origin s).transit.mapDone = s.transit.mapDone := by
  unfold fadeStartRequest
  (repeat' split) <;> simp

@[simp] theorem contentAnswer_mapDone (s : State) :
    (contentAnswer s).transit.mapDone = s.transit.mapDone := by
  unfold contentAnswer
  (repeat' split) <;> simp

@[simp] theorem answerWithoutContent_mapDone (s : State) :
    (answerWithoutContent s).transit.mapDone = s.transit.mapDone := by
  unfold answerWithoutContent
  (repeat' split) <;> simp

@[simp] theorem fadeFrameStart_mapDone (s : State) :
    (fadeFrameStart s).transit.mapDone = s.transit.mapDone := by
  unfold fadeFrameStart
  dsimp only
  (repeat' split) <;> simp

@[simp] theorem scaleArrivalFade_mapDone (s : State) :
    (scaleArrivalFade s).transit.mapDone = s.transit.mapDone := by
  unfold scaleArrivalFade
  dsimp only
  (repeat' split) <;> simp

@[simp] theorem protectionNotice_mapDone (s : State) :
    (protectionNotice s).transit.mapDone = s.transit.mapDone := by
  unfold protectionNotice
  dsimp only
  (repeat' split) <;> simp

@[simp] theorem requestStartPreset_mapDone (label : FrameNo) (s : State) :
    (requestStartPreset label s).transit.mapDone = s.transit.mapDone := by
  unfold requestStartPreset
  (repeat' split) <;> simp

@[simp] theorem runNoticeFade_mapDone (s : State) :
    (runNoticeFade s).transit.mapDone = s.transit.mapDone := by
  unfold runNoticeFade
  dsimp only
  (repeat' split) <;> simp [enableLinks, setPinnedLevels]

@[simp] theorem wallFrameStart_mapDone (s : State) :
    (wallFrameStart s).transit.mapDone = s.transit.mapDone := by
  unfold wallFrameStart
  dsimp only
  (repeat' split) <;> simp

@[simp] theorem scaleArrivalWall_mapDone (s : State) :
    (scaleArrivalWall s).transit.mapDone = s.transit.mapDone := by
  unfold scaleArrivalWall
  dsimp only
  (repeat' split) <;> simp

@[simp] theorem runNoticeWall_mapDone (s : State) :
    (runNoticeWall s).transit.mapDone = s.transit.mapDone := by
  unfold runNoticeWall
  dsimp only
  (repeat' split) <;> simp

@[simp] theorem nextWallAction_mapDone (kind : CueAction → Bool) (s : State) :
    (nextWallAction kind s).transit.mapDone = s.transit.mapDone := by
  unfold nextWallAction
  (repeat' split) <;> simp

@[simp] theorem lookProfile_mapDone (s : State) :
    (lookProfile s).transit.mapDone = s.transit.mapDone := by
  unfold lookProfile
  dsimp only
  (repeat' split) <;> simp

@[simp] theorem wallProfile_mapDone (origin : Origin) (s : State) :
    (wallProfile origin s).transit.mapDone = s.transit.mapDone := by
  unfold wallProfile
  (repeat' split) <;> simp

@[simp] theorem settleScale_mapDone (e : FrameEvent) (s : State) :
    (settleScale e s).transit.mapDone = s.transit.mapDone := by
  simp [settleScale]

@[simp] theorem budgetFrame_mapDone (e : FrameEvent) (s : State) :
    (budgetFrame e s).transit.mapDone = s.transit.mapDone := by
  unfold budgetFrame
  (repeat' split) <;> simp

@[simp] theorem budgetFrameStart_mapDone (s : State) :
    (budgetFrameStart s).transit.mapDone = s.transit.mapDone := by
  unfold budgetFrameStart
  (repeat' split) <;> simp

@[simp] theorem joinNotice_mapDone (s : State) :
    (joinNotice s).transit.mapDone = s.transit.mapDone := by
  unfold joinNotice
  dsimp only
  (repeat' split) <;> simp [setBudget]

@[simp] theorem scanEndNotice_mapDone (s : State) :
    (scanEndNotice s).transit.mapDone = s.transit.mapDone := by
  unfold scanEndNotice
  dsimp only
  (repeat' split) <;> simp

@[simp] theorem controllerCounts_mapDone (e : FrameEvent) (s : State) :
    (controllerCounts e s).transit.mapDone = s.transit.mapDone := by
  unfold controllerCounts
  dsimp only
  (repeat' split) <;> simp [enterJoining, enterRunning, countFrame]

@[simp] theorem controllerFrameStart_mapDone (s : State) :
    (controllerFrameStart s).transit.mapDone = s.transit.mapDone := by
  unfold controllerFrameStart
  (repeat' split) <;> simp [controllerFrame, setControllerFrame]

@[simp] theorem takeRestart_mapDone (m : Message) (s : State) :
    (takeRestart m s).transit.mapDone = s.transit.mapDone := by
  unfold takeRestart
  (repeat' split) <;> simp

@[simp] theorem receive_mapDone (code : BitVec 4) (m : Message) {owner : State → State}
    (h : ∀ x, (owner x).transit.mapDone = x.transit.mapDone) (s : State) :
    (receive code m owner s).transit.mapDone = s.transit.mapDone := by
  obtain heq | heq | ⟨c, heq⟩ | heq := receive_cases code m owner s
  all_goals rw [heq]
  · rfl
  · rfl
  · exact h _

/-! ### Commands -/

theorem WorkKept.refl (s : State) : WorkKept s s := .of_eq rfl rfl rfl

theorem receive_workFits {owner : State → State} (h : ∀ x, WorkFits x (owner x)) (code : BitVec 4) (m : Message)
    (s : State) : WorkFits s (receive code m owner s) := by
  obtain heq | heq | ⟨c, heq⟩ | heq := receive_cases code m owner s
  all_goals rw [heq]
  · exact (WorkKept.refl s).fits
  · exact WorkKept.fits (.of_eq rfl rfl rfl)
  · exact WorkKept.fits (.of_eq rfl rfl rfl)
  · obtain ⟨hops, hreads, hout⟩ := h (lineToGap s)
    exact ⟨hops, hreads, hout⟩

theorem WorkFits.ite {s t : State} {p : Prop} [Decidable p] (h : WorkFits s t) : WorkFits s (if p then t else s) := by
  split
  · exact h
  · exact (WorkKept.refl s).fits

/-- Empty queues and no outstanding operation. -/
theorem WorkFits.of_empty {s t : State} (hops : t.store.ops = []) (hreads : t.store.reads = [])
    (hout : t.protection.outstanding = 0) : WorkFits s t where
  ops := by simp [hops]
  reads := by simp [hreads]
  outstanding _ := ⟨by simp [hout], by simp [hout], by simp [hops]⟩

theorem RestartOutcome.workFits {s t : State} (h : RestartOutcome s t) : WorkFits s t := by
  cases h with
  | restarted n hn =>
    exact .of_empty (by rw [hn.store]; rfl) (by rw [hn.store]; rfl) (by rw [hn.protection]; rfl)
  | attemptRunsOn n _ hn =>
    have hstore : t.store = storeAtRestart := hn.store
    have hprotection : t.protection = protectionAtRestart := hn.protection
    exact .of_empty (by rw [hstore]; rfl) (by rw [hstore]; rfl) (by rw [hprotection]; rfl)
  | kept _ _ _ hstore hprotection hdone => exact (WorkKept.of_eq hstore hdone (by rw [hprotection])).fits

theorem strapChange_workFits (strap : Fin 5) (s : State) : WorkFits s (strapChange strap s) := by
  obtain h | h := strapChange_cases strap s
  · rw [h]
    exact .of_empty rfl rfl rfl
  · rw [h]
    exact (WorkKept.refl s).fits

theorem loadingEnd_workFits (now : Nanos) (s : State) : WorkFits s (loadingEnd now s) := by
  obtain ⟨cause, failed, h⟩ | h | h := loadingEnd_cases now s
  · rw [h]
    exact .of_empty rfl rfl rfl
  · rw [h]
    exact WorkKept.fits (.of_le rfl le_rfl rfl rfl rfl)
  · rw [h]
    exact (WorkKept.refl s).fits

/-- Every command keeps the bounds of the preset store's queues and of the outstanding map operations: the commands of
the preset store and the protection unit one by one, and the rest by their frames. -/
theorem exec_workFits {c : Instr} {s t : State} (h : exec c s = .next t) : WorkFits s t := by
  cases c
  case powerOn pins => cases h; exact (powerOn_outcome pins s).workFits
  case powerLoss => cases h; exact (powerLoss_outcome s).workFits
  case resetPinAssertion => cases h; exact (resetPinAssertion_outcome s).workFits
  case resetPinDeassertion straps => cases h; exact (resetPinDeassertion_outcome straps s).workFits
  case arrayQuiet straps => cases h; exact (arrayQuiet_outcome straps s).workFits
  case loadingEnd now => cases h; exact loadingEnd_workFits now s
  case strapChange strap => cases h; exact strapChange_workFits strap s
  case preset m => cases h; exact receive_workFits (fun x => (takePreset_workKept m x).fits) _ _ _
  case commit m => cases h; exact receive_workFits (fun x => (takeCommit_workKept m x).fits) _ _ _
  case presetReadRequest => cases h; exact (presetReadRequest_workKept s).fits
  case arrayReadEnd => cases h; exact (arrayReadEnd_workKept s).fits
  case suspensionReached => cases h; exact (suspensionReached_workKept s).fits
  case eraseEnd => cases h; exact (eraseEnd_workKept s).fits
  case programEnd => cases h; exact (programEnd_workKept s).fits
  case verifyEnd success => cases h; exact (verifyEnd_workKept success s).fits
  case mapEraseEnd => cases h; exact (mapEraseEnd_workKept s).fits
  case mapProgramEnd => cases h; exact (mapProgramEnd_workKept s).fits
  case startScanEnd => cases h; exact (startScanEnd_workKept s).fits
  case restartRequest => cases h; exact (restartRequest_workKept s).fits
  case protectOn m | protectOff m | protectCodeError m =>
    cases h
    exact .ite (receive_workFits (fun x => (takeProtect_workKept m x).fits) _ _ _)
  case mapErase m | mapProgram m | mapCodeError m =>
    cases h
    exact .ite (receive_workFits (takeMap_workFits m) _ _ _)
  case onAirEdge level now => cases h; exact (onAirEdge_workKept level now s).fits
  case onAirAssertion => cases h; exact .ite (WorkKept.fits (.of_eq rfl rfl rfl))
  case onAirDeassertion => cases h; exact .ite (WorkKept.fits (.of_eq rfl rfl rfl))
  case startScanMap => cases h; exact (startScanMap_workKept s).fits
  case mapCompletionNotice => cases h; exact mapCompletionNotice_workFits s
  all_goals
    cases h
    refine (WorkKept.of_eq ?_ ?_ ?_).fits
    · simp [apply_ite State.store]
    · simp [apply_ite State.transit, apply_ite Transit.mapDone]
    · simp [apply_ite State.protection]

end Sys2Proof.Machine
end

section
/-! The lists of the part stay within their bounds, the backoff register is never 0, and reset meets the invariants (R25,
R31, R34, R76, R105, R112, R129). -/

namespace Sys2Proof.Machine

/-- What a step keeps is what idling keeps and what each command keeps. -/
theorem step_induction {R : State → Prop} {s t : State} (h : step s = .next t) (idle : R s)
    (command : ∀ c rest, exec c { s with pending := rest } = .next t → R t) : R t := by
  unfold step at h
  split at h
  · cases h; exact idle
  next c rest _ => exact command c rest h

theorem step_keeps_queuesBounded {s t : State} (hs : QueuesBounded s) (h : step s = .next t) : QueuesBounded t := by
  refine step_induction h hs fun c rest hexec => ?_
  obtain ⟨hqueue, hrecords, hrequests, hops, hreads⟩ := hs
  have hline := (exec_lineFits hexec).length
  have hfade := exec_requestsFit hexec
  have hwork := exec_workFits hexec
  have ho := hwork.ops
  have hr := hwork.reads
  rw [RequestsFit] at hfade
  dsimp only at hline hfade ho hr
  exact ⟨by omega, (exec_cuesFit hexec).length hrecords, by omega, by omega, by omega⟩

theorem queuesKeyed_iff (s : State) : QueuesKeyed s ↔
    (∀ r, IsKey r → (s.line.queue.countP fun e => r e.msg) ≤ 1) ∧ (identities s.cues.records).Nodup := by
  rw [identities, List.Nodup, List.pairwise_map]
  refine ⟨fun ⟨hdemand, hcond, hcues⟩ => ⟨?_, hcues⟩,
    fun ⟨hkey, hcues⟩ => ⟨hkey _ (.inl rfl), fun c => hkey _ (.inr ⟨c, rfl⟩), hcues⟩⟩
  rintro r (rfl | ⟨c, rfl⟩)
  · exact hdemand
  · exact hcond c

theorem step_keeps_queuesKeyed {s t : State} (hs : QueuesKeyed s) (h : step s = .next t) : QueuesKeyed t := by
  refine step_induction h hs fun c rest hexec => ?_
  obtain ⟨hkey, hcues⟩ := (queuesKeyed_iff s).1 hs
  refine (queuesKeyed_iff t).2 ⟨fun r hr => ?_, (exec_cuesFit hexec).nodup hcues⟩
  have hone := hkey r hr
  have hkept := (exec_lineFits hexec).keyed r hr
  dsimp only at hkept
  omega

theorem step_keeps_outstandingBounded {s t : State} (hs : OutstandingBounded s) (h : step s = .next t) :
    OutstandingBounded t :=
  step_induction h hs fun _ _ hexec => (exec_workFits hexec).outstanding hs

/-- Settles O4: what each command keeps of the line, the cue list, the request list and the array's queues. -/
theorem stepKeepsQueuesBounded : Obligations.StepKeepsQueuesBounded :=
  ⟨fun _ _ => step_keeps_queuesBounded, fun _ _ => step_keeps_queuesKeyed, fun _ _ => step_keeps_outstandingBounded⟩

/-- Settles O6: what each command keeps of the line, and the seed as a number. -/
theorem backoffRegisterNeverZero : Obligations.BackoffRegisterNeverZero := by
  refine ⟨fun s t hs h => ?_, fun n => ?_⟩
  · exact step_induction (R := fun t => t.line.register ≠ 0) h hs fun _ _ hexec => (exec_lineFits hexec).register hs
  · have := n.isLt
    rw [backoffSeed_toNat]
    omega

theorem reset_commitsConsistent : CommitsConsistent State.reset := by
  refine ⟨fun n => ?_, fun x => ?_, fun c hc => absurd hc (by simp [runningCommit, State.reset, storeAtRestart]),
    fun h => absurd h (by simp [State.reset, storeAtRestart])⟩
  · simp [runningCommit, State.reset, storeAtRestart, fill]
  · cases x <;> simp [runningCommit, State.reset, storeAtRestart, bufferOf, bufferAtRestart]

/-- Settles O9, invariant by invariant: every list is empty, nothing runs and no table entry is present. -/
theorem resetMeetsInvariants : Obligations.ResetMeetsInvariants := by
  refine ⟨⟨rfl, rfl, rfl⟩, ⟨Nat.zero_le _, Nat.zero_le _, Nat.zero_le _, Nat.zero_le _, Nat.zero_le _⟩,
    ⟨by decide, by decide, by decide, fun r hr => ?_⟩, fun n e _ hentry => ?_, backoffSeed_ne_zero 0,
    reset_commitsConsistent, ⟨fun _ => ⟨rfl, rfl, rfl, rfl⟩, fun hscan => ?_⟩,
    ⟨fun _ => ⟨rfl, rfl, rfl, rfl, rfl⟩, fun _ => ⟨rfl, rfl⟩⟩,
    ⟨Nat.zero_le _, fun _ => Nat.zero_le _, .nil⟩, ⟨Nat.zero_le _, Nat.zero_le _, Nat.zero_le _⟩⟩
  · simp [State.reset, budgetAtRestart] at hr
  · simp [State.reset, budgetAtRestart, fill] at hentry
  · simp [State.reset, storeAtRestart] at hscan

end Sys2Proof.Machine
end

section
/-! The line code: stuff bits put in and taken out (R19), and a message read back from its bits (R18, R19). -/

namespace Sys2Proof.Machine

/-! ### Stuff bits (R19) -/

/-- What the receiver removes after a run of at most 7 is what the sender put in. -/
theorem unstuffFrom_stuffFrom (last : Bool) {run : Nat} (h : run ≤ 7) (bs : List Bool) :
    unstuffFrom last run (stuffFrom last run bs) = some bs := by
  induction bs generalizing last run with
  | nil =>
    unfold stuffFrom
    split
    · cases last <;> simp_all [unstuffFrom]
    · rfl
  | cons b bs ih =>
    unfold stuffFrom
    split
    next hfull =>
      have hrest := ih b (run := if b = !last then 2 else 1) (by split <;> omega)
      cases last <;> simp_all [unstuffFrom]
    next hmore =>
      have hrest := ih b (run := if b = last then run + 1 else 1) (by split <;> omega)
      simp [unstuffFrom, hmore, hrest]

/-- After a run of at most 7 the sender lets no run exceed 7. -/
theorem longestRunFrom_stuffFrom (last : Bool) {run : Nat} (h : run ≤ 7) (bs : List Bool) :
    longestRunFrom last run (stuffFrom last run bs) ≤ 7 := by
  induction bs generalizing last run with
  | nil =>
    unfold stuffFrom
    split
    · cases last <;> simp_all [longestRunFrom]
    · exact h
  | cons b bs ih =>
    unfold stuffFrom
    split
    next hfull =>
      have hrest := ih b (run := if b = !last then 2 else 1) (by split <;> omega)
      cases last <;> simp_all [longestRunFrom]
    next hmore =>
      have hrest := ih b (run := if b = last then run + 1 else 1) (by split <;> omega)
      exact max_le h hrest

theorem unstuff_stuff (bs : List Bool) : unstuff (stuff bs) = some bs := by
  cases bs with
  | nil => rfl
  | cons b bs => rw [stuff, unstuff, unstuffFrom_stuffFrom b (by decide), Option.map_some]

/-- Settles O11, by induction on the bits with the run that precedes them. -/
theorem lineCodeStuffing : Obligations.LineCodeStuffing := by
  refine ⟨unstuff_stuff, fun bs => ?_⟩
  cases bs with
  | nil => exact Nat.zero_le _
  | cons b bs => exact longestRunFrom_stuffFrom b (by decide) bs

/-! ### Bytes and bits (R18) -/

theorem byteBits_length (b : Byte) : (byteBits b).length = 8 := rfl

/-- A byte is what its bits spell. -/
theorem ofNat_bitsToNat_byteBits : ∀ b : Byte, BitVec.ofNat 8 (bitsToNat (byteBits b)) = b := by decide

theorem bitsToBytes_flatMap_byteBits (n : Nat) (bs : List Byte) (h : bs.length ≤ n) :
    bitsToBytes n (bs.flatMap byteBits) = bs := by
  induction n generalizing bs with
  | zero => rw [List.eq_nil_of_length_eq_zero (Nat.le_zero.1 h)]; rfl
  | succ n ih =>
    cases bs with
    | nil => rfl
    | cons b bs =>
      have hlen : ¬ (byteBits b ++ bs.flatMap byteBits).length < 8 := by
        rw [List.length_append, byteBits_length]
        omega
      rw [List.flatMap_cons, bitsToBytes, if_neg hlen, List.take_left' (byteBits_length b),
        List.drop_left' (byteBits_length b), ofNat_bitsToNat_byteBits, ih bs (Nat.le_of_succ_le_succ h)]

/-- The number that the header bytes spell: kind, source and length in that order (R18). -/
theorem ofBytes_headerBytes (code : BitVec 4) (source : StationNo) {n : Nat} (h : n < 128) :
    ofBytes (headerBytes code source n) = code.toNat * 4096 + source.toNat * 128 + n := by
  have := code.isLt
  have := source.isLt
  rw [headerBytes, ofBytes_toBytes]
  omega

/-- The bytes of a message on the line: header, body, check value (R18). -/
def messageBytes (code : BitVec 4) (m : Message) : List Byte :=
  headerBytes code m.source m.body.length ++ (m.body ++ toBytes 2 m.check.toNat)

theorem messageBits_eq (code : BitVec 4) (m : Message) :
    messageBits code m = startPatternBits ++ (messageBytes code m).flatMap byteBits := by
  rw [messageBits, checkedBytes, messageBytes, List.append_assoc]

theorem headerBytes_length (code : BitVec 4) (source : StationNo) (n : Nat) :
    (headerBytes code source n).length = 2 :=
  toBytes_length 2 _

theorem messageBytes_length (code : BitVec 4) (m : Message) :
    (messageBytes code m).length = 2 + m.body.length + 2 := by
  simp only [messageBytes, List.length_append, headerBytes_length, toBytes_length]
  omega

/-- The header, the body and the check value are read at their places. -/
theorem messageBytes_fields (code : BitVec 4) (m : Message) (h : m.body.length ≤ 68) :
    fieldAt (messageBytes code m) 0 2 = code.toNat * 4096 + m.source.toNat * 128 + m.body.length ∧
      ((messageBytes code m).drop 2).take m.body.length = m.body ∧
      fieldAt (messageBytes code m) (2 + m.body.length) 2 = m.check.toNat := by
  have hheader := headerBytes_length code m.source m.body.length
  have hdrop : (messageBytes code m).drop 2 = m.body ++ toBytes 2 m.check.toNat := List.drop_left' hheader
  refine ⟨?_, by rw [hdrop, List.take_left' rfl], ?_⟩
  · rw [fieldAt, List.drop_zero, messageBytes, List.take_left' hheader, ofBytes_headerBytes _ _ (by omega)]
  · have hcheck := m.check.isLt
    rw [fieldAt, ← List.drop_drop, hdrop, List.drop_left' rfl, List.take_of_length_le (toBytes_length 2 _).le,
      ofBytes_toBytes]
    omega

/-- Settles O12: the stuff bits come out, the bits spell the bytes, and the header says where body and check value end. -/
theorem readLineBitsOfMessage : Obligations.ReadLineBitsOfMessage := by
  intro code m hbody
  obtain ⟨hheader, hread, hcheck⟩ := messageBytes_fields code m hbody
  have hlength := messageBytes_length code m
  have hbytes : bitsToBytes 72 ((messageBytes code m).flatMap byteBits) = messageBytes code m :=
    bitsToBytes_flatMap_byteBits 72 _ (by omega)
  have hcode := code.isLt
  have hsource := m.source.isLt
  have hlen : (code.toNat * 4096 + m.source.toNat * 128 + m.body.length) % 128 = m.body.length := by omega
  have hkind : BitVec.ofNat 4 ((code.toNat * 4096 + m.source.toNat * 128 + m.body.length) / 4096) = code := by
    apply BitVec.eq_of_toNat_eq
    rw [BitVec.toNat_ofNat]
    omega
  have hfrom : BitVec.ofNat 5 ((code.toNat * 4096 + m.source.toNat * 128 + m.body.length) / 128) = m.source := by
    apply BitVec.eq_of_toNat_eq
    rw [BitVec.toNat_ofNat]
    omega
  have hstart : (messageBits code m).take 3 = startPatternBits ∧
      (messageBits code m).drop 3 = (messageBytes code m).flatMap byteBits := by
    rw [messageBits_eq]
    exact ⟨List.take_left' rfl, List.drop_left' rfl⟩
  obtain ⟨hpattern, hrest⟩ := hstart
  simp only [readLineBits, lineBits, unstuff_stuff, hpattern, hrest, hbytes, hheader, hlen, hkind, hfrom, hread, hcheck,
    hlength, ne_eq, not_true_eq_false, if_false, Nat.lt_irrefl, BitVec.ofNat_toNat, BitVec.setWidth_eq]
  rw [if_neg (by omega)]

end Sys2Proof.Machine
end

section
/-! The receive filter (R20 to R24): what it routes, what it drops and counts, and the scope it reads (R194). -/

namespace Sys2Proof.Machine

/-! ### Bits of numbers that bytes spell (R194) -/

/-- Bit `n` of a number is bit `n mod 8` of the byte that many whole bytes from its end. -/
theorem ofBytes_testBit (bs : List Byte) {n : Nat} {b : Byte} (hn : n < 8 * bs.length)
    (h : bs[bs.length - 1 - n / 8]? = some b) : (ofBytes bs).testBit n = b.getLsbD (n % 8) := by
  induction bs using List.reverseRecOn generalizing n with
  | nil => exact absurd hn (by simp)
  | append_singleton bs last ih =>
    have hsum : ofBytes (bs ++ [last]) = 2 ^ 8 * ofBytes bs + last.toNat := by
      rw [ofBytes, List.foldl_append, List.foldl_cons, List.foldl_nil, ← ofBytes]
      omega
    rw [hsum, Nat.testBit_two_pow_mul_add _ last.isLt]
    rw [List.length_append, List.length_singleton] at hn h
    split
    next hlow =>
      rw [Nat.div_eq_of_lt hlow, Nat.mod_eq_of_lt hlow] at *
      rw [Nat.add_sub_cancel, Nat.sub_zero, List.getElem?_append_right le_rfl, Nat.sub_self] at h
      cases h
      rfl
    next hhigh =>
      have hplace : bs.length + 1 - 1 - n / 8 = bs.length - 1 - (n - 8) / 8 := by omega
      have hbyte : (n - 8) % 8 = n % 8 := by omega
      rw [hplace, List.getElem?_append_left (by omega)] at h
      rw [ih (by omega) h, hbyte]

/-! ### What the filter routes (R20 to R24) -/

theorem kindOfCode_kindCode (k : Kind) : kindOfCode (kindCode k) = some k := by cases k <;> rfl

theorem kindCode_of_kindOfCode {code : BitVec 4} {k : Kind} (h : kindOfCode code = some k) : code = kindCode k := by
  revert code
  cases k <;> decide

theorem not_long_of_lengthAccepted {k : Kind} {n : Nat} (h : lengthAccepted k n = true) : ¬ 68 < n := by
  cases k <;> simp [lengthAccepted] at h <;> omega

/-- The filter on a message received with an agreeing check value and a length of its kind (R20, R21). -/
theorem filterMessage_of_accepted {k : Kind} {m : Message} {s : State} (receiving : isReceiving s = true)
    (check : checkAgrees (kindCode k) m = true) (length : lengthAccepted k m.body.length = true) :
    filterMessage (kindCode k) m s =
      if k = .report ∧ m.source ≠ s.station.number then .dropped none
      else if m.source = s.station.number then .dropped (some .sourceClash)
      else if isAddressed k && !(messageScope m).getLsbD s.station.number.toNat then .dropped none
      else if !isRouted k s.station.state then .dropped (some .notReady)
      else .routed k := by
  simp [filterMessage, receiving, check, length, kindOfCode_kindCode, not_long_of_lengthAccepted length]

/-- A message with an agreeing check value whose length its kind does not have (R21). -/
theorem filterMessage_of_length {k : Kind} {m : Message} {s : State} (receiving : isReceiving s = true)
    (check : checkAgrees (kindCode k) m = true) (length : lengthAccepted k m.body.length = false) :
    filterMessage (kindCode k) m s = .dropped (some .crcErr) := by
  simp [filterMessage, receiving, check, length, kindOfCode_kindCode]

/-- A verdict to route has passed every step of the filter. -/
theorem routed_of_filterMessage {code : BitVec 4} {k : Kind} {m : Message} {s : State}
    (h : filterMessage code m s = .routed k) : code = kindCode k ∧ Routed k m s := by
  unfold filterMessage at h
  split at h
  · cases h
  next hreceiving =>
    split at h
    · cases h
    · split at h
      · cases h
      next hcheck =>
        split at h
        · cases h
        next k' hkind =>
          split at h
          · cases h
          next hlength =>
            split at h
            · cases h
            next hreport =>
              split at h
              · cases h
              next hsource =>
                split at h
                · cases h
                next hscope =>
                  split at h
                  · cases h
                  next hstate =>
                    cases h
                    obtain rfl := kindCode_of_kindOfCode hkind
                    refine ⟨rfl, by simpa using hreceiving, by simpa using hcheck, by simpa using hlength,
                      fun heq => hreport ⟨heq, hsource⟩, hsource, fun haddressed => ?_, by simpa using hstate⟩
                    simpa [haddressed] using hscope

theorem filterMessage_of_routed {k : Kind} {m : Message} {s : State} (h : Routed k m s) :
    filterMessage (kindCode k) m s = .routed k := by
  have hscope : (isAddressed k && !(messageScope m).getLsbD s.station.number.toNat) = false := by
    cases haddressed : isAddressed k
    · rfl
    · simp [h.scope haddressed]
  rw [filterMessage_of_accepted h.receiving h.check h.length]
  simp [h.kind, h.source, hscope, h.state]

/-- Settles O13: each step of the filter is a condition of `Routed`, and the scope is the number its bytes spell. -/
theorem filterRoutesExactly : Obligations.FilterRoutesExactly := by
  refine ⟨fun code k m s => ⟨routed_of_filterMessage, fun ⟨hcode, h⟩ => hcode ▸ filterMessage_of_routed h⟩,
    fun m n b hlength hbyte => ?_⟩
  have hn := n.isLt
  have hfour : (m.body.take 4).length = 4 := by rw [List.length_take]; omega
  have hplace : (m.body.take 4)[(m.body.take 4).length - 1 - n.val / 8]? = some b := by
    rw [hfour, List.getElem?_take_of_lt (by omega)]
    exact hbyte
  rw [messageScope, BitVec.getLsbD_ofNat, fieldAt, List.drop_zero, ofBytes_testBit _ (by omega) hplace]
  simp [hn]

/-! ### What the filter drops (R20 to R24) -/

theorem receive_of_dropped {code : BitVec 4} {m : Message} {s : State} {c : Counter}
    (h : filterMessage code m s = .dropped (some c)) (owner : State → State) :
    receive code m owner s = count c (lineToGap s) := by
  rw [receive, h]

theorem receive_of_dropped_uncounted {code : BitVec 4} {m : Message} {s : State}
    (h : filterMessage code m s = .dropped none) (owner : State → State) :
    receive code m owner s = lineToGap s := by
  rw [receive, h]

/-- The command of a message is its reception by an owner. -/
theorem exec_of_carries {k : Kind} {m : Message} {c : Instr} (h : Carries k m c) :
    ∃ owner : State → State, ∀ s, exec c s = .next (receive (kindCode k) m owner s) := by
  have hquery {record : Nat} (hr : (queryRecord m).toNat = record) (s : State) :
      queryFor record m s = receive (kindCode .query) m (takeQuery m) s := if_pos hr
  cases k with
  | time => cases h; exact ⟨_, fun _ => rfl⟩
  | demand => cases h; exact ⟨_, fun _ => rfl⟩
  | cond => cases h; exact ⟨_, fun _ => rfl⟩
  | preset => cases h; exact ⟨_, fun _ => rfl⟩
  | commit => cases h; exact ⟨_, fun _ => rfl⟩
  | restart => cases h; exact ⟨_, fun _ => rfl⟩
  | report => cases h; exact ⟨_, fun _ => rfl⟩
  | take =>
    obtain ⟨haction, rfl⟩ | ⟨haction, rfl⟩ := h
    · exact ⟨_, fun _ => congrArg Host.Outcome.next (if_neg haction)⟩
    · exact ⟨_, fun _ => congrArg Host.Outcome.next (if_pos haction)⟩
  | protect =>
    obtain ⟨hcode, rfl⟩ | ⟨hcode, rfl⟩ | ⟨hcode, rfl⟩ := h
    · exact ⟨_, fun _ => congrArg Host.Outcome.next (if_pos (by rw [hcode]; rfl))⟩
    · exact ⟨_, fun _ => congrArg Host.Outcome.next (if_pos (by rw [hcode]; rfl))⟩
    · exact ⟨_, fun _ => congrArg Host.Outcome.next (if_pos hcode)⟩
  | map =>
    obtain ⟨hcode, rfl⟩ | ⟨hcode, rfl⟩ | ⟨hcode, rfl⟩ := h
    · exact ⟨_, fun _ => congrArg Host.Outcome.next (if_pos (by rw [hcode]; rfl))⟩
    · exact ⟨_, fun _ => congrArg Host.Outcome.next (if_pos (by rw [hcode]; rfl))⟩
    · exact ⟨_, fun _ => congrArg Host.Outcome.next (if_pos hcode)⟩
  | query =>
    refine ⟨takeQuery m, fun s => ?_⟩
    obtain ⟨hr, rfl⟩ | ⟨hr, rfl⟩ | ⟨hr, rfl⟩ | ⟨hr, rfl⟩ | ⟨hr, rfl⟩ | ⟨hr, rfl⟩ | ⟨hr, rfl⟩ | ⟨hr, rfl⟩ |
      ⟨hr, rfl⟩ | ⟨hr, rfl⟩ := h
    case inr.inr.inr.inr.inr.inr.inr.inr.inr =>
      refine congrArg Host.Outcome.next (if_pos (hr.imp_left fun hzero => ?_))
      rw [hzero]
      rfl
    all_goals exact congrArg Host.Outcome.next (hquery (by rw [hr]; rfl) s)

/-- Settles O14: each drop is the verdict at its step of the filter, with the count that the step names. -/
theorem droppedMessages : Obligations.DroppedMessages := by
  refine ⟨fun kind m s hreceiving hcheck => ?_, fun kind m s hreceiving hlength hcheck hkind => ?_,
    fun m s hreceiving hcheck hlow hhigh hsource => ?_, fun k m c s hcarries hreceiving hcheck => ?_⟩
  · have hdropped : filterMessage kind m s = .dropped (some .crcErr) := by
      simp [filterMessage, hreceiving, hcheck]
    change Host.Outcome.next (if checkAgrees kind m = true then s else receive kind m id s) = _
    rw [hcheck, if_neg Bool.false_ne_true, receive_of_dropped hdropped]
    rfl
  · have hdropped : filterMessage kind m s = .dropped (some .kindErr) := by
      simp [filterMessage, hreceiving, hcheck, hkind, Nat.not_lt.2 hlength]
    change Host.Outcome.next (if (kindOfCode kind).isSome = true then s else receive kind m id s) = _
    rw [hkind, Option.isSome_none, if_neg Bool.false_ne_true, receive_of_dropped hdropped]
    rfl
  · have hdropped : filterMessage (kindCode .report) m s = .dropped none := by
      rw [filterMessage_of_accepted (k := .report) hreceiving hcheck (by simp [lengthAccepted, hlow, hhigh])]
      exact if_pos ⟨rfl, hsource⟩
    exact congrArg Host.Outcome.next (receive_of_dropped_uncounted hdropped id)
  · intro gap length lengthFits inScope st routed
    obtain ⟨owner, hexec⟩ := exec_of_carries hcarries
    have hfits : lengthFits ↔ lengthAccepted k m.body.length = true := by
      cases k <;> simp [lengthFits, length, lengthAccepted, and_assoc]
    have hscope : inScope ↔ (isAddressed k && !(messageScope m).getLsbD s.station.number.toNat) = false := by
      cases k <;> simp [inScope, isAddressed]
    have hrouted : k ≠ .report → (routed ↔ isRouted k s.station.state = true) := by
      cases k <;> cases hst : s.station.state <;> simp [routed, st, hst, isRouted, isOperating]
    simp only [hexec s, hfits]
    refine ⟨fun hlength => ?_, fun hlength hsource => ?_,
      fun hlength hsource => ⟨fun hout => ?_, fun hin hstate hkind => ?_⟩⟩
    · rw [receive_of_dropped (filterMessage_of_length hreceiving hcheck (by simpa using hlength))]
      rfl
    · have hverdict : filterMessage (kindCode k) m s = .dropped (some .sourceClash) := by
        rw [filterMessage_of_accepted hreceiving hcheck hlength]
        simp [hsource]
      rw [receive_of_dropped hverdict]
      rfl
    · have hverdict : filterMessage (kindCode k) m s = .dropped none := by
        rw [filterMessage_of_accepted hreceiving hcheck hlength, if_neg hsource]
        rw [hscope, Bool.not_eq_false] at hout
        rw [if_pos hout, ite_self]
      rw [receive_of_dropped_uncounted hverdict]
      rfl
    · have hverdict : filterMessage (kindCode k) m s = .dropped (some .notReady) := by
        rw [filterMessage_of_accepted hreceiving hcheck hlength, if_neg fun h => hkind h.1, if_neg hsource,
          hscope.1 hin]
        rw [hrouted hkind, Bool.not_eq_true] at hstate
        simp [hstate]
      rw [receive_of_dropped hverdict]
      rfl

end Sys2Proof.Machine
end

section
/-! Records and message bodies, field by field: bytes in order, each field spelled by bytes of its own (R194, R195). -/

namespace Sys2Proof.Machine

/-! ### Bytes that spell a value -/

/-- `part` is `n` bytes that spell `v`, most significant byte first (R194). -/
structure Spells (part : List Byte) (n v : Nat) : Prop where
  length : part.length = n
  value : ofBytes part = v

theorem ofBytes_singleton (b : Byte) : ofBytes [b] = b.toNat := by simp [ofBytes]

theorem spells_toBytes (n v : Nat) : Spells (toBytes n v) n (v % 256 ^ n) :=
  ⟨toBytes_length n v, ofBytes_toBytes n v⟩

/-- A number that fits its bytes. -/
theorem spells_toBytes_of_lt {n v : Nat} (h : v < 256 ^ n) : Spells (toBytes n v) n v :=
  ⟨toBytes_length n v, by rw [ofBytes_toBytes, Nat.mod_eq_of_lt h]⟩

theorem spells_frame (f : FrameNo) : Spells (frameBytes f) 3 f.toNat := spells_toBytes_of_lt f.isLt

theorem spells_word (x : BitVec 16) : Spells (toBytes 2 x.toNat) 2 x.toNat := spells_toBytes_of_lt x.isLt

/-- An absent part is bytes of 0 (R194). -/
theorem spells_zeros (n : Nat) : Spells (List.replicate n 0) n 0 := by
  refine ⟨List.length_replicate, ?_⟩
  induction n with
  | zero => rfl
  | succ n ih => rw [List.replicate_succ, ofBytes, List.foldl_cons]; exact ih

theorem frameBytes_length (f : FrameNo) : (frameBytes f).length = 3 := toBytes_length 3 _

/-! ### Single bytes -/

theorem byteOf_toNat (n : Nat) : (byteOf n).toNat = n % 256 := BitVec.toNat_ofNat n 8

theorem byteOf_toNat_of_lt {n : Nat} (h : n < 256) : (byteOf n).toNat = n := by
  rw [byteOf_toNat, Nat.mod_eq_of_lt h]

theorem byteOf_fin {n : Nat} (i : Fin n) (h : n ≤ 256) : (byteOf i.val).toNat = i.val :=
  byteOf_toNat_of_lt (i.isLt.trans_le h)

theorem markByte_toNat (b : Bool) : (markByte b).toNat = b.toNat := by cases b <;> rfl

theorem flagByte_one (a : Bool) : (flagByte [a]).toNat = a.toNat := by cases a <;> rfl

/-! ### Fields in order -/

/-- What follows the first `off` bytes of a record holds these fields of it. -/
def HoldsFrom (off : Nat) (bytes : List Byte) (fields : List (Nat × Nat × Nat)) : Prop :=
  ∀ f ∈ fields, off ≤ f.1 ∧ ofBytes ((bytes.drop (f.1 - off)).take f.2.1) = f.2.2

theorem HoldsFrom.fields {bytes : List Byte} {fields : List (Nat × Nat × Nat)} (h : HoldsFrom 0 bytes fields) :
    HoldsFields bytes fields :=
  fun f hf => (h f hf).2

theorem HoldsFrom.nil {off : Nat} {bytes : List Byte} : HoldsFrom off bytes [] := fun _ hf => absurd hf (by simp)

/-- Bytes that the fields leave out. -/
theorem HoldsFrom.skip {off n : Nat} {part rest : List Byte} {fields : List (Nat × Nat × Nat)}
    (hlen : part.length = n) (h : HoldsFrom (off + n) rest fields) : HoldsFrom off (part ++ rest) fields := by
  intro f hf
  obtain ⟨hoff, hvalue⟩ := h f hf
  have hsplit : f.1 - off = part.length + (f.1 - (off + n)) := by omega
  refine ⟨by omega, ?_⟩
  rw [hsplit, ← List.drop_drop, List.drop_left' rfl]
  exact hvalue

/-- A field, and those after it. -/
theorem HoldsFrom.part {off n v : Nat} {part rest : List Byte} {fields : List (Nat × Nat × Nat)}
    (hpart : Spells part n v) (h : HoldsFrom (off + n) rest fields) :
    HoldsFrom off (part ++ rest) ((off, n, v) :: fields) := by
  intro f hf
  obtain rfl | hmem := List.mem_cons.1 hf
  · refine ⟨le_rfl, ?_⟩
    simp only [Nat.sub_self, List.drop_zero]
    rw [List.take_left' hpart.length]
    exact hpart.value
  · exact HoldsFrom.skip hpart.length h f hmem

/-- A field of one byte, and those after it. -/
theorem HoldsFrom.byte {off v : Nat} {b : Byte} {rest : List Byte} {fields : List (Nat × Nat × Nat)}
    (hv : b.toNat = v) (h : HoldsFrom (off + 1) rest fields) : HoldsFrom off (b :: rest) ((off, 1, v) :: fields) :=
  HoldsFrom.part (part := [b]) ⟨rfl, (ofBytes_singleton b).trans hv⟩ h

/-- The last field. -/
theorem HoldsFrom.last {off n v : Nat} {part : List Byte} (hpart : Spells part n v) :
    HoldsFrom off part [(off, n, v)] := by
  have h := HoldsFrom.part (off := off) hpart (.nil (bytes := []))
  rwa [List.append_nil] at h

theorem HoldsFields.mono {bytes : List Byte} {fields fewer : List (Nat × Nat × Nat)} (h : HoldsFields bytes fields)
    (hsub : fewer ⊆ fields) : HoldsFields bytes fewer :=
  fun f hf => h f (hsub hf)

theorem HoldsFields.append {bytes : List Byte} {fields more : List (Nat × Nat × Nat)} (h : HoldsFields bytes fields)
    (h' : HoldsFields bytes more) : HoldsFields bytes (fields ++ more) :=
  fun f hf => (List.mem_append.1 hf).elim (h f) (h' f)

/-- A byte of a body is the field of one byte at its offset. -/
theorem ofBytes_take_one (bs : List Byte) (off : Nat) : ofBytes ((bs.drop off).take 1) = (byteAt bs off).toNat := by
  rw [byteAt, List.getD_eq_getElem?_getD]
  by_cases h : off < bs.length
  · rw [List.drop_eq_getElem_cons h, List.take_succ_cons, List.take_zero, ofBytes_singleton,
      List.getElem?_eq_getElem h, Option.getD_some]
  · rw [List.drop_eq_nil_of_le (by omega), List.getElem?_eq_none (by omega)]
    rfl

end Sys2Proof.Machine
end

section
/-! Line states (R16, R17, R19, R31) and attempts (R29 to R32). -/

namespace Sys2Proof.Machine

/-! ### Line states -/

theorem lineIdle_of_no_wait {s : State} (hactive : lineActive s = true) (hgap : s.line.lineState = .gap)
    (hwait : s.line.backoff = none) : lineIdle s = { s with line := { s.line with lineState := .idle } } := by
  simp [lineIdle, hactive, hgap, hwait, setLine]

/-- A wait with no slot left ends with GAP (R31). -/
theorem lineIdle_of_wait {s : State} {wait : Backoff} (hactive : lineActive s = true) (hgap : s.line.lineState = .gap)
    (hwait : s.line.backoff = some wait) :
    lineIdle s = { s with line := { s.line with
      lineState := .idle
      backoff := if wait.slots ≤ wait.counted then none else some wait } } := by
  simp [lineIdle, hactive, hgap, hwait, setLine]

theorem startPattern_of_gap {s : State} (slots : Nat) (hactive : lineActive s = true)
    (hgap : s.line.lineState = .gap) :
    startPattern slots s = { s with line := { s.line with lineState := .busy } } := by
  simp [startPattern, hactive, hgap, setLine]

theorem startPattern_of_idle {s : State} (slots : Nat) (hactive : lineActive s = true)
    (hidle : s.line.lineState = .idle) :
    startPattern slots s = { s with line := { s.line with
      lineState := .busy
      backoff := s.line.backoff.map fun b => { b with counted := min b.slots (b.counted + slots) } } } := by
  simp [startPattern, hactive, hidle, setLine]

/-- Settles O15, by the line state in which each event comes. -/
theorem lineStates : Obligations.LineStates := by
  refine ⟨⟨fun s hactive hgap hwait => ?_, fun s hlive hactive hstate => ?_, fun s n hactive hstate hwait => ?_,
    fun s hactive hbusy hattempt => ⟨?_, ?_⟩, fun s hactive hidle hwait => ?_⟩,
    fun s wait n hactive hwait => ⟨fun hidle => ?_, fun hgap => ?_⟩⟩
  · exact congrArg Host.Outcome.next (lineIdle_of_no_wait hactive hgap hwait)
  · exact congrArg Host.Outcome.next (if_pos ⟨hlive, hactive, hstate⟩)
  · refine congrArg Host.Outcome.next ?_
    obtain hgap | hidle := hstate
    · exact startPattern_of_gap n hactive hgap
    · simp [startPattern_of_idle n hactive hidle, hwait]
  · exact congrArg Host.Outcome.next (if_pos ⟨hactive, hbusy, hattempt⟩)
  · exact congrArg Host.Outcome.next (if_pos ⟨hactive, hbusy, hattempt⟩)
  · exact congrArg Host.Outcome.next (if_pos ⟨hactive, hidle, Option.isSome_iff_ne_none.2 hwait⟩)
  · refine congrArg Host.Outcome.next ((startPattern_of_idle n hactive hidle).trans ?_)
    rw [hwait]
    rfl
  · exact congrArg Host.Outcome.next (lineIdle_of_wait hactive hgap hwait)

/-! ### Attempts won and lost -/

theorem attemptStart_of_head {s : State} {e : TxEntry} {es : List TxEntry} (hactive : lineActive s = true)
    (hidle : s.line.lineState = .idle) (hqueue : s.line.queue = e :: es) (hattempt : s.line.attempt = none)
    (hwait : s.line.backoff = none) :
    attemptStart s = { s with line := { s.line with
      lineState := .busy
      queue := { e with replaced := false } :: es
      attempt := some { copy := e.msg, source := s.station.number, held := true } } } := by
  unfold attemptStart
  rw [hqueue, hattempt, hwait]
  exact if_pos ⟨hactive, hidle⟩

/-- A win of an attempt whose entry is still queued (R30). -/
theorem attemptWon_of_held {s : State} {e : TxEntry} {es : List TxEntry} {m : TxMessage} {own : StationNo}
    (hattempt : s.line.attempt = some { copy := m, source := own, held := true }) (hopen : s.line.closing = false)
    (hqueue : s.line.queue = e :: es) :
    attemptWon s = { s with
      line := { s.line with
        lineState := .gap
        attempt := none
        queue := if e.replaced then { e with losses := 0, replaced := false } :: es else es }
      flags := { s.flags with demandLost := s.flags.demandLost && !isDemandMsg m } } := by
  unfold attemptWon
  rw [hattempt]
  simp [hopen, hqueue, queueAfterWin, setLine]

/-- A loss of such an attempt, by the loss count it leaves (R30 to R32). -/
theorem attemptLost_of_held {s : State} {e : TxEntry} {es : List TxEntry} {m : TxMessage} {own : StationNo}
    (hattempt : s.line.attempt = some { copy := m, source := own, held := true }) (hopen : s.line.closing = false)
    (hqueue : s.line.queue = e :: es) :
    attemptLost s = if 16 ≤ lossCountAfter e then discardHead e es (count .contentionLoss s)
      else backOff e es (count .contentionLoss s) := by
  unfold attemptLost
  rw [hattempt]
  simp [hopen, hqueue]

/-- The discard of the sixteenth loss is the whole of it (log 6). -/
theorem lossDiscards_of_held {s : State} {e : TxEntry} {es : List TxEntry} {m : TxMessage} {own : StationNo}
    (hattempt : s.line.attempt = some { copy := m, source := own, held := true }) (hopen : s.line.closing = false)
    (hqueue : s.line.queue = e :: es) (hsixteen : 16 ≤ lossCountAfter e) : lossDiscards s = true := by
  unfold lossDiscards
  rw [hattempt, hqueue]
  simp [hopen, hsixteen]

/-- A message as its sender seals it has an agreeing check value (R20). -/
theorem checkAgrees_sealMessage (code : BitVec 4) (source : StationNo) (body : List Byte) :
    checkAgrees code (sealMessage code source body) = true :=
  beq_self_eq_true _

/-- The bits of an attempt are those of its sealed message, under the attempt's source (R18, R33). -/
theorem attemptBits_of_attempt {s : State} {a : Attempt} (h : s.line.attempt = some a) :
    ∃ m : Message, attemptBits s = some (lineBits (kindCode (kindOfTx a.copy)) m) ∧ m.source = a.source ∧
      m.body = txBody a.copy ∧ checkAgrees (kindCode (kindOfTx a.copy)) m = true :=
  ⟨txMessage a.source a.copy, by rw [attemptBits, h, Option.map_some], rfl, rfl, checkAgrees_sealMessage _ _ _⟩

/-- The payload of a DEMAND (R194). -/
theorem txBody_demand_fields (group : Byte) (x : Announcement) :
    HoldsFields (txBody (.demand group x)) [(0, 1, group.toNat), (1, 3, x.target.toNat), (4, 2, x.x.toNat),
      (6, 2, x.s.toNat), (8, 1, x.clamp.toNat)] := by
  simp only [txBody, List.append_assoc, List.cons_append, List.nil_append]
  exact (HoldsFrom.byte rfl <| .part (spells_frame _) <| .part (spells_word _) <| .part (spells_word _) <|
    .byte (flagByte_one _) .nil).fields

theorem txBody_demand_length (group : Byte) (x : Announcement) : (txBody (.demand group x)).length = 9 := by
  simp [txBody, frameBytes_length, toBytes_length]

theorem txBody_cond (c : ConditionNo) (v : Bool) :
    txBody (.cond c v) = [BitVec.ofNat 8 c.val, BitVec.ofNat 8 v.toNat] := by
  cases v <;> rfl

/-- Settles O16: the win and the loss of the held head, and the sealed message on the line. -/
theorem attemptsWonAndLost : Obligations.AttemptsWonAndLost := by
  refine ⟨⟨fun s e es hactive hidle hqueue hattempt hwait =>
      congrArg Host.Outcome.next (attemptStart_of_head hactive hidle hqueue hattempt hwait),
    fun s e es m own hattempt hopen hqueue => congrArg Host.Outcome.next (attemptWon_of_held hattempt hopen hqueue)⟩,
    fun s e es m own n hattempt hopen hqueue hn => ⟨fun hfew => ?_, fun hsixteen => ?_⟩, fun s a hattempt => ?_⟩
  · obtain rfl : n = lossCountAfter e := hn
    refine congrArg Host.Outcome.next ?_
    rw [attemptLost_of_held hattempt hopen hqueue, if_neg hfew.not_ge]
    rfl
  · obtain rfl : n = lossCountAfter e := hn
    have hdiscards : exec .messageDiscard s = .next (attemptLost s) :=
      congrArg Host.Outcome.next (if_pos (lossDiscards_of_held hattempt hopen hqueue hsixteen))
    refine ⟨hdiscards, hdiscards.trans (congrArg Host.Outcome.next ?_)⟩
    rw [attemptLost_of_held hattempt hopen hqueue, if_pos hsixteen]
    rfl
  · intro sent
    obtain ⟨m, hbits, hsource, hbody, hcheck⟩ := attemptBits_of_attempt hattempt
    refine ⟨fun group x hcopy => ?_, fun c v hcopy => ?_, fun record index contents hcopy => ?_⟩
    all_goals rw [hcopy] at hbits hbody hcheck
    · exact ⟨_, ⟨m, hbits, hsource, hbody, hcheck⟩, txBody_demand_length group x, txBody_demand_fields group x⟩
    · exact ⟨m, hbits, hsource, hbody.trans (txBody_cond c v), hcheck⟩
    · exact ⟨m, hbits, hsource, hbody, hcheck⟩

end Sys2Proof.Machine
end

section
/-! Where a DEMAND and a COND go in the transmit queue (R26, R27), the condition inputs (R55 to R57) and the run notice at
the look machine (R58, R69). -/

namespace Sys2Proof.Machine

/-! ### An entry replaced or removed in its place -/

/-- An entry is on the line when it is the head and the head's copy is. -/
theorem entryOnLine_eq (l : CueLine) (before : List TxEntry) :
    entryOnLine l before = (before.isEmpty && headOnLine l) := by
  rw [headOnLine_eq, entryOnLine]

theorem replaceEntry_of_first {p : TxMessage → Bool} (m : TxMessage) {e : TxEntry} (onLine : Bool)
    {before : List TxEntry} (after : List TxEntry) (he : p e.msg = true) (hnone : ∀ x ∈ before, p x.msg = false) :
    replaceEntry p m onLine (before ++ e :: after) =
      before ++ { msg := m, losses := 0, replaced := (before.isEmpty && onLine) || e.replaced } :: after := by
  induction before generalizing onLine with
  | nil => simp [replaceEntry, he]
  | cons x xs ih =>
    obtain ⟨hx, hxs⟩ := List.forall_mem_cons.1 hnone
    simp [replaceEntry, hx, ih false hxs]

/-- No entry satisfies the condition but one at the head that is on the line. -/
def OnlyOnLine (p : TxMessage → Bool) (onLine : Bool) (q : List TxEntry) : Prop :=
  ∀ (b : List TxEntry) (x : TxEntry) (a : List TxEntry), q = b ++ x :: a → p x.msg = true →
    (b.isEmpty && onLine) = true

theorem OnlyOnLine.head {p : TxMessage → Bool} {onLine : Bool} {x : TxEntry} {xs : List TxEntry}
    (h : OnlyOnLine p onLine (x :: xs)) : (p x.msg && !onLine) = false := by
  have hx := h [] x xs rfl
  cases onLine <;> simp_all

/-- Behind the head nothing is on the line. -/
theorem OnlyOnLine.tail {p : TxMessage → Bool} {onLine : Bool} {x : TxEntry} {xs : List TxEntry}
    (h : OnlyOnLine p onLine (x :: xs)) : OnlyOnLine p false xs :=
  fun b y a hxs hy => absurd (h (x :: b) y a (by rw [hxs, List.cons_append]) hy) (by simp)

theorem removeOldest_of_onlyOnLine {p : TxMessage → Bool} {onLine : Bool} {q : List TxEntry}
    (h : OnlyOnLine p onLine q) : removeOldest p onLine q = none := by
  induction q generalizing onLine with
  | nil => rfl
  | cons x xs ih => simp [removeOldest, h.head, ih h.tail]

theorem removeOldest_of_first {p : TxMessage → Bool} {onLine : Bool} {before : List TxEntry} {e : TxEntry}
    (after : List TxEntry) (he : p e.msg = true) (hfree : (before.isEmpty && onLine) = false)
    (h : OnlyOnLine p onLine before) : removeOldest p onLine (before ++ e :: after) = some (before ++ after) := by
  induction before generalizing onLine with
  | nil =>
    obtain rfl : onLine = false := hfree
    simp [removeOldest, he]
  | cons x xs ih =>
    have hrest := ih (Bool.and_false _) h.tail
    simp [removeOldest, h.head, hrest]

theorem removesHead_of_first {p : TxMessage → Bool} {onLine : Bool} {before : List TxEntry} {e : TxEntry}
    (after : List TxEntry) (he : p e.msg = true) (hfree : (before.isEmpty && onLine) = false)
    (h : OnlyOnLine p onLine before) : removesHead p onLine (before ++ e :: after) = before.isEmpty := by
  cases before with
  | nil =>
    obtain rfl : onLine = false := hfree
    simp [removesHead, he]
  | cons x xs => exact h.head

/-! ### The rules of R26 and R27 on the line -/

theorem replaced_of_firstEntry {p : TxMessage → Bool} {l : CueLine} {before after : List TxEntry} {e : TxEntry}
    (h : FirstEntry p l before e after) (m : TxMessage) :
    { l with queue := replaceEntry p m (headOnLine l) l.queue } = lineReplaced m l before e after := by
  obtain ⟨hqueue, he, hnone⟩ := h
  rw [lineReplaced, entryOnLine_eq, hqueue, replaceEntry_of_first m _ after he hnone]

theorem any_of_firstEntry {p : TxMessage → Bool} {l : CueLine} {before after : List TxEntry} {e : TxEntry}
    (h : FirstEntry p l before e after) : (l.queue.any fun x => p x.msg) = true := by
  obtain ⟨hqueue, he, -⟩ := h
  simp [hqueue, he]

theorem makeRoom_of_oldestFree {p : TxMessage → Bool} {l : CueLine} {before after : List TxEntry} {e : TxEntry}
    (h : OldestFree p l before e after) (m : TxMessage) : makeRoom p m l = some (lineMadeRoom m l before after) := by
  obtain ⟨hqueue, he, hfree, hbefore⟩ := h
  simp only [entryOnLine_eq] at hfree hbefore
  rw [makeRoom, lineMadeRoom, hqueue, removeOldest_of_first after he hfree hbefore,
    removesHead_of_first after he hfree hbefore]
  cases before <;> rfl

theorem makeRoom_of_noneFree {p : TxMessage → Bool} {l : CueLine} (h : NoneFree p l) (m : TxMessage) :
    makeRoom p m l = none := by
  have honly : OnlyOnLine p (headOnLine l) l.queue := fun b x a hqueue hx => by
    rw [← entryOnLine_eq]
    exact h b x a hqueue hx
  rw [makeRoom, removeOldest_of_onlyOnLine honly, Option.map_none]

theorem any_eq_false_of_none {p : TxMessage → Bool} {q : List TxEntry} (h : ∀ e ∈ q, p e.msg = false) :
    (q.any fun e => p e.msg) = false := by
  simpa using h

/-- The four cases of a COND (R27). -/
theorem placeCond_replaces {c : ConditionNo} {s : State} {before after : List TxEntry} {e : TxEntry} (v : Bool)
    (h : FirstEntry (isCondFor c) s.line before e after) :
    placeCond c v s = { s with line := lineReplaced (.cond c v) s.line before e after } := by
  rw [placeCond, if_pos (any_of_firstEntry h), replaced_of_firstEntry h]
  rfl

theorem placeCond_joins {c : ConditionNo} {s : State} (v : Bool) (h : ∀ e ∈ s.line.queue, isCondFor c e.msg = false)
    (room : s.line.queue.length < 4) :
    placeCond c v s = { s with line := lineJoined (.cond c v) s.line } := by
  simp only [placeCond, any_eq_false_of_none h, if_pos room, Bool.false_eq_true, if_false]
  rfl

theorem placeCond_makesRoom {c : ConditionNo} {s : State} {before after : List TxEntry} {e : TxEntry} (v : Bool)
    (h : ∀ e ∈ s.line.queue, isCondFor c e.msg = false) (full : 4 ≤ s.line.queue.length)
    (hreport : OldestFree isReportMsg s.line before e after) :
    placeCond c v s = count .queryDrop { s with line := lineMadeRoom (.cond c v) s.line before after } := by
  simp only [placeCond, any_eq_false_of_none h, if_neg full.not_gt, makeRoom_of_oldestFree hreport,
    Bool.false_eq_true, if_false]
  rfl

theorem placeCond_drops {c : ConditionNo} {s : State} (v : Bool) (h : ∀ e ∈ s.line.queue, isCondFor c e.msg = false)
    (full : 4 ≤ s.line.queue.length) (hreport : NoneFree isReportMsg s.line) :
    placeCond c v s = count .condTxDrop s := by
  simp only [placeCond, any_eq_false_of_none h, if_neg full.not_gt, makeRoom_of_noneFree hreport,
    Bool.false_eq_true, if_false]

/-- The four cases of a DEMAND (R26). -/
theorem placeDemand_replaces {group : Byte} {a : Announcement} {s : State} {before after : List TxEntry} {e : TxEntry}
    (h : FirstEntry isDemandMsg s.line before e after) :
    placeDemand group a s = { s with line := lineReplaced (.demand group a) s.line before e after } := by
  rw [placeDemand, if_pos (any_of_firstEntry h), replaced_of_firstEntry h]
  rfl

theorem placeDemand_joins {group : Byte} {a : Announcement} {s : State}
    (h : ∀ e ∈ s.line.queue, isDemandMsg e.msg = false) (room : s.line.queue.length < 4) :
    placeDemand group a s = { s with line := lineJoined (.demand group a) s.line } := by
  simp only [placeDemand, any_eq_false_of_none h, if_pos room, Bool.false_eq_true, if_false]
  rfl

theorem placeDemand_takesReport {group : Byte} {a : Announcement} {s : State} {before after : List TxEntry}
    {e : TxEntry} (h : ∀ e ∈ s.line.queue, isDemandMsg e.msg = false) (full : 4 ≤ s.line.queue.length)
    (hreport : OldestFree isReportMsg s.line before e after) :
    placeDemand group a s = count .queryDrop { s with line := lineMadeRoom (.demand group a) s.line before after } := by
  simp only [placeDemand, any_eq_false_of_none h, if_neg full.not_gt, makeRoom_of_oldestFree hreport,
    Bool.false_eq_true, if_false]
  rfl

theorem placeDemand_takesCond {group : Byte} {a : Announcement} {s : State} {before after : List TxEntry}
    {e : TxEntry} (h : ∀ e ∈ s.line.queue, isDemandMsg e.msg = false) (full : 4 ≤ s.line.queue.length)
    (hreport : NoneFree isReportMsg s.line) (hcond : OldestFree isCondMsg s.line before e after) :
    placeDemand group a s =
      count .condTxDrop { s with line := lineMadeRoom (.demand group a) s.line before after } := by
  simp only [placeDemand, any_eq_false_of_none h, if_neg full.not_gt, makeRoom_of_noneFree hreport,
    makeRoom_of_oldestFree hcond, Bool.false_eq_true, if_false]
  rfl

/-! ### Condition inputs (R55 to R57) -/

/-- An input edge in an operating state (R55). -/
theorem cinEdge_of_operating {s : State} (p : Fin 4) (level : Bool) (now : Nanos)
    (h : isOperating s.station.state = true) :
    cinEdge p level now s = { s with
      pins := { s.pins with
        cin := if level then s.pins.cin ||| BitVec.twoPow 4 p.val else s.pins.cin &&& ~~~BitVec.twoPow 4 p.val }
      conditions := { s.conditions with
        debouncers := setAt s.conditions.debouncers p (debouncerEdge level now s.conditions.debouncers[p]) } } := by
  simp [cinEdge, h]

theorem debouncerEdge_eq (level : Bool) (now : Nanos) (d : Debouncer) : debouncerEdge level now d =
    { d with candidate := if level = d.level then none else some { level := level, since := now } } := by
  unfold debouncerEdge
  split <;> rfl

/-- The state with a candidate's level moved to the debounced level (R55). -/
def debounced (p : Fin 4) (c : Candidate) (s : State) : State :=
  { s with conditions := { s.conditions with
      debouncers := setAt s.conditions.debouncers p { level := c.level, candidate := none } } }

theorem debouncedChange_of_candidate {s : State} {p : Fin 4} {c : Candidate}
    (hoperating : isOperating s.station.state = true) (hc : s.conditions.debouncers[p].candidate = some c) :
    (∀ n, s.image.pinMap[p] = some n → debouncedChange p s =
      if s.station.state = .running ∧ s.conditions.sampled then pinChange n c.level (debounced p c s)
      else debounced p c s) ∧
    (s.image.pinMap[p] = none → debouncedChange p s = debounced p c s) := by
  have hnot : isOperating s.station.state ≠ false := by simp [hoperating]
  constructor
  · intro n hmap
    rw [debouncedChange, if_neg hnot, hc]
    simp only [hmap]
    rfl
  · intro hmap
    rw [debouncedChange, if_neg hnot, hc]
    simp only [hmap]
    rfl

/-- Settles O22: the edge at its pin, the candidate that stood, and the four cases of a COND. -/
theorem conditionInputs : Obligations.ConditionInputs := by
  refine ⟨fun p level now s hoperating => ⟨cinEdge p level now s, rfl, ?_⟩, fun p s c hoperating hc => ?_,
    fun c v s => ⟨fun before after e hfirst => placeCond_replaces v hfirst,
      fun hnone => ⟨placeCond_joins v hnone, fun full =>
        ⟨fun before after e hreport => placeCond_makesRoom v hnone full hreport, placeCond_drops v hnone full⟩⟩⟩⟩
  · rw [cinEdge_of_operating p level now hoperating]
    refine ⟨(getLsbD_pinWritten _ p p level).trans (if_pos rfl),
      fun q hq => (getLsbD_pinWritten _ p q level).trans (if_neg hq), ?_,
      fun q hq => setAt_getElem_ne _ _ hq, rfl⟩
    exact (setAt_getElem_self _ _ _).trans (debouncerEdge_eq _ _ _)
  · obtain ⟨hmapped, hunmapped⟩ := debouncedChange_of_candidate hoperating hc
    refine ⟨fun n hmap hrunning hsampled => ?_, fun hidle => congrArg Host.Outcome.next ?_⟩
    · exact congrArg Host.Outcome.next ((hmapped n hmap).trans (if_pos ⟨hrunning, hsampled⟩))
    · cases hmap : s.image.pinMap[p] with
      | none => exact hunmapped hmap
      | some n =>
        refine (hmapped n hmap).trans (if_neg fun hboth => ?_)
        simp [hmap, hboth.1, hboth.2] at hidle

/-! ### The run notice at the look machine (R58, R69) -/

theorem actOnCondition_debouncers (c : ConditionNo) (v : Bool) (source : StationNo) (s : State) :
    (actOnCondition c v source s).conditions.debouncers = s.conditions.debouncers := by
  unfold actOnCondition
  dsimp only
  split <;> rfl

/-- Sampling a pin moves no debouncer. -/
theorem samplePin_debouncers (p : Fin 4) (s : State) :
    (samplePin p s).conditions.debouncers = s.conditions.debouncers := by
  unfold samplePin
  split
  · split
    · simp [pinChange, actOnCondition_debouncers]
    · rfl
  · rfl

/-- What sampling reads of a state: the pin map, the debounced levels and the station number (R58). -/
structure SampledAlike (s t : State) : Prop where
  image : t.image = s.image
  debouncers : t.conditions.debouncers = s.conditions.debouncers
  station : t.station = s.station

theorem SampledAlike.samplePin {s t : State} (h : SampledAlike s t) (p : Fin 4) : SampledAlike s (samplePin p t) where
  image := by simp [h.image]
  debouncers := by rw [samplePin_debouncers, h.debouncers]
  station := by simp [h.station]

theorem SampledAlike.mapped {s t : State} (h : SampledAlike s t) {p : Fin 4} {c : ConditionNo}
    (hmap : s.image.pinMap[p] = some c) : Machine.samplePin p t =
      if s.conditions.debouncers[p].level then placeCond c true (actOnCondition c true s.station.number t) else t := by
  rw [Machine.samplePin, h.image, hmap, h.debouncers, ← h.station]
  rfl

theorem SampledAlike.unmapped {s t : State} (h : SampledAlike s t) {p : Fin 4} (hmap : s.image.pinMap[p] = none) :
    Machine.samplePin p t = t := by
  rw [Machine.samplePin, h.image, hmap]

/-- The state with the run notice taken by the look machine, before the pins are sampled (R58). -/
def lookNoticed (n : Notice) (s : State) : State :=
  { s with
    transit := { s.transit with runLook := none }
    conditions := { s.conditions with sampled := true }
    look := { s.look with runNotice := some n.serial } }

theorem lookNoticed_sampledAlike (n : Notice) (s : State) : SampledAlike s (lookNoticed n s) := ⟨rfl, rfl, rfl⟩

/-- The pins are sampled and the conditions put in place before the first entry, if it is due (R58, R69, log 37). -/
theorem runNoticeLook_of_notice {s : State} {n : Notice} (h : s.transit.runLook = some n) :
    runNoticeLook s = if n.serial ≤ s.look.taken ∧ s.look.started ∧ s.look.entered = false then
      firstEntry (holdConditions (samplePins (lookNoticed n s))) else holdConditions (samplePins (lookNoticed n s)) := by
  rw [runNoticeLook, h]
  rfl

/-- F_r taken after the run notice makes the first entry (R69). -/
theorem lookFrame_of_first {s : State} {e : FrameEvent} (hstarted : s.look.started = true)
    (hentered : s.look.entered = false) (hnotice : s.look.runNotice = some e.serial) :
    lookFrame e s = firstEntry { s with look := { s.look with frame := e.frame, taken := e.serial } } := by
  simp [lookFrame, hstarted, hentered, hnotice]

/-- Settles O25: each pin sampled on a state that agrees with the first in what sampling reads. -/
theorem runNoticeSamplesAndEnters : Obligations.RunNoticeSamplesAndEnters := by
  refine ⟨fun s n hnotice => ?_, fun s e es hframes hstarted hentered hrun => ?_⟩
  · intro pinHigh sampled placed
    have hpin {t : State} (p : Fin 4) (h : SampledAlike s t) : samplePin p t = pinHigh p t := by
      cases hmap : s.image.pinMap[p] with
      | some c => simp only [h.mapped hmap, pinHigh, hmap]
      | none => simp only [h.unmapped hmap, pinHigh, hmap]
    clear_value pinHigh
    have h0 := lookNoticed_sampledAlike n s
    have h1 := h0.samplePin 0
    have h2 := h1.samplePin 1
    have h3 := h2.samplePin 2
    have hsampled : samplePins (lookNoticed n s) = sampled := by
      rw [samplePins, hpin 3 h3, hpin 2 h2, hpin 1 h1, hpin 0 h0, lookNoticed]
    have hplaced : holdConditions sampled = placed := rfl
    have himage : placed.image = s.image := by
      rw [← hplaced, ← hsampled]
      simp [lookNoticed]
    have hexec : exec .runNoticeLook s = .next (runNoticeLook s) := rfl
    rw [hexec, runNoticeLook_of_notice hnotice, hsampled, hplaced, firstEntry, himage]
    refine ⟨fun hstarted hentered htaken => by rw [if_pos ⟨htaken, hstarted, hentered⟩], fun hnone => ?_⟩
    have hlater : ¬ (n.serial ≤ s.look.taken ∧ s.look.started = true ∧ s.look.entered = false) := by
      rintro ⟨htaken, hstarted, hentered⟩
      obtain h | h | h := hnone
      · exact absurd (h.symm.trans hstarted) (by decide)
      · exact absurd (h.symm.trans hentered) (by decide)
      · omega
    rw [if_neg hlater]
  · have htaken : lookFrameStart s = lookFrame e { s with transit := { s.transit with lookFrames := es } } := by
      rw [lookFrameStart, hframes]
    exact congrArg Host.Outcome.next (htaken.trans (lookFrame_of_first hstarted hentered hrun))

end Sys2Proof.Machine
end

section
/-! The RESTART message (R33, R115, R119, R186). -/

namespace Sys2Proof.Machine

/-! ### The wait and the request (R119, R186) -/

theorem takeRestart_of_open {m : Message} {s : State} (h : s.station.restartWait = true) : takeRestart m s = s :=
  if_pos h

theorem takeRestart_of_closed {m : Message} {s : State} (h : s.station.restartWait = false) :
    takeRestart m s = { s with
      station := { s.station with restartWait := true, restartSource := some m.source }
      transit := { s.transit with restartReq := true } } :=
  if_neg (by simp [h])

/-- The state with the preset store's restart wait open (R119). -/
def arrayWaits (s : State) : State :=
  { s with
    store := { s.store with restartWait := true }
    transit := { s.transit with restartReq := false } }

theorem restartRequest_of_idle {s : State} (hreq : s.transit.restartReq = true) (hidle : s.store.running = none) :
    restartRequest s = { s with
      store := { s.store with restartWait := true }
      transit := { s.transit with restartReq := false, arrayQuiet := true } } := by
  simp [restartRequest, hreq, hidle, setStore]

theorem restartRequest_of_running {s : State} {r : Running} (hreq : s.transit.restartReq = true)
    (hrunning : s.store.running = some r) : restartRequest s = arbitrate (arrayWaits s) := by
  simp [restartRequest, hreq, hrunning, setStore, arrayWaits]

/-- With no read queued none is answered (R113). -/
theorem answerHeads_of_no_reads {s : State} (h : s.store.reads = []) : answerHeads s = s := by
  have hstore : { s.store with reads := [] } = s.store := by rw [← h]
  simp [answerHeads, h, dropFlat, flatAnswers, hstore]

/-- With no read queued a commit that is not suspended goes on (R115). -/
theorem arbitrate_of_commit_no_reads {s : State} {c : CommitRun} (hrunning : s.store.running = some (.commit c))
    (hsuspended : c.suspended = false) (hreads : s.store.reads = []) : arbitrate s = s := by
  simp [arbitrate, answerHeads_of_no_reads hreads, arbitrateHead, hrunning, hsuspended, hreads]

/-! ### The restart (R180, R186) -/

theorem arrayQuiet_of_wait {s : State} (straps : Straps) (hquiet : s.transit.arrayQuiet = true)
    (hwait : s.station.restartWait = true) : arrayQuiet straps s = restartByMessage straps s := by
  simp [arrayQuiet, hquiet, hwait]

theorem restart_station (straps : Straps) (cause : RestartCause) (source : Option StationNo) (s : State) :
    RestartedStation (restart straps cause source s).station (loadingOrSetup straps.setup) straps.stn cause source :=
  ⟨rfl, rfl, rfl, rfl, rfl, rfl, rfl, rfl, rfl, rfl⟩

/-! ### The attempt that runs on (R33, log 22) -/

/-- The counters after the line's restart: the eight of the line at 0, the others as they stood (R191). -/
theorem lineRestarted_counters (s : State) (i : Fin 38) :
    (lineRestarted s).counters[i] = if i.val < 8 then 0 else s.counters[i] := by
  simp [lineRestarted]

theorem attemptWon_of_closing {s : State} {a : Attempt} (hattempt : s.line.attempt = some a)
    (hclosing : s.line.closing = true) :
    attemptWon s = lineRestarted
      { s with flags := { s.flags with demandLost := s.flags.demandLost && !isDemandMsg a.copy } } := by
  simp [attemptWon, hattempt, hclosing]

theorem attemptLost_of_closing {s : State} {a : Attempt} (hattempt : s.line.attempt = some a)
    (hclosing : s.line.closing = true) : attemptLost s = lineRestarted (count .contentionLoss s) := by
  simp [attemptLost, hattempt, hclosing]

/-- Settles O56: the wait, the request, the restart with and without an attempt on the line, and that attempt's end. -/
theorem restartMessageRestarts : Obligations.RestartMessageRestarts := by
  refine ⟨fun m s hrouted => ?_, fun s hreq => ⟨fun hidle => ?_, fun c hrunning hsuspended hreads => ?_⟩,
    fun s straps hquiet hwait hattempt => ?_, fun s straps a hquiet hwait hattempt => ?_,
    fun s a c hattempt hclosing hc => ?_, fun s r hreq hrunning => ?_⟩
  · intro gap
    have hexec : exec (.restart m) s = .next (takeRestart m gap) :=
      congrArg Host.Outcome.next (receive_routed hrouted _)
    rw [hexec]
    exact ⟨fun hopen => congrArg Host.Outcome.next (takeRestart_of_open hopen),
      fun hclosed => congrArg Host.Outcome.next (takeRestart_of_closed hclosed)⟩
  · exact congrArg Host.Outcome.next (restartRequest_of_idle hreq hidle)
  · exact congrArg Host.Outcome.next ((restartRequest_of_running hreq hrunning).trans
      (arbitrate_of_commit_no_reads (s := arrayWaits s) hrunning hsuspended hreads))
  · have hrestart := (arrayQuiet_of_wait straps hquiet hwait).trans (restartByMessage_of_no_attempt hattempt straps)
    exact ⟨_, congrArg Host.Outcome.next hrestart, restart_atRestart straps _ _ _, restart_station straps _ _ _,
      rfl, rfl⟩
  · have hrestart := (arrayQuiet_of_wait straps hquiet hwait).trans (restartByMessage_of_attempt hattempt straps)
    exact ⟨_, congrArg Host.Outcome.next hrestart, rfl, rfl,
      restart_atRestart straps .restartMessage s.station.restartSource s,
      restart_station straps .restartMessage s.station.restartSource s, rfl, rfl⟩
  · obtain rfl | rfl := hc
    · exact ⟨_, congrArg Host.Outcome.next (attemptWon_of_closing hattempt hclosing), rfl,
        fun i => lineRestarted_counters _ i⟩
    · refine ⟨_, congrArg Host.Outcome.next (attemptLost_of_closing hattempt hclosing), rfl, fun i => ?_⟩
      rw [lineRestarted_counters]
      split
      · rfl
      next hother =>
        refine setAt_getElem_ne _ _ fun hi => hother ?_
        rw [hi]
        decide
  · exact congrArg Host.Outcome.next (restartRequest_of_running hreq hrunning)

end Sys2Proof.Machine
end

section
/-! The own demand and the budget close at a frame start and at the join notice (R160 to R174). -/

namespace Sys2Proof.Machine

/-! ### A DEMAND placed (R26) -/

/-- Counted in a counter, if one is named. -/
def countOpt : Option Counter → State → State
  | some c, s => count c s
  | none, s => s

theorem replaceEntry_mem {p : TxMessage → Bool} {q : List TxEntry} (h : (q.any fun e => p e.msg) = true)
    (m : TxMessage) (onLine : Bool) : ∃ e ∈ replaceEntry p m onLine q, e.msg = m := by
  induction q generalizing onLine with
  | nil => cases h
  | cons x xs ih =>
    unfold replaceEntry
    split
    next => exact ⟨_, List.mem_cons_self, rfl⟩
    next hx =>
      obtain ⟨e, he, hm⟩ := ih (by simpa [hx] using h) false
      exact ⟨e, List.mem_cons_of_mem x he, hm⟩

theorem makeRoom_mem {p : TxMessage → Bool} {m : TxMessage} {l l' : CueLine} (h : makeRoom p m l = some l') :
    ∃ q ∈ l'.queue, q.msg = m := by
  obtain ⟨rest, -, rfl⟩ := Option.map_eq_some_iff.1 h
  exact ⟨newEntry m, by simp, rfl⟩

/-- Where a DEMAND goes and what it counts is a matter of the line alone, and it is in the queue then (R26). -/
theorem placeDemand_by_line (group : Byte) (a : Announcement) (l : CueLine) :
    ∃ (l' : CueLine) (k : Option Counter), (k = none ∨ k = some .queryDrop ∨ k = some .condTxDrop) ∧
      (∃ q ∈ l'.queue, q.msg = .demand group a) ∧
      ∀ s : State, s.line = l → placeDemand group a s = countOpt k (setLine l' s) := by
  have hjoined : ∃ q ∈ (joinTail (.demand group a) l).queue, q.msg = .demand group a :=
    ⟨newEntry (.demand group a), by simp [joinTail], rfl⟩
  cases hany : l.queue.any fun e => isDemandMsg e.msg with
  | true =>
    exact ⟨{ l with queue := replaceEntry isDemandMsg (.demand group a) (headOnLine l) l.queue }, none, .inl rfl,
      replaceEntry_mem hany _ _, fun s hs => by simp [placeDemand, hs, hany, countOpt]⟩
  | false =>
    by_cases room : l.queue.length < 4
    · exact ⟨joinTail (.demand group a) l, none, .inl rfl, hjoined,
        fun s hs => by simp [placeDemand, hs, hany, room, countOpt]⟩
    · cases hreport : makeRoom isReportMsg (.demand group a) l with
      | some l' =>
        exact ⟨l', some .queryDrop, .inr (.inl rfl), makeRoom_mem hreport,
          fun s hs => by simp [placeDemand, hs, hany, room, hreport, countOpt]⟩
      | none =>
        cases hcond : makeRoom isCondMsg (.demand group a) l with
        | some l' =>
          exact ⟨l', some .condTxDrop, .inr (.inr rfl), makeRoom_mem hcond,
            fun s hs => by simp [placeDemand, hs, hany, room, hreport, hcond, countOpt]⟩
        | none =>
          exact ⟨joinTail (.demand group a) l, none, .inl rfl, hjoined,
            fun s hs => by simp [placeDemand, hs, hany, room, hreport, hcond, countOpt]⟩

theorem countOpt_line (k : Option Counter) (s : State) : (countOpt k s).line = s.line := by cases k <;> rfl

theorem counterOf_countOpt_ne {k : Option Counter} {x : Counter} (h : k ≠ some x) (s : State) :
    counterOf (countOpt k s) x = counterOf s x := by
  cases k with
  | none => rfl
  | some c => exact counterOf_countN_ne (fun heq => h (by rw [heq])) 1 s

/-- Two states with one value of a counter have one value after the same count. -/
theorem counterOf_countOpt_congr (k : Option Counter) {x : Counter} {s t : State}
    (h : counterOf s x = counterOf t x) : counterOf (countOpt k s) x = counterOf (countOpt k t) x := by
  cases k with
  | none => exact h
  | some c =>
    by_cases hx : x = c
    · subst hx
      simp only [countOpt, count, counterOf_countN_self, h]
    · simpa only [countOpt, count, counterOf_countN_ne hx] using h

/-! ### What the own demand and the close read of a state -/

/-- `u` agrees with `s` in all that the own demand and the close read, but its current frame is `f`. -/
structure BudgetAlike (s u : State) (f : FrameNo) : Prop where
  station : u.station = s.station
  image : u.image = s.image
  line : u.line = s.line
  fade : u.fade = s.fade
  protection : u.protection = s.protection
  wall : u.wall = s.wall
  counters : u.counters = s.counters
  peers : u.budget.peers = s.budget.peers
  last : u.budget.last = s.budget.last
  frame : u.budget.frame = f

theorem forecastLevel_congr {s u : State} (hfade : u.fade = s.fade) (himage : u.image = s.image) (target : FrameNo)
    (c : Channel) : forecastLevel u target c = forecastLevel s target c := by
  have hlast : lastCovering u c = lastCovering s c := by rw [lastCovering, hfade, lastCovering]
  have hpinned : isPinned u c = isPinned s c := by rw [isPinned, himage, isPinned]
  simp only [forecastLevel, hfade, himage, hlast, hpinned]

theorem isFixed_congr {s u : State} (himage : u.image = s.image) (hprotection : u.protection = s.protection)
    (c : Channel) : isFixed u c = isFixed s c := by
  simp only [isFixed, himage, hprotection]

theorem BudgetAlike.demandOf {s u : State} {f : FrameNo} (h : BudgetAlike s u f) (target : FrameNo) (c : Channel) :
    Machine.demandOf u target c = Machine.demandOf s target c := by
  rw [Machine.demandOf, forecastLevel_congr h.fade h.image, h.image, Machine.demandOf]

theorem BudgetAlike.rawFixed {s u : State} {f : FrameNo} (h : BudgetAlike s u f) (target : FrameNo) :
    Machine.rawFixed u target = Machine.rawFixed s target := by
  rw [Machine.rawFixed, Machine.rawFixed, funext (isFixed_congr h.image h.protection), funext (h.demandOf target)]

theorem BudgetAlike.rawScalable {s u : State} {f : FrameNo} (h : BudgetAlike s u f) (target : FrameNo) :
    Machine.rawScalable u target = Machine.rawScalable s target := by
  simp only [Machine.rawScalable, isFixed_congr h.image h.protection, funext (h.demandOf target), h.wall, h.image]

theorem BudgetAlike.ownAnnouncement {s u : State} {f : FrameNo} (h : BudgetAlike s u f) (target : FrameNo) :
    Machine.ownAnnouncement u target = Machine.ownAnnouncement s target := by
  rw [Machine.ownAnnouncement, h.rawFixed, h.rawScalable, Machine.ownAnnouncement]

/-- The close reads the image, the peer table and the scale in force (R167 to R170). -/
theorem closeRecord_congr {s u : State} (himage : u.image = s.image) (hpeers : u.budget.peers = s.budget.peers)
    (hscale : u.budget.scale = s.budget.scale) (target : FrameNo) : closeRecord u target = closeRecord s target := by
  simp only [closeRecord, takenAnnouncements, groupEntries, himage, hpeers, hscale]

/-- The figures of an announcement, clamped at 65535 (R165, R166). -/
theorem ownAnnouncement_figures (s : State) (target : FrameNo) :
    (ownAnnouncement s target).x.toNat = min 65535 (rawFixed s target) ∧
      (ownAnnouncement s target).s.toNat = min 65535 (rawScalable s target) ∧
      ((ownAnnouncement s target).clamp = true ↔ 65535 < rawFixed s target ∨ 65535 < rawScalable s target) := by
  refine ⟨?_, ?_, by simp [ownAnnouncement]⟩
  all_goals
    simp only [ownAnnouncement, BitVec.toNat_ofNat]
    omega

theorem isDemandLate_iff (target : FrameNo) (b : Budget) :
    isDemandLate target b = true ↔ ∃ r ∈ b.last, target = r.target ∨ isBefore target r.target = true := by
  cases h : b.last <;> simp [isDemandLate, closedFrame, h]

/-! ### The own demand and the close (R164 to R170) -/

theorem storeAnnouncement_budget (source : StationNo) (group : Byte) (x : Announcement) (u : State) :
    (storeAnnouncement source group x u).budget = { u.budget with
      peers := setAt u.budget.peers source.toFin
        (some (entryAfter group x u.budget.frame u.budget.peers[source.toFin])) } := by
  simp [storeAnnouncement, setBudget]

/-- An announcement stored counts DEMAND_LATE when it is late, and nothing else (R162). -/
theorem counterOf_storeAnnouncement (source : StationNo) (group : Byte) (a : Announcement) (u : State) :
    (counterOf (storeAnnouncement source group a u) .demandLate =
      if isDemandLate a.target u.budget then saturatingAdd (counterOf u .demandLate) 1 else counterOf u .demandLate) ∧
      ∀ x : Counter, x ≠ .demandLate → counterOf (storeAnnouncement source group a u) x = counterOf u x := by
  unfold storeAnnouncement countIf
  split
  · exact ⟨counterOf_countN_self _ _ _, fun x hx => counterOf_countN_ne hx _ _⟩
  · exact ⟨rfl, fun _ _ => rfl⟩

/-- A peer table entry that the close of the next frame removes (R164). -/
def lostAt (u : State) (n : Fin 32) : Bool :=
  isLost u.station.number u.image.peerHold (u.budget.frame + 1) n u.budget.peers[n]

theorem agePeers_eq (u : State) : agePeers (u.budget.frame + 1) u =
    countN .peerLost ((List.finRange 32).countP (lostAt u)) (setBudget { u.budget with
      peers := Vector.ofFn fun n => if lostAt u n then none else u.budget.peers[n] } u) := by
  rw [agePeers]
  rfl

/-- The close ages the table and records the frame closed; the rest of the unit stands (R164, R167). -/
theorem closeBudget_budget (u : State) : (closeBudget u).budget = { u.budget with
    peers := Vector.ofFn fun n => if lostAt u n then none else u.budget.peers[n]
    last := some (closeRecord (agePeers (u.budget.frame + 1) u) (u.budget.frame + 1)) } := by
  simp only [closeBudget, agePeers_eq, countN_budget, setBudget]

/-- The record is the close of the table as it stands then. -/
theorem closeBudget_last (u : State) :
    (closeBudget u).budget.last = some (closeRecord (closeBudget u) (u.budget.frame + 1)) := by
  have hsame : closeRecord (closeBudget u) (u.budget.frame + 1) =
      closeRecord (agePeers (u.budget.frame + 1) u) (u.budget.frame + 1) :=
    closeRecord_congr (by simp) (by simp only [closeBudget_budget, agePeers_eq, countN_budget, setBudget])
      (by simp only [closeBudget_budget, agePeers_eq, countN_budget, setBudget]) _
  rw [hsame, closeBudget_budget]

theorem counterOf_setBudget (b : Budget) (u : State) (x : Counter) : counterOf (setBudget b u) x = counterOf u x := by
  simp only [counterOf, setBudget]

theorem counterOf_closeBudget (u : State) :
    counterOf (closeBudget u) .peerLost =
      saturatingAdd (counterOf u .peerLost) ((List.finRange 32).countP (lostAt u)) ∧
      ∀ x : Counter, x ≠ .peerLost → counterOf (closeBudget u) x = counterOf u x := by
  have hclose (x : Counter) : counterOf (closeBudget u) x = counterOf (agePeers (u.budget.frame + 1) u) x := by
    simp only [counterOf, closeBudget, setBudget]
  simp only [hclose, agePeers_eq]
  exact ⟨by rw [counterOf_countN_self, counterOf_setBudget],
    fun x hx => by rw [counterOf_countN_ne hx, counterOf_setBudget]⟩

/-- The own demand of a state that agrees with `s`: announced with the figures of `s`, then placed (R165, R166). -/
theorem BudgetAlike.generateDemand {s u : State} {f : FrameNo} (h : BudgetAlike s u f) :
    Machine.generateDemand u = placeDemand s.image.group (Machine.ownAnnouncement s (f + 2))
      (storeAnnouncement s.station.number s.image.group (Machine.ownAnnouncement s (f + 2)) u) := by
  rw [Machine.generateDemand, h.frame, h.ownAnnouncement, h.image, h.station]

/-- An entry is lost at the close for `g` when it is another's, present, and its latest target is behind `g` by more than
the peer hold (R164). -/
theorem isLost_iff (own : StationNo) (peerHold : Nat) (g : FrameNo) (n : Fin 32) (e : Option PeerEntry) :
    isLost own peerHold g n e = true ↔ n ≠ own.toFin ∧ ∃ p : PeerEntry, e = some p ∧
      isBefore (p.second.getD p.first).target g = true ∧
      peerHold < frameDistance (p.second.getD p.first).target g := by
  cases e with
  | none => simp [isLost]
  | some p =>
    rw [isLost, isAged, Bool.and_eq_true, Bool.and_eq_true, decide_eq_true_iff, decide_eq_true_iff]
    simp only [latestOf, Option.some.injEq, exists_eq_left']

/-- The table after the own demand is stored (R165). -/
theorem BudgetAlike.generateDemand_budget {s u : State} {f : FrameNo} (h : BudgetAlike s u f) :
    (Machine.generateDemand u).budget = { u.budget with
      peers := setAt s.budget.peers s.station.number.toFin
        (some (entryAfter s.image.group (Machine.ownAnnouncement s (f + 2)) f
          s.budget.peers[s.station.number.toFin])) } := by
  rw [h.generateDemand]
  simp [storeAnnouncement_budget, h.peers, h.frame]

/-- What the own demand makes of the line and the counters: DEMAND_LATE is the store's, the rest is the placing's (R26,
R162, R165). -/
theorem BudgetAlike.generateDemand_placed {s u : State} {f : FrameNo} (h : BudgetAlike s u f) :
    let a := Machine.ownAnnouncement s (f + 2)
    let t := Machine.generateDemand u
    t.line = (placeDemand s.image.group a s).line ∧ (∃ q ∈ t.line.queue, q.msg = .demand s.image.group a) ∧
      counterOf t .peerLost = counterOf s .peerLost ∧
      counterOf t .demandLate = (if isDemandLate (f + 2) s.budget then saturatingAdd (counterOf s .demandLate) 1
        else counterOf s .demandLate) ∧
      ∀ x : Counter, x ≠ .demandLate → counterOf t x = counterOf (placeDemand s.image.group a s) x := by
  intro a t
  obtain ⟨l', k, hk, hmem, hplace⟩ := placeDemand_by_line s.image.group a s.line
  let stored := storeAnnouncement s.station.number s.image.group a u
  have hstored : stored.line = s.line := by simp [stored, h.line]
  have ht : t = countOpt k (setLine l' stored) := h.generateDemand.trans (hplace stored hstored)
  have hcounters (x : Counter) : counterOf u x = counterOf s x := by rw [counterOf, h.counters, counterOf]
  have hlate : isDemandLate a.target u.budget = isDemandLate (f + 2) s.budget := by
    rw [isDemandLate, closedFrame, h.last]
    rfl
  obtain ⟨hdemand, hother⟩ := counterOf_storeAnnouncement s.station.number s.image.group a u
  have hnot (x : Counter) (hq : x ≠ .queryDrop) (hc : x ≠ .condTxDrop) : k ≠ some x := by
    rintro rfl
    simp_all
  rw [ht, hplace s rfl]
  refine ⟨by simp only [countOpt_line, setLine_line], by rw [countOpt_line, setLine_line]; exact hmem, ?_, ?_,
    fun x hx => counterOf_countOpt_congr k ((hother x hx).trans (hcounters x))⟩
  · rw [counterOf_countOpt_ne (hnot _ (by decide) (by decide))]
    exact (hother _ (by decide)).trans (hcounters _)
  · rw [counterOf_countOpt_ne (hnot _ (by decide) (by decide)), ← hlate, ← hcounters]
    exact hdemand

theorem BudgetAlike.announcedAndClosed {s u : State} {f : FrameNo} (h : BudgetAlike s u f) :
    AnnouncedAndClosed s (generateAndClose u) f := by
  have hbudget := h.generateDemand_budget
  obtain ⟨hline, -, hlost, hlate, hother⟩ := h.generateDemand_placed
  have hstation : (Machine.generateDemand u).station = s.station := by simp [h.station]
  have himage : (Machine.generateDemand u).image = s.image := by simp [h.image]
  have hframe : (Machine.generateDemand u).budget.frame = f := by rw [hbudget]; exact h.frame
  obtain ⟨hx, hs, hclamp⟩ := ownAnnouncement_figures s (f + 2)
  obtain ⟨hpeerLost, hcounters⟩ := counterOf_closeBudget (Machine.generateDemand u)
  have hpeers (n : Fin 32) : (generateAndClose u).budget.peers[n] =
      if lostAt (Machine.generateDemand u) n then none else (Machine.generateDemand u).budget.peers[n] := by
    rw [generateAndClose, closeBudget_budget]
    simp
  have hwhich (n : Fin 32) : lostAt (Machine.generateDemand u) n = true ↔ n ≠ s.station.number.toFin ∧
      ∃ p : PeerEntry, s.budget.peers[n] = some p ∧ isBefore (p.second.getD p.first).target (f + 1) = true ∧
        s.image.peerHold < frameDistance (p.second.getD p.first).target (f + 1) := by
    rw [lostAt, isLost_iff, hstation, himage, hframe, hbudget]
    refine and_congr_right fun hn => ?_
    rw [setAt_getElem_ne _ _ hn]
  refine ⟨Machine.ownAnnouncement s (f + 2), rfl, hx, hs, hclamp, ?_, ?_,
    ⟨lostAt (Machine.generateDemand u), hwhich, fun n hn => ?_, ?_⟩, ?_, ?_, fun x hpeer hdemand => ?_⟩
  · rw [← hline, generateAndClose]
    simp
  · have hown : lostAt (Machine.generateDemand u) s.station.number.toFin = false := by
      rw [← Bool.not_eq_true, hwhich]
      exact fun hboth => hboth.1 rfl
    rw [hpeers, hown, if_neg Bool.false_ne_true, hbudget]
    exact setAt_getElem_self _ _ _
  · rw [hpeers, hbudget]
    rw [setAt_getElem_ne _ _ hn]
  · rw [generateAndClose, hpeerLost, hlost]
  · rw [generateAndClose, closeBudget_last, hframe]
    refine congrArg some (closeRecord_congr (by simp [h.image]) (by dsimp only) (by dsimp only) _)
  · rw [generateAndClose, hcounters _ (by decide), hlate]
    simp only [isDemandLate_iff]
  · rw [generateAndClose, hcounters _ hpeer, hother _ hdemand]

end Sys2Proof.Machine
end

section
/-! Frame starts and the join notice at the budget unit (R160, R170 to R174). -/

namespace Sys2Proof.Machine

/-! ### What the own demand and the close leave -/

/-- The own demand and the close change the line, the budget unit and the counters alone. -/
theorem generateAndClose_eq (u : State) : generateAndClose u = { u with
    line := (generateAndClose u).line
    budget := (generateAndClose u).budget
    counters := (generateAndClose u).counters } := by
  have hkeeps := generateAndClose_keeps u
  cases h : generateAndClose u
  simp only [h] at hkeeps ⊢
  simp_all

/-- Of the budget unit they change the table and the last closed record. -/
theorem BudgetAlike.generateAndClose_budget {s u : State} {f : FrameNo} (h : BudgetAlike s u f) :
    ∃ peers, (generateAndClose u).budget = { u.budget with
      peers := peers, last := some (closeRecord (generateAndClose u) (f + 1)) } := by
  have hframe : (Machine.generateDemand u).budget.frame = f := by rw [h.generateDemand_budget]; exact h.frame
  have hlast := closeBudget_last (Machine.generateDemand u)
  rw [← generateAndClose, hframe] at hlast
  have hbudget := closeBudget_budget (Machine.generateDemand u)
  rw [← generateAndClose, h.generateDemand_budget] at hbudget
  refine ⟨(generateAndClose u).budget.peers, ?_⟩
  rw [← hlast]
  rw [hbudget]

/-- The factor of a record: the target, or one rise step above the scale in force when that is less (R169). -/
theorem closeRecord_slew (u : State) (g : FrameNo) : (closeRecord u g).target = g ∧
    (closeRecord u g).k = min (closeRecord u g).kTarget (u.budget.scale.k + u.image.riseStep) := ⟨rfl, rfl⟩

/-- The own DEMAND, for the frame after next, is in the transmit queue (R165, R166). -/
theorem BudgetAlike.demand_queued {s u : State} {f : FrameNo} (h : BudgetAlike s u f) :
    ∃ (q : TxEntry) (a : Announcement), q ∈ (generateAndClose u).line.queue ∧ q.msg = .demand s.image.group a ∧
      a.target = f + 2 := by
  obtain ⟨-, ⟨q, hq, hm⟩, -⟩ := h.generateDemand_placed
  have hline : (generateAndClose u).line = (Machine.generateDemand u).line := by simp [generateAndClose]
  exact ⟨q, Machine.ownAnnouncement s (f + 2), by rw [hline]; exact hq, hm, rfl⟩

/-! ### The scale in force (R171, R172) -/

theorem settledScale_label (f : FrameNo) (b : Budget) : (settledScale f b).label = f := by
  unfold settledScale
  split
  · split <;> rfl
  · rfl

theorem settledScale_of_due {f : FrameNo} {b : Budget} {r : BudgetRecord} (hlast : b.last = some r)
    (hdue : r.target = f) :
    settledScale f b = { label := f, k := r.k, kTarget := r.kTarget, flags := r.flags } := by
  simp [settledScale, hlast, hdue]

theorem settledScale_of_not_due {f : FrameNo} {b : Budget} {r : BudgetRecord} (hlast : b.last = some r)
    (hdue : r.target ≠ f) : settledScale f b = { b.scale with label := f } := by
  simp [settledScale, hlast, hdue]

theorem settledScale_of_none {f : FrameNo} {b : Budget} (hlast : b.last = none) :
    settledScale f b = { b.scale with label := f } := by
  simp [settledScale, hlast]

/-! ### Frame starts and the join notice -/

/-- The state with a frame start taken and its scale settled: steps 1 and 2 (R160). -/
def budgetSettled (e : FrameEvent) (es : List FrameEvent) (s : State) : State :=
  settleScale e { s with transit := { s.transit with budgetFrames := es } }

theorem budgetSettled_alike (e : FrameEvent) (es : List FrameEvent) (s : State) :
    BudgetAlike s (budgetSettled e es s) e.frame :=
  ⟨rfl, rfl, rfl, rfl, rfl, rfl, rfl, rfl, rfl, rfl⟩

theorem budgetFrameStart_of_cons {s : State} {e : FrameEvent} {es : List FrameEvent}
    (h : s.transit.budgetFrames = e :: es) : budgetFrameStart s =
      if s.budget.joined then generateAndClose (budgetSettled e es s) else budgetSettled e es s := by
  rw [budgetFrameStart, h]
  rfl

/-- The state with the join notice taken (R174). -/
def joinNoticed (s : State) : State :=
  { s with
    budget := { s.budget with joined := true }
    transit := { s.transit with joinNotice := none } }

theorem joinNoticed_alike (s : State) : BudgetAlike s (joinNoticed s) s.budget.frame :=
  ⟨rfl, rfl, rfl, rfl, rfl, rfl, rfl, rfl, rfl, rfl⟩

theorem joinNotice_of_notice {s : State} {n : Notice} (h : s.transit.joinNotice = some n) :
    joinNotice s = if n.serial ≤ s.budget.taken then generateAndClose (joinNoticed s) else joinNoticed s := by
  rw [joinNotice, h]
  rfl

theorem exec_budgetFrameStart_joined {s : State} {e : FrameEvent} {es : List FrameEvent}
    (h : s.transit.budgetFrames = e :: es) (hjoined : s.budget.joined = true) :
    exec .budgetFrameStart s = .next (generateAndClose (budgetSettled e es s)) :=
  congrArg Host.Outcome.next ((budgetFrameStart_of_cons h).trans (if_pos hjoined))

theorem exec_joinNotice_taken {s : State} {n : Notice} (h : s.transit.joinNotice = some n)
    (htaken : n.serial ≤ s.budget.taken) : exec .joinNotice s = .next (generateAndClose (joinNoticed s)) :=
  congrArg Host.Outcome.next ((joinNotice_of_notice h).trans (if_pos htaken))

/-- Settles O50: the settled scale, then the own demand and the close on a state that agrees with the first. -/
theorem budgetFrameStarts : Obligations.BudgetFrameStarts := by
  refine ⟨fun s e es hframes => ?_, fun s n hnotice => ?_, fun s e es hframes hjoined => ?_,
    fun s n hnotice htaken => ?_, fun group a s => ?_⟩
  · have hscale (r : BudgetRecord) (hlast : s.budget.last = some r) :
        (r.target = e.frame → (settledScale e.frame s.budget).k = r.k ∧
          (settledScale e.frame s.budget).kTarget = r.kTarget ∧ (settledScale e.frame s.budget).flags = r.flags) ∧
        (r.target ≠ e.frame → settledScale e.frame s.budget = { s.budget.scale with label := e.frame }) := by
      refine ⟨fun hdue => ?_, fun hdue => settledScale_of_not_due hlast hdue⟩
      rw [settledScale_of_due hlast hdue]
      exact ⟨rfl, rfl, rfl⟩
    cases hjoined : s.budget.joined with
    | false =>
      have hexec : exec .budgetFrameStart s = .next (budgetSettled e es s) :=
        congrArg Host.Outcome.next ((budgetFrameStart_of_cons hframes).trans (by rw [hjoined]; rfl))
      exact ⟨budgetSettled e es s, settledScale e.frame s.budget, hexec, rfl, rfl, settledScale_label _ _, hscale,
        settledScale_of_none, rfl, hjoined, rfl, rfl, rfl, fun _ => ⟨rfl, rfl, rfl⟩,
        fun h => absurd h (by decide)⟩
    | true =>
      have halike := budgetSettled_alike e es s
      obtain ⟨peers, hbudget⟩ := halike.generateAndClose_budget
      have hkeeps := generateAndClose_eq (budgetSettled e es s)
      have htransit : (generateAndClose (budgetSettled e es s)).transit = (budgetSettled e es s).transit := by simp
      obtain ⟨htarget, hslew⟩ := closeRecord_slew (generateAndClose (budgetSettled e es s)) (e.frame + 1)
      refine ⟨generateAndClose (budgetSettled e es s), settledScale e.frame s.budget,
        exec_budgetFrameStart_joined hframes hjoined, by rw [hbudget]; rfl, by rw [hbudget]; rfl,
        settledScale_label _ _, hscale, settledScale_of_none, by rw [hbudget]; rfl, by rw [hbudget]; exact hjoined,
        by rw [hbudget]; rfl, ?_, htransit, fun h => absurd h (by decide),
        fun _ => ⟨⟨_, by rw [hbudget], htarget, ?_⟩, halike.demand_queued⟩⟩
      · rw [htransit]
        exact hkeeps
      · rw [hslew, hbudget]
        simp [budgetSettled, settleScale]
  · intro noted
    refine ⟨fun hlater => congrArg Host.Outcome.next ((joinNotice_of_notice hnotice).trans (if_neg hlater.not_ge)),
      fun htaken => ?_⟩
    have halike := joinNoticed_alike s
    obtain ⟨peers, hbudget⟩ := halike.generateAndClose_budget
    obtain ⟨q, a, hq, hm, hnext⟩ := halike.demand_queued
    have hkeeps := generateAndClose_eq (joinNoticed s)
    refine ⟨generateAndClose (joinNoticed s), _, q, a, exec_joinNotice_taken hnotice htaken, by rw [hbudget]; rfl,
      hkeeps, by rw [hbudget]; rfl, by rw [hbudget], (closeRecord_slew _ _).1, hq, hm, hnext⟩
  · exact ⟨_, exec_budgetFrameStart_joined hframes hjoined, (budgetSettled_alike e es s).announcedAndClosed⟩
  · exact ⟨_, exec_joinNotice_taken hnotice htaken, (joinNoticed_alike s).announcedAndClosed⟩
  · exact ⟨fun before after e hfirst => placeDemand_replaces hfirst, fun hnone =>
      ⟨placeDemand_joins hnone, fun full => ⟨fun before after e hreport => placeDemand_takesReport hnone full hreport,
        fun hreport before after e hcond => placeDemand_takesCond hnone full hreport hcond⟩⟩⟩

end Sys2Proof.Machine
end

section
/-! Rules for the fields of records made of parts: absent parts, tables, mark bytes and packed codes (R194). -/

namespace Sys2Proof.Machine

/-! ### Single bytes -/

/-- A number or none (R194). -/
theorem orNone_map {α : Type} {g : α → Byte} {f : α → Nat} (hg : ∀ a, (g a).toNat = f a) (o : Option α) :
    (orNone (o.map g)).toNat = o.elim 255 f := by
  cases o with
  | none => rfl
  | some a => exact hg a

theorem byteOf_station (n : StationNo) : (byteOf n.toNat).toNat = n.toNat := byteOf_toNat_of_lt (by omega)

theorem stationOrNone_toNat (o : Option StationNo) : (stationOrNone o).toNat = o.elim 255 BitVec.toNat :=
  orNone_map byteOf_station o

theorem orNone_fin {n : Nat} (hn : n ≤ 256) (o : Option (Fin n)) :
    (orNone (o.map fun i => byteOf i.val)).toNat = o.elim 255 Fin.val :=
  orNone_map (fun i => byteOf_fin i hn) o

/-- The number that marks spell, the first in bit 0. -/
def marksNumber (marks : List Bool) : Nat := marks.foldr (fun b acc => 2 * acc + b.toNat) 0

theorem marksNumber_lt (marks : List Bool) : marksNumber marks < 2 ^ marks.length := by
  induction marks with
  | nil => exact Nat.one_pos
  | cons mark marks ih =>
    have hmark := mark.toNat_lt
    rw [marksNumber, List.foldr_cons, ← marksNumber, List.length_cons, Nat.pow_succ]
    omega

theorem marksNumber_testBit (marks : List Bool) (i : Nat) : (marksNumber marks).testBit i = marks.getD i false := by
  induction marks generalizing i with
  | nil => exact Nat.zero_testBit i
  | cons mark marks ih =>
    have hmark := mark.toNat_lt
    rw [marksNumber, List.foldr_cons, ← marksNumber]
    cases i with
    | zero =>
      have hodd : (2 * marksNumber marks + mark.toNat) % 2 = mark.toNat := by omega
      rw [Nat.testBit_zero, hodd]
      cases mark <;> rfl
    | succ i =>
      have hhalf : (2 * marksNumber marks + mark.toNat) / 2 = marksNumber marks := by omega
      rw [Nat.testBit_succ, hhalf, ih]
      rfl

theorem flagByte_toNat {marks : List Bool} (h : marks.length ≤ 8) : (flagByte marks).toNat = marksNumber marks :=
  byteOf_toNat_of_lt ((marksNumber_lt marks).trans_le (Nat.pow_le_pow_right (by decide) h))

theorem flagByte_getLsbD {marks : List Bool} (h : marks.length ≤ 8) (i : Nat) :
    (flagByte marks).getLsbD i = marks.getD i false := by
  rw [BitVec.getLsbD, flagByte_toNat h, marksNumber_testBit]

theorem flagByte_three (x y z : Bool) : (flagByte [x, y, z]).toNat = x.toNat + 2 * y.toNat + 4 * z.toNat := by
  rw [flagByte_toNat (by simp)]
  simp only [marksNumber, List.foldr]
  omega

theorem flagByte_four (x y z u : Bool) :
    (flagByte [x, y, z, u]).toNat = x.toNat + 2 * y.toNat + 4 * z.toNat + 8 * u.toNat := by
  rw [flagByte_toNat (by simp)]
  simp only [marksNumber, List.foldr]
  omega

theorem flagByte_five (x y z u v : Bool) :
    (flagByte [x, y, z, u, v]).toNat = x.toNat + 2 * y.toNat + 4 * z.toNat + 8 * u.toNat + 16 * v.toNat := by
  rw [flagByte_toNat (by simp)]
  simp only [marksNumber, List.foldr]
  omega

theorem budgetFlagsByte_toNat (f : BudgetFlags) : (budgetFlagsByte f).toNat =
    f.full.toNat + 2 * f.overLimit.toNat + 4 * f.floored.toNat + 8 * f.clamped.toNat := flagByte_four _ _ _ _

/-! ### Parts and tables -/

theorem partOrZeros_some {α : Type} (n : Nat) (f : α → List Byte) (a : α) : partOrZeros n f (some a) = f a := rfl

theorem partOrZeros_none {α : Type} (n : Nat) (f : α → List Byte) : partOrZeros n f none = List.replicate n 0 := rfl

theorem partOrZeros_length {α : Type} {n : Nat} {f : α → List Byte} (hf : ∀ a, (f a).length = n) (o : Option α) :
    (partOrZeros n f o).length = n := by
  cases o with
  | none => exact List.length_replicate
  | some a => exact hf a

/-- The fields of what stands behind the first `n` bytes. -/
theorem HoldsFrom.drop {off n : Nat} {bytes : List Byte} {fields : List (Nat × Nat × Nat)}
    (h : HoldsFrom (off + n) (bytes.drop n) fields) : HoldsFrom off bytes fields := by
  intro f hf
  obtain ⟨hoff, hvalue⟩ := h f hf
  have hsplit : n + (f.1 - (off + n)) = f.1 - off := by omega
  rw [List.drop_drop, hsplit] at hvalue
  exact ⟨by omega, hvalue⟩

theorem flatMap_length {α : Type} {n : Nat} {f : α → List Byte} (hf : ∀ a, (f a).length = n) (as : List α) :
    (as.flatMap f).length = n * as.length := by
  simp [List.length_flatMap, hf, Nat.mul_comm]

/-- In a table whose records are all of one length, record `j` starts at `j` lengths. -/
theorem drop_flatMap {α : Type} {n : Nat} {f : α → List Byte} (hf : ∀ a, (f a).length = n) {as : List α} {j : Nat}
    {a : α} (h : as[j]? = some a) : (as.flatMap f).drop (n * j) = f a ++ (as.drop (j + 1)).flatMap f := by
  have hj : j < as.length := (List.getElem?_eq_some_iff.1 h).1
  have hlen : ((as.take j).flatMap f).length = n * j := by
    rw [flatMap_length hf, List.length_take_of_le hj.le]
  have hsplit : as.drop j = a :: as.drop (j + 1) := by
    rw [List.drop_eq_getElem_cons hj, (List.getElem?_eq_some_iff.1 h).2]
  conv_lhs => rw [← List.take_append_drop j as, List.flatMap_append, List.drop_left' hlen, hsplit, List.flatMap_cons]

/-- The fields of a table's record `j`. -/
theorem HoldsFrom.flatMap {α : Type} {off n j : Nat} {f : α → List Byte} {as : List α} {a : α}
    {fields : List (Nat × Nat × Nat)} (hf : ∀ a, (f a).length = n) (ha : as[j]? = some a)
    (h : ∀ rest, HoldsFrom (off + n * j) (f a ++ rest) fields) : HoldsFrom off (as.flatMap f) fields := by
  refine HoldsFrom.drop (n := n * j) ?_
  rw [drop_flatMap hf ha]
  exact h _

/-! ### Codes and marks packed into bytes -/

theorem ofBytes_cons (b : Byte) (bs : List Byte) : ofBytes (b :: bs) = b.toNat * 256 ^ bs.length + ofBytes bs := by
  induction bs using List.reverseRecOn with
  | nil => simp [ofBytes]
  | append_singleton bs last ih =>
    simp only [ofBytes, List.foldl_append, List.foldl_cons, List.foldl_nil, List.length_append,
      List.length_singleton] at ih ⊢
    rw [ih, Nat.pow_succ]
    ring

theorem packCodes_length (n : Nat) (cs : List Byte) : (packCodes n cs).length = n := by
  induction n generalizing cs with
  | zero => rfl
  | succ n ih => rw [packCodes, List.length_cons, ih]

/-- Four 2-bit codes are the base-4 digits of their byte. -/
theorem packedByte_toNat {a b c d : Byte} (ha : a.toNat < 4) (hb : b.toNat < 4) (hc : c.toNat < 4)
    (hd : d.toNat < 4) : ((a <<< 6) ||| (b <<< 4) ||| (c <<< 2) ||| d).toNat =
      Nat.ofDigits 4 [d.toNat, c.toNat, b.toNat, a.toNat] := by
  simp only [BitVec.toNat_or, BitVec.toNat_shiftLeft]
  generalize a.toNat = a at *
  generalize b.toNat = b at *
  generalize c.toNat = c at *
  generalize d.toNat = d at *
  revert a b c d
  decide

/-- Packed codes are the base-4 digits of the number their bytes spell, the first code the highest. -/
theorem ofBytes_packCodes {n : Nat} {cs : List Byte} (hlen : cs.length = 4 * n) (hcodes : ∀ c ∈ cs, c.toNat < 4) :
    ofBytes (packCodes n cs) = Nat.ofDigits 4 (cs.map BitVec.toNat).reverse := by
  induction n generalizing cs with
  | zero =>
    obtain rfl := List.length_eq_zero_iff.1 hlen
    rfl
  | succ n ih =>
    match cs, hlen, hcodes with
    | a :: b :: c :: d :: rest, hlen, hcodes =>
      have hrest : rest.length = 4 * n := by simp only [List.length_cons] at hlen; omega
      simp only [List.mem_cons, forall_eq_or_imp] at hcodes
      obtain ⟨ha, hb, hc, hd, hcodes⟩ := hcodes
      have hreverse : ((a :: b :: c :: d :: rest).map BitVec.toNat).reverse =
          (rest.map BitVec.toNat).reverse ++ [d.toNat, c.toNat, b.toNat, a.toNat] := by simp
      have hbyte := packedByte_toNat ha hb hc hd
      have hpow : (256 : Nat) ^ n = 4 ^ (4 * n) := by rw [Nat.pow_mul]
      rw [hreverse, Nat.ofDigits_append, ← hbyte, List.length_reverse, List.length_map, hrest, ← hpow,
        ← ih hrest hcodes, packCodes, ofBytes_cons, packCodes_length, Nat.add_comm, Nat.mul_comm]
      rfl

/-- Digit `i` of a number given by its digits. -/
theorem digit_ofDigits {p : Nat} (hp : 0 < p) {digits : List Nat} (hdigits : ∀ d ∈ digits, d < p) {i d : Nat}
    (hd : digits[i]? = some d) : Nat.ofDigits p digits / p ^ i % p = d := by
  obtain ⟨hi, hget⟩ := List.getElem?_eq_some_iff.1 hd
  have hlt : d < p := hdigits d (hget ▸ List.getElem_mem hi)
  rw [Nat.ofDigits_div_pow_eq_ofDigits_drop i hp digits hdigits, List.drop_eq_getElem_cons hi, hget,
    Nat.ofDigits_cons, Nat.add_mul_mod_self_left]
  exact Nat.mod_eq_of_lt hlt

/-- Code `n` of packed codes (R194). -/
theorem code_of_packCodes {n i : Nat} {cs : List Byte} {c : Byte} (hlen : cs.length = 4 * n)
    (hcodes : ∀ c ∈ cs, c.toNat < 4) (hc : cs[i]? = some c) :
    ofBytes (packCodes n cs) / 4 ^ (4 * n - 1 - i) % 4 = c.toNat := by
  have hi : i < cs.length := (List.getElem?_eq_some_iff.1 hc).1
  have hplace : (cs.map BitVec.toNat).length - 1 - (4 * n - 1 - i) = i := by rw [List.length_map]; omega
  rw [ofBytes_packCodes hlen hcodes]
  refine digit_ofDigits (by decide) (fun d hd => ?_) ?_
  · obtain ⟨c', hc', rfl⟩ := List.mem_map.1 (List.mem_reverse.1 hd)
    exact hcodes c' hc'
  · rw [List.getElem?_reverse (by rw [List.length_map]; omega), hplace, List.getElem?_map, hc]
    rfl

theorem packMarks_length (n : Nat) (marks : List Bool) : (packMarks n marks).length = n := by
  induction n generalizing marks with
  | zero => rfl
  | succ n ih => rw [packMarks, List.length_cons, ih]

theorem packMarks_getElem? {n j : Nat} (hj : j < n) (marks : List Bool) :
    (packMarks n marks)[j]? = some (flagByte ((marks.drop (8 * j)).take 8).reverse) := by
  induction n generalizing j marks with
  | zero => omega
  | succ n ih =>
    cases j with
    | zero => rfl
    | succ j =>
      rw [packMarks, List.getElem?_cons_succ, ih (by omega), List.drop_drop]
      congr 5
      omega

/-- Mark `i` of packed marks (R194). -/
theorem mark_of_packMarks {n i : Nat} {marks : List Bool} {mark : Bool} (hlen : marks.length = 8 * n)
    (hmark : marks[i]? = some mark) : (ofBytes (packMarks n marks)).testBit (8 * n - 1 - i) = mark := by
  have hi : i < marks.length := (List.getElem?_eq_some_iff.1 hmark).1
  have hbyte : (packMarks n marks).length - 1 - (8 * n - 1 - i) / 8 = i / 8 := by rw [packMarks_length]; omega
  have hwidth : ((marks.drop (8 * (i / 8))).take 8).length = 8 := by
    rw [List.length_take, List.length_drop]
    omega
  have hplace : 8 - 1 - (8 * n - 1 - i) % 8 = i % 8 := by omega
  have hindex : 8 * (i / 8) + i % 8 = i := by omega
  rw [ofBytes_testBit (b := flagByte ((marks.drop (8 * (i / 8))).take 8).reverse) _
      (by rw [packMarks_length]; omega) (by rw [hbyte]; exact packMarks_getElem? (by omega) marks),
    flagByte_getLsbD (by rw [List.length_reverse, hwidth]), List.getD_eq_getElem?_getD,
    List.getElem?_reverse (by omega), hwidth, hplace, List.getElem?_take_of_lt (by omega), List.getElem?_drop, hindex,
    hmark]
  rfl

/-- A sum of one power of 2 for each index marked has those bits. -/
theorem testBit_sum_pow (n : Nat) (f : Fin n → Bool) :
    (List.finRange n).foldl (fun acc i => acc + (if f i then 2 ^ i.val else 0)) 0 < 2 ^ n ∧
      ∀ i : Fin n, ((List.finRange n).foldl (fun acc i => acc + (if f i then 2 ^ i.val else 0)) 0).testBit i.val =
        f i := by
  induction n with
  | zero => exact ⟨Nat.one_pos, fun i => i.elim0⟩
  | succ n ih =>
    obtain ⟨hlt, hbits⟩ := ih fun i => f i.castSucc
    simp only [List.finRange_succ_last, List.foldl_append, List.foldl_map, List.foldl_cons, List.foldl_nil,
      Fin.val_castSucc, Fin.val_last]
    generalize (List.finRange n).foldl (fun acc i => acc + if f i.castSucc then 2 ^ i.val else 0) 0 = low at *
    have hsum : low + (if f (Fin.last n) then 2 ^ n else 0) = 2 ^ n * (f (Fin.last n)).toNat + low := by
      cases f (Fin.last n) <;> simp [Nat.add_comm]
    have hmark := (f (Fin.last n)).toNat_lt
    rw [hsum]
    refine ⟨by rw [Nat.pow_succ]; nlinarith, fun i => ?_⟩
    rw [Nat.testBit_two_pow_mul_add _ hlt]
    induction i using Fin.lastCases with
    | last => cases f (Fin.last n) <;> simp
    | cast i => rw [if_pos (by exact i.isLt)]; exact hbits i

end Sys2Proof.Machine
end

section
/-! The records STATUS, BUDGET, PEER and CUES, field by field (R50, R177, R190, R195). -/

namespace Sys2Proof.Machine

/-! ### STATUS -/

theorem statusRecord_length (s : State) : (statusRecord s).length = 45 := by
  simp [statusRecord, frameBytes_length, toBytes_length]

theorem statusRecord_fields {s : State} {source check : Nat}
    (hsource : s.station.restartSource.elim 255 BitVec.toNat = source)
    (hcheck : s.station.failedCheck.elim 255 (· % 256) = check) : HoldsFields (statusRecord s) [
    (0, 1, (stationStateCode s.station.state).toNat), (1, 1, s.station.number.toNat),
    (2, 1, (restartCauseCode s.station.restartCause).toNat), (3, 1, source),
    (4, 1, (safeCauseCode s.station.safeCause).toNat), (5, 1, check),
    (6, 1, (seekOutcomeCode s.station.seekOutcome).toNat), (7, 1, s.station.framesCounted % 256),
    (8, 3, s.station.entryFrame.toNat), (11, 1, s.station.restartWait.toNat),
    (12, 1, (genlockCode s.timebase.lock).toNat), (13, 3, s.timebase.frame.toNat),
    (16, 1, s.timebase.pendingTime.isSome.toNat),
    (17, 1, s.protection.pin.toNat + 2 * s.protection.latch.toNat + 4 * (inForce s.protection).toNat),
    (18, 1, s.protection.outstanding % 256), (19, 16, s.protection.map.toNat),
    (35, 3, s.budget.scale.label.toNat), (38, 2, s.budget.scale.k % 65536),
    (40, 2, s.budget.scale.kTarget % 65536),
    (42, 1, s.budget.scale.flags.full.toNat + 2 * s.budget.scale.flags.overLimit.toNat +
      4 * s.budget.scale.flags.floored.toNat + 8 * s.budget.scale.flags.clamped.toNat),
    (43, 1, s.budget.overIndication.toNat),
    (44, 1, s.flags.demandLost.toNat + 2 * s.flags.commitFail.toNat + 4 * (flywheelIndication s).toNat +
      8 * (faultPin s).toNat + 16 * (alertPin s).toNat)] := by
  simp only [statusRecord, List.append_assoc, List.cons_append, List.nil_append]
  refine HoldsFrom.fields <| .byte rfl <| .byte (byteOf_station _) <| .byte rfl <|
    .byte ((stationOrNone_toNat _).trans hsource) <| .byte rfl <|
    .byte ((orNone_map byteOf_toNat _).trans hcheck) <| .byte rfl <| .byte (byteOf_toNat _) <| .part (spells_frame _) <| ?_
  refine .byte (markByte_toNat _) <| .byte rfl <| .part (spells_frame _) <| .byte (markByte_toNat _) <|
    .byte (flagByte_three _ _ _) <| .byte (byteOf_toNat _) <|
    .part (spells_toBytes_of_lt s.protection.map.isLt) <| ?_
  exact .part (spells_frame _) <| .part (spells_toBytes 2 _) <| .part (spells_toBytes 2 _) <|
    .byte (budgetFlagsByte_toNat _) <| .byte (markByte_toNat _) <| .byte (flagByte_five _ _ _ _ _) .nil

/-! ### BUDGET -/

theorem budgetPart_length (r : BudgetRecord) : (budgetPart r).length = 17 := by
  simp [budgetPart, frameBytes_length, toBytes_length]

theorem budgetRecord_length (s : State) : (budgetRecord s).length = 26 := by
  simp [budgetRecord, partOrZeros_length budgetPart_length, frameBytes_length, toBytes_length]

/-- The scale in force, behind the record closed last. -/
theorem budgetRecord_scale (s : State) : HoldsFields (budgetRecord s) [
    (18, 3, s.budget.scale.label.toNat), (21, 2, s.budget.scale.k % 65536),
    (23, 2, s.budget.scale.kTarget % 65536),
    (25, 1, s.budget.scale.flags.full.toNat + 2 * s.budget.scale.flags.overLimit.toNat +
      4 * s.budget.scale.flags.floored.toNat + 8 * s.budget.scale.flags.clamped.toNat)] := by
  simp only [budgetRecord, List.append_assoc]
  exact HoldsFrom.fields <| .skip (n := 1) rfl <| .skip (partOrZeros_length budgetPart_length _) <|
    .part (spells_frame _) <| .part (spells_toBytes 2 _) <| .part (spells_toBytes 2 _) <|
    .byte (budgetFlagsByte_toNat _) .nil

theorem budgetRecord_closed {s : State} {r : BudgetRecord} (h : s.budget.last = some r) :
    HoldsFields (budgetRecord s) [(0, 1, 1), (1, 3, r.target.toNat), (4, 3, r.x % 16777216),
      (7, 3, r.s % 16777216), (10, 1, r.counted % 256), (11, 1, r.stale % 256), (12, 1, r.ahead % 256),
      (13, 2, r.kTarget % 65536), (15, 2, r.k % 65536),
      (17, 1, r.flags.full.toNat + 2 * r.flags.overLimit.toNat + 4 * r.flags.floored.toNat +
        8 * r.flags.clamped.toNat)] := by
  simp only [budgetRecord, h, partOrZeros_some, budgetPart, List.append_assoc, List.cons_append, List.nil_append]
  exact HoldsFrom.fields <| .byte rfl <| .part (spells_frame _) <| .part (spells_toBytes 3 _) <|
    .part (spells_toBytes 3 _) <| .byte (byteOf_toNat _) <| .byte (byteOf_toNat _) <| .byte (byteOf_toNat _) <|
    .part (spells_toBytes 2 _) <| .part (spells_toBytes 2 _) <| .byte (budgetFlagsByte_toNat _) .nil

theorem budgetRecord_none {s : State} (h : s.budget.last = none) :
    HoldsFields (budgetRecord s) [(0, 1, 0), (1, 17, 0)] := by
  simp only [budgetRecord, h, partOrZeros_none, List.append_assoc, List.cons_append, List.nil_append]
  exact HoldsFrom.fields <| .byte rfl <| .part (spells_zeros 17) .nil

/-! ### PEER -/

theorem announcementPart_length (a : Announcement) : (announcementPart a).length = 8 := by
  simp [announcementPart, frameBytes_length, toBytes_length]

theorem peerPart_length (current : FrameNo) (e : PeerEntry) : (peerPart current e).length = 24 := by
  simp [peerPart, announcementPart_length, partOrZeros_length announcementPart_length, frameBytes_length,
    toBytes_length]

theorem peerRecord_length (i : Byte) (s : State) : (peerRecord i s).length = 26 := by
  simp [peerRecord, partOrZeros_length (peerPart_length _)]

/-- Station, group, announcements held, first announcement, arrival and age of a present entry. -/
theorem peerRecord_some {s : State} {i : Byte} {e : PeerEntry} (h : s.budget.peers[peerOfIndex i] = some e) :
    HoldsFields (peerRecord i s) [(0, 1, (peerOfIndex i).val), (1, 1, 1), (2, 1, e.group.toNat),
      (4, 3, e.first.target.toNat), (7, 2, e.first.x.toNat), (9, 2, e.first.s.toNat), (11, 1, e.first.clamp.toNat),
      (20, 3, e.lastArrival.toNat), (23, 3, frameDistance e.lastArrival s.budget.frame)] := by
  simp only [peerRecord, h, partOrZeros_some, peerPart, announcementPart, List.append_assoc, List.cons_append,
    List.nil_append]
  exact HoldsFrom.fields <| .byte (byteOf_fin _ (by decide)) <| .byte rfl <| .byte rfl <|
    .skip (part := [_]) (n := 1) rfl <|
    .part (spells_frame _) <| .part (spells_word _) <| .part (spells_word _) <| .byte (markByte_toNat _) <|
    .skip (partOrZeros_length announcementPart_length _) <| .part (spells_frame _) <|
    .last (spells_toBytes_of_lt (BitVec.isLt _))

theorem peerRecord_second {s : State} {i : Byte} {e : PeerEntry} {a : Announcement}
    (h : s.budget.peers[peerOfIndex i] = some e) (ha : e.second = some a) :
    HoldsFields (peerRecord i s) [(3, 1, 2), (12, 3, a.target.toNat), (15, 2, a.x.toNat), (17, 2, a.s.toNat),
      (19, 1, a.clamp.toNat)] := by
  simp only [peerRecord, h, ha, partOrZeros_some, peerPart, List.append_assoc, List.cons_append, List.nil_append]
  rw [announcementPart.eq_1 a]
  simp only [List.append_assoc, List.cons_append, List.nil_append]
  exact HoldsFrom.fields <| .skip (part := [_, _, _]) (n := 3) rfl <| .byte rfl <|
    .skip (announcementPart_length _) <| .part (spells_frame _) <| .part (spells_word _) <|
    .part (spells_word _) <| .byte (markByte_toNat _) .nil

theorem peerRecord_single {s : State} {i : Byte} {e : PeerEntry} (h : s.budget.peers[peerOfIndex i] = some e)
    (ha : e.second = none) : HoldsFields (peerRecord i s) [(3, 1, 1), (12, 8, 0)] := by
  simp only [peerRecord, h, ha, partOrZeros_some, partOrZeros_none, peerPart, List.append_assoc,
    List.cons_append, List.nil_append]
  exact HoldsFrom.fields <| .skip (part := [_, _, _]) (n := 3) rfl <| .byte rfl <|
    .skip (announcementPart_length _) <| .part (spells_zeros 8) .nil

theorem peerRecord_absent {s : State} {i : Byte} (h : s.budget.peers[peerOfIndex i] = none) :
    HoldsFields (peerRecord i s) [(0, 1, (peerOfIndex i).val), (1, 1, 0), (2, 24, 0)] := by
  simp only [peerRecord, h, partOrZeros_none, List.cons_append, List.nil_append]
  exact HoldsFrom.fields <| .byte (byteOf_fin _ (by decide)) <| .byte rfl <| .last (spells_zeros 24)

/-! ### CUES -/

theorem cueEntry_length (r : CueRecord) : (cueEntry r).length = 7 := by
  simp [cueEntry, frameBytes_length, toBytes_length]

theorem shownCues_length (i : Byte) (rs : List CueRecord) : (shownCues i rs).length =
    if i = 0 then min 8 rs.length else if i = 1 then min 8 (rs.length - 8) else 0 := by
  unfold shownCues
  split
  next h =>
    rw [if_pos (BitVec.eq_of_toNat_eq h), List.length_take]
  next h =>
    obtain rfl : i = 1 := BitVec.eq_of_toNat_eq h
    rw [if_neg (by decide), if_pos rfl, List.length_take, List.length_drop]
  next hzero hone =>
    rw [if_neg (fun h => hzero (congrArg BitVec.toNat h)), if_neg (fun h => hone (congrArg BitVec.toNat h))]
    rfl

theorem cuesRecord_length (i : Byte) (s : State) : (cuesRecord i s).length =
    5 + 7 * (if i = 0 then min 8 s.cues.records.length
      else if i = 1 then min 8 (s.cues.records.length - 8) else 0) := by
  rw [← shownCues_length, cuesRecord, List.length_append, flatMap_length cueEntry_length, List.length_append,
    frameBytes_length]
  rfl

theorem cuesRecord_header (i : Byte) {s : State} {mode : Nat} (hmode : (takeModeCode s.cues.mode).toNat = mode) :
    HoldsFields (cuesRecord i s) [(0, 3, s.cues.frame.toNat), (3, 1, mode), (4, 1, s.cues.records.length % 256)] := by
  simp only [cuesRecord, List.append_assoc, List.cons_append, List.nil_append]
  exact HoldsFrom.fields <| .part (spells_frame _) <| .byte hmode <| .byte (byteOf_toNat _) .nil

theorem shownCues_getElem? {i : Byte} {rs : List CueRecord} {j : Nat} {r : CueRecord} (hj : j < 8)
    (h : (i = 0 ∧ rs[j]? = some r) ∨ (i = 1 ∧ rs[8 + j]? = some r)) : (shownCues i rs)[j]? = some r := by
  obtain ⟨rfl, hr⟩ | ⟨rfl, hr⟩ := h
  · exact (List.getElem?_take_of_lt hj).trans hr
  · exact (List.getElem?_take_of_lt hj).trans (List.getElem?_drop.trans hr)

/-- The source of a cue with the late mark in bit 7. -/
theorem sourceByte_toNat (r : CueRecord) :
    (byteOf (r.ident.source.toNat + 128 * r.late.toNat)).toNat = r.ident.source.toNat + 128 * r.late.toNat :=
  byteOf_toNat_of_lt (by have := r.late.toNat_lt; omega)

theorem cuesRecord_entry {i : Byte} {s : State} {j : Nat} {r : CueRecord} {code : Nat}
    (h : (shownCues i s.cues.records)[j]? = some r) (hcode : (cueActionCode r.action).toNat = code) :
    HoldsFields (cuesRecord i s) [(5 + 7 * j, 1, r.ident.source.toNat + 128 * r.late.toNat),
      (6 + 7 * j, 2, r.ident.id.toNat), (8 + 7 * j, 3, r.target.toNat),
      (11 + 7 * j, 1, code)] := by
  rw [show 6 + 7 * j = 5 + 7 * j + 1 by omega, show 8 + 7 * j = 5 + 7 * j + 3 by omega,
    show 11 + 7 * j = 5 + 7 * j + 6 by omega]
  refine HoldsFrom.fields <| .skip (n := 5) ?_ <| .flatMap cueEntry_length h fun rest => ?_
  · rw [List.length_append, frameBytes_length]
    rfl
  · simp only [cueEntry, List.append_assoc, List.cons_append, List.nil_append]
    exact .byte (sourceByte_toNat r) <| .part (spells_word _) <| .part (spells_frame _) <| .byte hcode .nil

end Sys2Proof.Machine
end

section
/-! The records LOOK, DIRECTORY and COUNTERS, field by field (R72, R121, R192, R195). -/

namespace Sys2Proof.Machine

/-! ### Records in parts, by index -/

theorem lookRecord_of_other {i : Byte} (h1 : i ≠ 1) (h2 : i ≠ 2) (h3 : i ≠ 3) (s : State) :
    lookRecord i s = lookSummary s := by
  unfold lookRecord
  split
  next h => exact absurd (BitVec.eq_of_toNat_eq h) h1
  next h => exact absurd (BitVec.eq_of_toNat_eq h) h2
  next h => exact absurd (BitVec.eq_of_toNat_eq h) h3
  next => rfl

theorem directoryRecord_of_other {i : Byte} (h1 : i ≠ 1) (h2 : i ≠ 2) (h3 : i ≠ 3) (s : State) :
    directoryRecord i s = directoryStates s := by
  unfold directoryRecord
  split
  next h => exact absurd (BitVec.eq_of_toNat_eq h) h1
  next h => exact absurd (BitVec.eq_of_toNat_eq h) h2
  next h => exact absurd (BitVec.eq_of_toNat_eq h) h3
  next => rfl

/-! ### LOOK -/

theorem lookSummary_length (s : State) : (lookSummary s).length = 14 := by
  simp [lookSummary, frameBytes_length, toBytes_length]

theorem stampEntry_length (e : ConditionEntry) : (stampEntry e).length = 5 := by
  simp [stampEntry, toBytes_length]

theorem lookStamps_length {part : Nat} (h : part ≤ 2) (s : State) : (lookStamps part s).length = 40 := by
  rw [lookStamps, flatMap_length stampEntry_length, List.length_take, List.length_drop, Vector.length_toList]
  omega

theorem lookRecord_length (i : Byte) (s : State) :
    (lookRecord i s).length = if i = 1 ∨ i = 2 ∨ i = 3 then 40 else 14 := by
  split
  next h =>
    obtain rfl | rfl | rfl := h
    · exact lookStamps_length (by decide) s
    · exact lookStamps_length (by decide) s
    · exact lookStamps_length (by decide) s
  next h =>
    simp only [not_or] at h
    obtain ⟨h1, h2, h3⟩ := h
    rw [lookRecord_of_other h1 h2 h3, lookSummary_length]

theorem entryCauseCode_arc (k : Nat) : (entryCauseCode (.arc k)).toNat = k % 256 := byteOf_toNat k

theorem lookSummary_fields {s : State} {look cause : Nat} (hlook : s.look.current.elim 255 Fin.val = look)
    (hcause : (entryCauseCode s.look.entryCause).toNat = cause) :
    HoldsFields (lookSummary s) [
    (0, 1, look), (1, 1, s.look.entered.toNat), (2, 1, s.look.dwell % 256),
    (3, 3, s.look.entryFrame.toNat), (6, 1, cause),
    (7, 4, s.conditions.stamps.toNat)] := by
  simp only [lookSummary, List.append_assoc, List.cons_append, List.nil_append]
  exact HoldsFrom.fields <| .byte ((orNone_fin (by decide) _).trans hlook) <| .byte (markByte_toNat _) <|
    .byte (byteOf_toNat _) <| .part (spells_frame _) <| .byte hcause <|
    .part (spells_toBytes_of_lt s.conditions.stamps.isLt) .nil

/-- The value of a condition is its bit of the last three bytes. -/
theorem lookSummary_value (s : State) (c : ConditionNo) :
    (ofBytes ((lookSummary s).drop 11)).testBit c.val = s.conditions.entries[c].value := by
  obtain ⟨hlt, hbits⟩ := testBit_sum_pow 24 fun n : ConditionNo => s.conditions.entries[n].value
  rw [lookSummary, List.drop_left' (by simp [frameBytes_length, toBytes_length]),
    (spells_toBytes_of_lt hlt : Spells (toBytes 3 (conditionValues s.conditions)) 3 _).value]
  exact hbits c

/-- Stamp and source of a condition, in its part. -/
theorem lookStamps_fields {s : State} {part source : Nat} {j : Fin 8} {c : ConditionNo}
    (hc : c.val = 8 * part + j.val) (hsource : s.conditions.entries[c].source.elim 255 BitVec.toNat = source) :
    HoldsFields (lookStamps part s) [(5 * j.val, 4, s.conditions.entries[c].stamp.toNat),
      (5 * j.val + 4, 1, source)] := by
  have hentry : ((s.conditions.entries.toList.drop (8 * part)).take 8)[j.val]? = some s.conditions.entries[c] := by
    rw [List.getElem?_take_of_lt j.isLt, List.getElem?_drop, ← hc]
    simp
  refine HoldsFrom.fields <| .flatMap stampEntry_length hentry fun rest => ?_
  rw [Nat.zero_add, stampEntry, List.append_assoc]
  exact .part (spells_toBytes_of_lt (BitVec.isLt _)) <| .byte ((stationOrNone_toNat _).trans hsource) .nil

/-- A part of the stamps, by its index. -/
theorem lookRecord_of_part {i : Byte} (hlow : 1 ≤ i.toNat) (hhigh : i.toNat ≤ 3) (s : State) :
    lookRecord i s = lookStamps (i.toNat - 1) s := by
  have hpart : i = 1 ∨ i = 2 ∨ i = 3 := by bv_omega
  obtain rfl | rfl | rfl := hpart
  · rfl
  · rfl
  · rfl

/-! ### DIRECTORY: entries and attributes -/

theorem entryStateCode_lt (e : EntryState) : (entryStateCode e).toNat < 4 := by cases e <;> decide

theorem directoryStates_length (s : State) : (directoryStates s).length = 18 := by
  simp [directoryStates, packCodes_length]

theorem directoryStates_code (s : State) (n : Fin 64) :
    ofBytes ((directoryStates s).take 16) / 4 ^ (63 - n.val) % 4 =
      (entryStateCode s.store.directory[n].state).toNat := by
  rw [directoryStates, List.take_left' (packCodes_length 16 _)]
  refine code_of_packCodes (n := 16) (i := n.val) (by simp) (fun c hc => ?_) (by simp)
  obtain ⟨e, -, rfl⟩ := List.mem_map.1 hc
  exact entryStateCode_lt e.state

theorem journalCode_preset (n : Fin 64) : (journalCode (some (.preset n))).toNat = n.val :=
  byteOf_fin n (by decide)

theorem directoryStates_fields {s : State} {page : Nat} (hpage : (journalCode s.flash.journal).toNat = page) :
    HoldsFields (directoryStates s) [(16, 1, (entryStateCode s.store.mapEntry).toNat), (17, 1, page)] :=
  HoldsFrom.fields <| .skip (packCodes_length 16 _) <| .byte rfl <| .byte hpage .nil

theorem directoryAirSafe_mark (s : State) (n : Fin 64) :
    (ofBytes (directoryAirSafe s)).testBit (63 - n.val) = s.store.directory[n].airSafe :=
  mark_of_packMarks (n := 8) (i := n.val) (by simp) (by simp)

/-! ### DIRECTORY: buffers and operations -/

theorem operationSlot_length (op : ArrayOp) : (operationSlot op).length = 3 := by cases op <;> rfl

theorem operationSlots_succ (n : Nat) (ops : List ArrayOp) :
    operationSlots (n + 1) ops = partOrZeros 3 operationSlot ops[0]? ++ operationSlots n (ops.drop 1) := by
  cases ops <;> rfl

theorem operationSlots_length (n : Nat) (ops : List ArrayOp) : (operationSlots n ops).length = 3 * n := by
  induction n generalizing ops with
  | zero => rfl
  | succ n ih =>
    rw [operationSlots_succ, List.length_append, partOrZeros_length operationSlot_length, ih]
    omega

theorem drop_operationSlots {n j : Nat} (hj : j < n) (ops : List ArrayOp) :
    ∃ rest, (operationSlots n ops).drop (3 * j) = partOrZeros 3 operationSlot ops[j]? ++ rest := by
  induction n generalizing j ops with
  | zero => omega
  | succ n ih =>
    cases j with
    | zero => exact ⟨_, operationSlots_succ n ops⟩
    | succ j =>
      obtain ⟨rest, hrest⟩ := ih (j := j) (by omega) (ops.drop 1)
      rw [List.getElem?_drop, Nat.add_comm 1 j] at hrest
      refine ⟨rest, ?_⟩
      rw [operationSlots_succ, Nat.mul_succ, Nat.add_comm, ← List.drop_drop,
        List.drop_left' (partOrZeros_length operationSlot_length _), hrest]

theorem bufferPart_length (b : StagingBuffer) : (bufferPart b).length = 3 := rfl

theorem directoryQueues_length (s : State) : (directoryQueues s).length = 20 := by
  simp [directoryQueues, bufferPart_length, operationSlots_length]

theorem directoryQueues_fields {s : State} {targetA targetB : Nat}
    (htargetA : s.store.bufferA.target.elim 255 Fin.val = targetA)
    (htargetB : s.store.bufferB.target.elim 255 Fin.val = targetB) : HoldsFields (directoryQueues s) [
    (0, 1, (bufferStateCode s.store.bufferA.state).toNat), (1, 1, targetA),
    (2, 1, (writePointCode s.store.bufferA.writePoint).toNat),
    (3, 1, (bufferStateCode s.store.bufferB.state).toNat), (4, 1, targetB),
    (5, 1, (writePointCode s.store.bufferB.writePoint).toNat),
    (6, 1, s.store.ops.length % 256), (19, 1, s.store.reads.length % 256)] := by
  simp only [directoryQueues, bufferPart, List.cons_append, List.nil_append]
  exact HoldsFrom.fields <| .byte rfl <| .byte ((orNone_fin (by decide) _).trans htargetA) <| .byte rfl <| .byte rfl <|
    .byte ((orNone_fin (by decide) _).trans htargetB) <| .byte rfl <| .byte (byteOf_toNat _) <|
    .skip (operationSlots_length 4 _) <| .byte (byteOf_toNat _) .nil

/-- The fields of a slot stand at its place, whatever follows it. -/
theorem directoryQueues_slot {s : State} {j : Fin 4} {slot : Option ArrayOp} {fields : List (Nat × Nat × Nat)}
    (hslot : s.store.ops[j.val]? = slot)
    (h : ∀ rest, HoldsFrom (7 + 3 * j.val) (partOrZeros 3 operationSlot slot ++ rest) fields) :
    HoldsFields (directoryQueues s) fields := by
  obtain ⟨rest, hrest⟩ := drop_operationSlots j.isLt s.store.ops
  have hslots : HoldsFrom 7 (operationSlots 4 s.store.ops ++ [byteOf s.store.reads.length]) fields := by
    refine HoldsFrom.drop (n := 3 * j.val) ?_
    rw [List.drop_append_of_le_length (by rw [operationSlots_length]; omega), hrest, hslot, List.append_assoc]
    exact h _
  refine HoldsFrom.fields ?_
  rw [directoryQueues, List.append_assoc]
  exact .skip (n := 7) rfl hslots

theorem directoryQueues_commit {s : State} {j : Fin 4} {buffer : BufferName} {n : Fin 64}
    (h : s.store.ops[j.val]? = some (.commit buffer n)) : HoldsFields (directoryQueues s)
      [(7 + 3 * j.val, 1, 1), (8 + 3 * j.val, 1, (bufferCode buffer).toNat), (9 + 3 * j.val, 1, n.val)] := by
  rw [show 8 + 3 * j.val = 7 + 3 * j.val + 1 by omega, show 9 + 3 * j.val = 7 + 3 * j.val + 1 + 1 by omega]
  exact directoryQueues_slot h fun rest => .byte rfl <| .byte rfl <| .byte (byteOf_fin n (by decide)) .nil

theorem directoryQueues_mapErase {s : State} {j : Fin 4} (h : s.store.ops[j.val]? = some .mapErase) :
    HoldsFields (directoryQueues s) [(7 + 3 * j.val, 1, 2), (8 + 3 * j.val, 2, 0)] := by
  rw [show 8 + 3 * j.val = 7 + 3 * j.val + 1 by omega]
  exact directoryQueues_slot h fun rest => .byte rfl <| .part (spells_zeros 2) .nil

theorem directoryQueues_mapProgram {s : State} {j : Fin 4} {first : Channel} {mask : BitVec 32}
    (h : s.store.ops[j.val]? = some (.mapProgram first mask)) : HoldsFields (directoryQueues s)
      [(7 + 3 * j.val, 1, 3), (8 + 3 * j.val, 1, 0), (9 + 3 * j.val, 1, first.val)] := by
  rw [show 8 + 3 * j.val = 7 + 3 * j.val + 1 by omega, show 9 + 3 * j.val = 7 + 3 * j.val + 1 + 1 by omega]
  exact directoryQueues_slot h fun rest => .byte rfl <| .byte rfl <| .byte (byteOf_fin first (by decide)) .nil

theorem directoryQueues_empty {s : State} {j : Fin 4} (h : s.store.ops[j.val]? = none) :
    HoldsFields (directoryQueues s) [(7 + 3 * j.val, 3, 0)] := by
  exact directoryQueues_slot h fun rest => .part (spells_zeros 3) .nil

theorem runningPart_length (r : Option Running) : (runningPart r).length = 6 := by
  match r with
  | none => rfl
  | some (.commit _) => rfl
  | some .mapErase => rfl
  | some (.mapProgram _ _) => rfl

theorem directoryRunning_length (s : State) : (directoryRunning s).length = 7 := by
  rw [directoryRunning, List.length_append, runningPart_length]
  rfl

theorem directoryRunning_wait (s : State) : HoldsFields (directoryRunning s) [(6, 1, s.store.restartWait.toNat)] :=
  HoldsFrom.fields <| .skip (runningPart_length _) <| .byte (markByte_toNat _) .nil

theorem directoryRunning_commit {s : State} {c : CommitRun} (h : s.store.running = some (.commit c)) :
    HoldsFields (directoryRunning s) [(0, 1, 1), (1, 1, (bufferCode c.buffer).toNat), (2, 1, c.preset.val),
      (3, 1, (commitPhaseCode c.phase).toNat), (4, 1, c.suspended.toNat), (5, 1, c.suspends % 256)] := by
  rw [directoryRunning, h]
  exact HoldsFrom.fields <| .byte rfl <| .byte rfl <| .byte (byteOf_fin _ (by decide)) <| .byte rfl <|
    .byte (markByte_toNat _) <| .byte (byteOf_toNat _) .nil

/-- Any other operation, and none: its kind, no buffer, no preset and no phase (R195). -/
theorem directoryRunning_other {s : State} {kind : Byte}
    (h : runningPart s.store.running = [kind, 0, noneByte, 0, 0, 0]) :
    HoldsFields (directoryRunning s) [(0, 1, kind.toNat), (1, 1, 0), (2, 1, 255), (3, 3, 0)] := by
  rw [directoryRunning, h]
  exact HoldsFrom.fields <| .byte rfl <| .byte rfl <| .byte rfl <| .part (spells_zeros 3) .nil

theorem directoryRecord_length (i : Byte) (s : State) : (directoryRecord i s).length =
    if i = 1 then 20 else if i = 2 then 7 else if i = 3 then 8 else 18 := by
  split
  next h => rw [h]; exact directoryQueues_length s
  next h1 =>
    split
    next h => rw [h]; exact directoryRunning_length s
    next h2 =>
      split
      next h => rw [h]; exact packMarks_length 8 _
      next h3 => rw [directoryRecord_of_other h1 h2 h3, directoryStates_length]

/-! ### COUNTERS -/

/-- The counters that an index shows, from its first. -/
theorem countersRecord_eq (i : Byte) (s : State) : countersRecord i s =
    ((s.counters.toList.drop (if i = 1 then 19 else 0)).take 19).flatMap fun c => toBytes 2 c.toNat := by
  unfold countersRecord
  split
  · rw [List.take_of_length_le (by simp)]
  · rfl

theorem countersRecord_length (i : Byte) (s : State) : (countersRecord i s).length = 38 := by
  rw [countersRecord_eq, flatMap_length (fun c : BitVec 16 => toBytes_length 2 c.toNat), List.length_take,
    List.length_drop, Vector.length_toList]
  split <;> rfl

theorem countersRecord_counter {i : Byte} {s : State} {j : Fin 19} {n : Fin 38}
    (hn : n.val = (if i = 1 then 19 else 0) + j.val) :
    HoldsFields (countersRecord i s) [(2 * j.val, 2, s.counters[n].toNat)] := by
  have hcounter : ((s.counters.toList.drop (if i = 1 then 19 else 0)).take 19)[j.val]? = some s.counters[n] := by
    rw [List.getElem?_take_of_lt j.isLt, List.getElem?_drop, ← hn]
    simp
  rw [countersRecord_eq]
  refine HoldsFrom.fields <| .flatMap (fun c => toBytes_length 2 c.toNat) hcounter fun rest => ?_
  rw [Nat.zero_add]
  exact .part (spells_word _) .nil

end Sys2Proof.Machine
end

section
/-! The records CHANNEL and WALL, field by field (R96, R157, R195). -/

namespace Sys2Proof.Machine

/-! ### CHANNEL: parts -/

/-- The fields of a fade source; the bytes that a kind does not use are 0 (R194, log 40). -/
def sourceFields (off : Nat) : FadeSource → List (Nat × Nat × Nat)
  | .cue k => [(off, 1, 0), (off + 1, 1, k.source.toNat), (off + 2, 2, k.id.toNat)]
  | .look l => [(off, 1, 1), (off + 1, 1, l.val), (off + 2, 2, 0)]
  | .start => [(off, 1, 2), (off + 1, 3, 0)]

theorem sourcePart_fields (off : Nat) (q : FadeSource) (rest : List Byte) :
    HoldsFrom off (sourcePart q ++ rest) (sourceFields off q) := by
  cases q with
  | cue k => exact .byte rfl <| .byte (byteOf_station _) <| .part (spells_word k.id) .nil
  | look l => exact .byte rfl <| .byte (byteOf_fin l (by decide)) <| .part (spells_zeros 2) .nil
  | start => exact .byte rfl <| .part (spells_zeros 3) .nil

theorem sourcePart_length (q : FadeSource) : (sourcePart q).length = 4 := by cases q <;> rfl

theorem fadePart_length (f : Fade) : (fadePart f).length = 16 := by
  simp [fadePart, frameBytes_length, toBytes_length, sourcePart_length]

theorem fadePart_fields (off : Nat) (f : Fade) (rest : List Byte) : HoldsFrom off (fadePart f ++ rest)
    ((off, 2, f.start.toNat) :: (off + 2, 2, f.target.toNat) :: (off + 4, 2, f.total.toNat) ::
      (off + 6, 3, f.frame.toNat) :: (off + 9, 2, f.steps % 65536) :: (off + 11, 1, f.airSafe.toNat) ::
      sourceFields (off + 12) f.source) := by
  simp only [fadePart, List.append_assoc, List.cons_append, List.nil_append]
  exact .part (spells_word _) <| .part (spells_word _) <| .part (spells_word _) <| .part (spells_frame _) <|
    .part (spells_toBytes 2 _) <| .byte (markByte_toNat _) <| sourcePart_fields _ _ _

theorem requestPart_length (c : Channel) (r : RequestRecord) : (requestPart c r).length = 13 := by
  simp [requestPart, frameBytes_length, toBytes_length, sourcePart_length]

theorem requestPart_fields (off : Nat) (c : Channel) (r : RequestRecord) (rest : List Byte) :
    HoldsFrom off (requestPart c r ++ rest)
      ((off, 1, r.req.preset.toNat) :: (off + 1, 1, (phaseCode r.phase).toNat) :: (off + 2, 3, r.req.frame.toNat) ::
        (off + 5, 2, r.req.total.toNat) :: (off + 7, 2, (requestTarget r c).toNat) ::
        sourceFields (off + 9) r.req.source) := by
  simp only [requestPart, List.append_assoc, List.cons_append, List.nil_append]
  exact .byte rfl <| .byte rfl <| .part (spells_frame _) <| .part (spells_word _) <| .part (spells_word _) <|
    sourcePart_fields _ _ _

theorem requestTarget_of_content {r : RequestRecord} {x : Content} (h : r.content = some x) (c : Channel) :
    requestTarget r c = x.levels[c] := by
  rw [requestTarget, h]

/-! ### CHANNEL: which request covers the channel -/

/-- A READY or DEFERRED request of a preset with the channel in its mask (R75, R96). -/
def Covering (c : Channel) (r : RequestRecord) : Prop :=
  r.phase ≠ .reading ∧ ∃ x, r.content = some x ∧ x.mask.getLsbD c.val = true

theorem covers_iff (r : RequestRecord) (c : Channel) :
    covers r c = true ↔ ∃ x, r.content = some x ∧ x.mask.getLsbD c.val = true := by
  unfold covers
  cases r.content <;> simp

theorem covering_iff (c : Channel) (r : RequestRecord) :
    ((r.phase != .reading) && covers r c) = true ↔ Covering c r := by
  rw [Bool.and_eq_true, covers_iff, bne_iff_ne, Covering]

theorem lastCovering_of_last {s : State} {c : Channel} {before after : List RequestRecord} {r : RequestRecord}
    (h : s.fade.requests = before ++ r :: after) (hr : Covering c r) (hafter : ∀ z ∈ after, ¬ Covering c z) :
    lastCovering s c = some r := by
  have hnone : after.filter (fun r => (r.phase != .reading) && covers r c) = [] :=
    List.filter_eq_nil_iff.2 fun z hz hcovering => hafter z hz ((covering_iff c z).1 hcovering)
  rw [lastCovering, h, List.filter_append, List.filter_cons, if_pos ((covering_iff c r).2 hr), hnone]
  exact List.getLast?_concat

theorem lastCovering_none {s : State} {c : Channel} (h : ∀ r ∈ s.fade.requests, ¬ Covering c r) :
    lastCovering s c = none := by
  have hnone : s.fade.requests.filter (fun r => (r.phase != .reading) && covers r c) = [] :=
    List.filter_eq_nil_iff.2 fun r hr hcovering => h r hr ((covering_iff c r).1 hcovering)
  rw [lastCovering, hnone]
  rfl

/-- A DEFERRED request that covers the channel. -/
theorem deferredCovers_iff (r : RequestRecord) (c : Channel) :
    ((r.phase == .deferred) && covers r c) = true ↔ r.phase = .deferred ∧ Covering c r := by
  rw [Bool.and_eq_true, beq_iff_eq, covers_iff, Covering]
  constructor
  · rintro ⟨hphase, hcontent⟩
    exact ⟨hphase, by rw [hphase]; decide, hcontent⟩
  · rintro ⟨hphase, -, hcontent⟩
    exact ⟨hphase, hcontent⟩

theorem fadeStateCode_of_deferred {s : State} {c : Channel}
    (h : ∃ r ∈ s.fade.requests, r.phase = .deferred ∧ Covering c r) : fadeStateCode s c = 2 := by
  obtain ⟨r, hr, hdeferred⟩ := h
  exact if_pos (List.any_eq_true.2 ⟨r, hr, (deferredCovers_iff r c).2 hdeferred⟩)

theorem fadeStateCode_of_none {s : State} {c : Channel}
    (h : ∀ r ∈ s.fade.requests, r.phase = .deferred → ¬ Covering c r) :
    (fadeStateCode s c).toNat = s.fade.channels[c].fade.isSome.toNat := by
  have hnone : ¬ s.fade.requests.any (fun r => (r.phase == .deferred) && covers r c) = true := by
    rintro hany
    obtain ⟨r, hr, hdeferred⟩ := List.any_eq_true.1 hany
    obtain ⟨hphase, hcovering⟩ := (deferredCovers_iff r c).1 hdeferred
    exact h r hr hphase hcovering
  rw [fadeStateCode, if_neg hnone]
  cases s.fade.channels[c].fade <;> rfl

/-! ### CHANNEL: the record -/

/-- Channel number, class, rated load, pinned level and level: the first 7 bytes. -/
def channelHead (s : State) (c : Channel) : List Byte :=
  byteOf c.val :: classCode s.image.channels[c].cls :: s.image.channels[c].rated ::
    (toBytes 2 s.image.channels[c].pinned.toNat ++ toBytes 2 s.fade.channels[c].level.toNat)

/-- A part behind the byte that says whether it is present. -/
def markedPart {α : Type} (n : Nat) (f : α → List Byte) (o : Option α) : List Byte :=
  markByte o.isSome :: partOrZeros n f o

theorem channelHead_length (s : State) (c : Channel) : (channelHead s c).length = 7 := by
  simp [channelHead, toBytes_length]

theorem markedPart_length {α : Type} {n : Nat} {f : α → List Byte} (hf : ∀ a, (f a).length = n) (o : Option α) :
    (markedPart n f o).length = n + 1 := by
  rw [markedPart, List.length_cons, partOrZeros_length hf]

/-- An absent part is bytes of 0, its mark with it. -/
theorem markedPart_none {α : Type} (off n : Nat) (f : α → List Byte) (rest : List Byte) :
    HoldsFrom off (markedPart n f none ++ rest) [(off, n + 1, 0)] :=
  .part (spells_zeros (n + 1)) .nil

/-- A level in 2 bytes. -/
def levelBytes (o : Level) : List Byte := toBytes 2 o.toNat

theorem levelBytes_length (o : Level) : (levelBytes o).length = 2 := toBytes_length 2 _

theorem channelRecord_eq (i : Byte) (s : State) {c : Channel} (hc : c = channelMod i.toNat) :
    channelRecord i s = channelHead s c ++ (markedPart 2 levelBytes s.fade.channels[c].lastOut ++
      (fadeStateCode s c :: (markedPart 16 fadePart s.fade.channels[c].fade ++
        markedPart 13 (requestPart c) (lastCovering s c)))) := by
  subst hc
  simp only [channelRecord, channelHead, markedPart, List.append_assoc, List.cons_append, List.nil_append]
  rfl

theorem channelRecord_length (i : Byte) (s : State) : (channelRecord i s).length = 42 := by
  simp [channelRecord_eq i s rfl, channelHead_length, markedPart_length levelBytes_length,
    markedPart_length fadePart_length, markedPart_length (requestPart_length _)]

section
variable (i : Byte) (s : State) {c : Channel} (hc : c = channelMod i.toNat)
include hc

theorem channelRecord_head : HoldsFields (channelRecord i s) [(0, 1, c.val),
    (1, 1, (classCode s.image.channels[c].cls).toNat), (2, 1, s.image.channels[c].rated.toNat),
    (3, 2, s.image.channels[c].pinned.toNat), (5, 2, s.fade.channels[c].level.toNat)] := by
  simp only [channelRecord_eq i s hc, channelHead, List.append_assoc, List.cons_append]
  exact HoldsFrom.fields <| .byte (byteOf_fin _ (by decide)) <| .byte rfl <| .byte rfl <| .part (spells_word _) <|
    .part (spells_word _) .nil

/-- Fields of the last level put out, in bytes 7 to 9. -/
theorem channelRecord_lastOut {fields : List (Nat × Nat × Nat)}
    (h : ∀ rest, HoldsFrom 7 (markedPart 2 levelBytes s.fade.channels[c].lastOut ++ rest) fields) :
    HoldsFields (channelRecord i s) fields := by
  rw [channelRecord_eq i s hc]
  exact (HoldsFrom.skip (channelHead_length s c) (h _)).fields

theorem channelRecord_state {v : Nat} (h : (fadeStateCode s c).toNat = v) :
    HoldsFields (channelRecord i s) [(10, 1, v)] := by
  rw [channelRecord_eq i s hc]
  exact HoldsFrom.fields <| .skip (channelHead_length s c) <| .skip (markedPart_length levelBytes_length _) <|
    .byte h .nil

/-- Fields of the running fade, in bytes 11 to 27. -/
theorem channelRecord_fade {fields : List (Nat × Nat × Nat)}
    (h : ∀ rest, HoldsFrom 11 (markedPart 16 fadePart s.fade.channels[c].fade ++ rest) fields) :
    HoldsFields (channelRecord i s) fields := by
  rw [channelRecord_eq i s hc]
  exact HoldsFrom.fields <| .skip (channelHead_length s c) <| .skip (markedPart_length levelBytes_length _) <|
    .skip (part := [_]) rfl <| h _

/-- Fields of the last covering request, in bytes 28 to 41. -/
theorem channelRecord_request {fields : List (Nat × Nat × Nat)}
    (h : ∀ rest, HoldsFrom 28 (markedPart 13 (requestPart c) (lastCovering s c) ++ rest) fields) :
    HoldsFields (channelRecord i s) fields := by
  have hpart := h []
  rw [List.append_nil] at hpart
  rw [channelRecord_eq i s hc]
  exact HoldsFrom.fields <| .skip (channelHead_length s c) <| .skip (markedPart_length levelBytes_length _) <|
    .skip (part := [_]) rfl <| .skip (markedPart_length fadePart_length _) hpart

end

/-! ### WALL -/

theorem muteLabel_length (r : MuteRequest) : (frameBytes r.label).length = 3 := frameBytes_length r.label

theorem wallState_length (w : WallFeed) : (wallState w).length = 31 := by
  simp [wallState, partOrZeros_length muteLabel_length, partOrZeros_length frameBytes_length, frameBytes_length,
    toBytes_length]

theorem wallGeometry_length (i : Image) : (wallGeometry i).length = 21 := by simp [wallGeometry, toBytes_length]

theorem wallRecord_of_other {i : Byte} (h : i ≠ 1) (s : State) : wallRecord i s = wallState s.wall := if_neg h

theorem wallRecord_length (i : Byte) (s : State) : (wallRecord i s).length = if i = 1 then 21 else 31 := by
  unfold wallRecord
  split
  · exact wallGeometry_length s.image
  · exact wallState_length s.wall

/-- The 20 bytes before the mute request. -/
def wallHead (w : WallFeed) : List Byte :=
  frameBytes w.frame ++ [markByte w.live, loadStateCode w.load]
  ++ toBytes 2 w.pointerCol ++ toBytes 2 w.pointerRow ++ [byteOf w.loadProfile.val] ++ toBytes 4 w.luma
  ++ [flagByte [w.satR, w.satG, w.satB]] ++ toBytes 2 w.liveLuma
  ++ [byteOf w.profile.val, markByte w.frozen, markByte w.muted]

/-- The mute request: its kind and its label. -/
def mutePart (o : Option MuteRequest) : List Byte :=
  muteCode o :: partOrZeros 3 (fun r : MuteRequest => frameBytes r.label) o

theorem wallHead_length (w : WallFeed) : (wallHead w).length = 20 := by
  simp [wallHead, frameBytes_length, toBytes_length]

theorem mutePart_length (o : Option MuteRequest) : (mutePart o).length = 4 :=
  congrArg (· + 1) (partOrZeros_length muteLabel_length o)

theorem wallState_eq (w : WallFeed) : wallState w = wallHead w ++ (mutePart w.muteRequest ++
    (markByte w.enabled :: (markedPart 3 frameBytes w.scan ++ toBytes 2 (demandLuma w)))) := by
  simp only [wallState, wallHead, mutePart, markedPart, List.append_assoc, List.cons_append, List.nil_append]

theorem wallState_fields (w : WallFeed) : HoldsFields (wallState w) [
    (0, 3, w.frame.toNat), (3, 1, w.live.toNat), (4, 1, (loadStateCode w.load).toNat),
    (5, 2, w.pointerCol % 65536), (7, 2, w.pointerRow % 65536), (9, 1, w.loadProfile.val),
    (10, 4, w.luma % 4294967296), (14, 1, w.satR.toNat + 2 * w.satG.toNat + 4 * w.satB.toNat),
    (15, 2, w.liveLuma % 65536), (17, 1, w.profile.val), (18, 1, w.frozen.toNat), (19, 1, w.muted.toNat),
    (24, 1, w.enabled.toNat), (29, 2, demandLuma w % 65536)] := by
  simp only [wallState_eq, wallHead, List.append_assoc, List.cons_append, List.nil_append]
  refine HoldsFrom.fields <| .part (spells_frame _) <| .byte (markByte_toNat _) <| .byte rfl <|
    .part (spells_toBytes 2 _) <| .part (spells_toBytes 2 _) <| .byte (byteOf_fin _ (by decide)) <|
    .part (spells_toBytes 4 _) <| .byte (flagByte_three _ _ _) <| .part (spells_toBytes 2 _) <|
    .byte (byteOf_fin _ (by decide)) <| .byte (markByte_toNat _) <| .byte (markByte_toNat _) <| ?_
  exact .skip (mutePart_length _) <| .byte (markByte_toNat _) <| .skip (markedPart_length frameBytes_length _) <|
    .last (spells_toBytes 2 _)

/-- Fields of the mute request, in bytes 20 to 23. -/
theorem wallState_mute {w : WallFeed} {fields : List (Nat × Nat × Nat)}
    (h : ∀ rest, HoldsFrom 20 (mutePart w.muteRequest ++ rest) fields) : HoldsFields (wallState w) fields := by
  rw [wallState_eq]
  exact (HoldsFrom.skip (wallHead_length w) (h _)).fields

theorem mutePart_some (off : Nat) (r : MuteRequest) (rest : List Byte) : HoldsFrom off (mutePart (some r) ++ rest)
    [(off, 1, if r.mute then 1 else 2), (off + 1, 3, r.label.toNat)] := by
  refine .byte ?_ <| .part (spells_frame r.label) .nil
  rw [muteCode]
  split <;> rfl

theorem mutePart_none (off : Nat) (rest : List Byte) : HoldsFrom off (mutePart none ++ rest) [(off, 4, 0)] :=
  .part (spells_zeros 4) .nil

/-- Fields of the scan, in bytes 25 to 28. -/
theorem wallState_scan {w : WallFeed} {fields : List (Nat × Nat × Nat)}
    (h : ∀ rest, HoldsFrom 25 (markedPart 3 frameBytes w.scan ++ rest) fields) : HoldsFields (wallState w) fields := by
  rw [wallState_eq]
  exact HoldsFrom.fields <| .skip (wallHead_length w) <| .skip (mutePart_length _) <| .skip (part := [_]) rfl <| h _

theorem wallGeometry_fields (i : Image) : HoldsFields (wallGeometry i) [
    (0, 2, i.rasterColumns % 65536), (2, 2, i.rasterRows % 65536), (4, 2, i.columnStart % 65536),
    (6, 2, i.columnEnd % 65536), (8, 2, i.rowStart % 65536), (10, 2, i.rowEnd % 65536),
    (12, 2, segmentWidth i % 65536), (14, 2, segmentHeight i % 65536), (16, 1, (segmentWidth i + 63) / 64 % 256),
    (17, 1, (segmentHeight i + 63) / 64 % 256), (18, 3, segmentWidth i * segmentHeight i % 16777216)] := by
  simp only [wallGeometry, List.append_assoc, List.cons_append, List.nil_append]
  exact HoldsFrom.fields <| .part (spells_toBytes 2 _) <| .part (spells_toBytes 2 _) <| .part (spells_toBytes 2 _) <|
    .part (spells_toBytes 2 _) <| .part (spells_toBytes 2 _) <| .part (spells_toBytes 2 _) <|
    .part (spells_toBytes 2 _) <| .part (spells_toBytes 2 _) <| .byte (byteOf_toNat _) <| .byte (byteOf_toNat _) <|
    .last (spells_toBytes 3 _)

end Sys2Proof.Machine
end

section
/-! A QUERY and the REPORT that answers it (R28, R189). -/

namespace Sys2Proof.Machine

/-! ### Queries -/

/-- Record id and index are the two bytes after the scope. -/
theorem query_fields (m : Message) :
    HoldsFields m.body [(4, 1, (queryRecord m).toNat), (5, 1, (queryIndex m).toNat)] := by
  have hbyte (off : Nat) : byteAt (payload .query m) off = byteAt m.body (4 + off) := by
    simp only [byteAt, List.getD_eq_getElem?_getD]
    exact congrArg (Option.getD · 0) List.getElem?_drop
  intro f hf
  simp only [List.mem_cons, List.not_mem_nil, or_false] at hf
  obtain rfl | rfl := hf
  · exact (ofBytes_take_one _ _).trans (congrArg BitVec.toNat (hbyte 0)).symm
  · exact (ofBytes_take_one _ _).trans (congrArg BitVec.toNat (hbyte 1)).symm

theorem recordContents_unknown {r : Byte} (h : r = 0 ∨ 9 < r.toNat) (i : Byte) (s : State) :
    recordContents r i s = none := by
  have hr : r.toNat = 0 ∨ 9 < r.toNat := h.imp_left fun h => congrArg BitVec.toNat h
  unfold recordContents
  split
  iterate 9 · omega
  · rfl

theorem takeQuery_of_contents {m : Message} {s : State} {contents : List Byte}
    (h : recordContents (queryRecord m) (queryIndex m) s = some contents) :
    takeQuery m s = placeReport (queryRecord m) (queryIndex m) contents s := by
  rw [takeQuery, h]

theorem takeQuery_of_none {m : Message} {s : State}
    (h : recordContents (queryRecord m) (queryIndex m) s = none) : takeQuery m s = count .argErr s := by
  rw [takeQuery, h]

/-- A REPORT joins a queue with room, and is dropped at a full one (R28). -/
theorem query_answered {m : Message} {s : State} {c : Instr} {record : Nat} {contents : List Byte}
    (h : Routed .query m s) (hrecord : (queryRecord m).toNat = record)
    (hcontents : recordContents (queryRecord m) (queryIndex m) (lineToGap s) = some contents)
    (hexec : exec c s = .next (queryFor record m s)) :
    (s.line.queue.length < 4 → exec c s = .next { s with line := { s.line with
      lineState := .gap
      queue := s.line.queue ++
        [{ msg := .report (queryRecord m) (queryIndex m) contents, losses := 0, replaced := false }] } }) ∧
    (4 ≤ s.line.queue.length → exec c s = .next (count .queryDrop (lineToGap s))) := by
  have hplace : queryFor record m s = placeReport (queryRecord m) (queryIndex m) contents (lineToGap s) := by
    rw [queryFor, if_pos hrecord, receive_routed h, takeQuery_of_contents hcontents]
  rw [hexec, hplace]
  exact ⟨fun hroom => congrArg _ (if_pos hroom), fun hfull => congrArg _ (if_neg hfull.not_gt)⟩

/-- A record id that names no record (R189). -/
theorem execQueryUnknownRecord_of_routed {m : Message} {s : State} (h : Routed .query m s)
    (hrecord : queryRecord m = 0 ∨ 9 < (queryRecord m).toNat) :
    execQueryUnknownRecord m s = .next (count .argErr (lineToGap s)) := by
  have hid : (queryRecord m).toNat = 0 ∨ 9 < (queryRecord m).toNat :=
    hrecord.imp_left fun h => congrArg BitVec.toNat h
  rw [execQueryUnknownRecord, if_pos hid, receive_routed h, takeQuery_of_none (recordContents_unknown hrecord _ _)]

/-! ### The records as they are queried -/

theorem cuesRecord_length_le (i : Byte) (s : State) : (cuesRecord i s).length ≤ 61 := by
  rw [cuesRecord_length]
  split
  · omega
  · split <;> omega

/-- Settles O57: the filter hands the QUERY to the status reporter, and each record is its parts in order. -/
theorem queriesAreAnswered : Obligations.QueriesAreAnswered := by
  refine ⟨fun m _ => query_fields m, fun m s h => ⟨fun c contents hquery => ?_, fun hrecord =>
      execQueryUnknownRecord_of_routed h hrecord⟩, fun s i hops => ?_, fun s => ?_, fun s i => ?_, fun s i => ?_,
    fun s i => ?_, fun s i => ?_, ?_⟩
  case refine_1 =>
    obtain ⟨hr, rfl, rfl⟩ | ⟨hr, rfl, rfl⟩ | ⟨hr, rfl, rfl⟩ | ⟨hr, rfl, rfl⟩ | ⟨hr, rfl, rfl⟩ | ⟨hr, rfl, rfl⟩ |
      ⟨hr, rfl, rfl⟩ | ⟨hr, rfl, rfl⟩ | ⟨hr, rfl, rfl⟩ := hquery
    all_goals exact query_answered h (congrArg BitVec.toNat hr) (by rw [hr]; rfl) rfl
  case refine_2 =>
    exact ⟨statusRecord_length s, budgetRecord_length s, peerRecord_length i s, lookRecord_length i s,
      directoryRecord_length i s, countersRecord_length i s, channelRecord_length i s, wallRecord_length i s,
      cuesRecord_length i s, cuesRecord_length_le i s⟩
  case refine_3 =>
    refine ⟨statusRecord_fields ?_ ?_, budgetRecord_scale s, ?_, fun i n hn => ?_, fun i =>
      ⟨cuesRecord_header i ?_, fun j r hj hr => cuesRecord_entry (shownCues_getElem? hj hr) ?_⟩⟩
    · cases s.station.restartSource <;> rfl
    · cases s.station.failedCheck <;> rfl
    · split
      next r hr => exact budgetRecord_closed hr
      next hnone => exact budgetRecord_none hnone
    · obtain rfl : n = peerOfIndex i := Fin.ext hn
      split
      next e he =>
        rw [← List.cons_append]
        refine (peerRecord_some he).append ?_
        split
        next a ha => exact peerRecord_second he ha
        next ha => exact peerRecord_single he ha
      next he => exact peerRecord_absent he
    · cases s.cues.mode <;> rfl
    · cases r.action <;> rfl
  case refine_4 =>
    refine ⟨fun h1 h2 h3 => ?_, fun j c hlow hhigh hc => ?_⟩
    · rw [lookRecord_of_other h1 h2 h3]
      refine ⟨lookSummary_fields (by cases s.look.current <;> rfl) ?_, lookSummary_value s⟩
      split
      next k hk => rw [hk]; exact entryCauseCode_arc k
      next hk => rw [hk]; rfl
      next hk => rw [hk]; rfl
    · rw [lookRecord_of_part hlow hhigh]
      exact lookStamps_fields hc (by cases s.conditions.entries[c].source <;> rfl)
  case refine_5 =>
    refine ⟨fun h1 h2 h3 => ?_, ⟨directoryQueues_fields ?_ ?_, fun j => ?_⟩, ?_, directoryAirSafe_mark s,
      fun j n hn => countersRecord_counter hn⟩
    · rw [directoryRecord_of_other h1 h2 h3]
      refine ⟨directoryStates_code s, directoryStates_fields ?_⟩
      split
      next n hn => rw [hn]; exact journalCode_preset n
      next hmap => rw [hmap]; rfl
      next hnone => rw [hnone]; rfl
    · cases s.store.bufferA.target <;> rfl
    · cases s.store.bufferB.target <;> rfl
    · split
      next buffer n hop => exact directoryQueues_commit hop
      next hop => exact directoryQueues_mapErase hop
      next first mask hop => exact directoryQueues_mapProgram hop
      next hop => exact directoryQueues_empty hop
    · refine (directoryRunning_wait s).append (more := ?_) ?_
      split
      next c hc => exact directoryRunning_commit hc
      next hrun => exact directoryRunning_other (kind := 2) (by rw [hrun]; rfl)
      next first mask hrun => exact directoryRunning_other (kind := 3) (by rw [hrun]; rfl)
      next hnone => exact directoryRunning_other (kind := 0) (by rw [hnone]; rfl)
  case refine_6 =>
    intro c x covering source
    have hsource (off : Nat) (q : FadeSource) : source off q = sourceFields off q := by cases q <;> rfl
    refine ⟨channelRecord_head i s rfl, channelRecord_lastOut i s rfl fun rest => ?_,
      fun hdeferred => channelRecord_state i s rfl (congrArg BitVec.toNat (fadeStateCode_of_deferred hdeferred)),
      fun hnone => channelRecord_state i s rfl (fadeStateCode_of_none hnone),
      channelRecord_fade i s rfl fun rest => ?_, fun before after r y hsplit hr hafter hy =>
        channelRecord_request i s rfl fun rest => ?_, fun hnone => channelRecord_request i s rfl fun rest => ?_⟩
    · split
      next o ho => rw [ho]; exact .byte rfl <| .part (spells_word o) .nil
      next hnone => rw [hnone]; exact markedPart_none 7 2 levelBytes rest
    · split
      next f hf => rw [hf, hsource]; exact .byte rfl (fadePart_fields 12 f rest)
      next hnone => rw [hnone]; exact markedPart_none 11 16 fadePart rest
    · rw [lastCovering_of_last hsplit hr hafter, hsource, ← requestTarget_of_content hy]
      exact .byte rfl (requestPart_fields 29 c r rest)
    · rw [lastCovering_none hnone]
      exact markedPart_none 28 13 (requestPart c) rest
  case refine_7 =>
    refine ⟨fun hi => ?_, wallGeometry_fields s.image⟩
    rw [wallRecord_of_other hi]
    refine ((wallState_fields s.wall).append (wallState_mute fun rest => ?_)).append (wallState_scan fun rest => ?_)
    · split
      next r hr => rw [hr]; exact mutePart_some 20 r rest
      next hnone => rw [hnone]; exact mutePart_none 20 rest
    · split
      next f hf => rw [hf]; exact .byte rfl <| .part (spells_frame f) .nil
      next hnone => rw [hnone]; exact markedPart_none 25 3 frameBytes rest
  case refine_8 => decide

end Sys2Proof.Machine
end

section
/-! A TAKE at the cue list: its payload (R36, R194), where its cue goes (R37 to R40), and CANCEL (R42). -/

namespace Sys2Proof.Machine

/-! ### The payload of a TAKE (R36, R194) -/

theorem fieldAt_payload {k : Kind} (h : isAddressed k = true) (m : Message) (off len : Nat) :
    fieldAt (payload k m) off len = ofBytes ((m.body.drop (4 + off)).take len) := by
  rw [payload, if_pos h, fieldAt, List.drop_drop]

theorem byteAt_payload {k : Kind} (h : isAddressed k = true) (m : Message) (off : Nat) :
    byteAt (payload k m) off = byteAt m.body (4 + off) := by
  simp only [payload, if_pos h, byteAt, List.getD_eq_getElem?_getD, List.getElem?_drop]

/-- A field of a payload as wide as its bytes loses nothing. -/
theorem toNat_fieldAt_payload {k : Kind} (h : isAddressed k = true) (m : Message) (off : Nat) {len w : Nat}
    (hw : 256 ^ len = 2 ^ w) :
    (BitVec.ofNat w (fieldAt (payload k m) off len)).toNat = ofBytes ((m.body.drop (4 + off)).take len) := by
  rw [BitVec.toNat_ofNat, Nat.mod_eq_of_lt (hw ▸ fieldAt_lt _ _ _), fieldAt_payload h]

theorem toNat_byteAt_payload {k : Kind} (h : isAddressed k = true) (m : Message) (off : Nat) :
    (byteAt (payload k m) off).toNat = ofBytes ((m.body.drop (4 + off)).take 1) := by
  rw [byteAt_payload h, ofBytes_take_one]

theorem getLsbD_zero_iff (b : Byte) : b.getLsbD 0 = true ↔ b.toNat % 2 = 1 := by
  rw [BitVec.getLsbD, Nat.testBit_zero, decide_eq_true_iff]

theorem takeFields_holdsFields (m : Message) :
    HoldsFields m.body [(4, 2, (takeFields m).cueId.toNat), (6, 3, (takeFields m).target.toNat),
      (9, 1, (takeFields m).action.toNat), (11, 1, (takeFields m).arg.toNat),
      (12, 2, (takeFields m).frames.toNat)] := by
  have haddressed : isAddressed .take = true := rfl
  intro f hf
  simp only [List.mem_cons, List.not_mem_nil, or_false] at hf
  obtain rfl | rfl | rfl | rfl | rfl := hf
  · exact (toNat_fieldAt_payload haddressed m 0 (by norm_num)).symm
  · exact (toNat_fieldAt_payload haddressed m 2 (by norm_num)).symm
  · exact (toNat_byteAt_payload haddressed m 5).symm
  · exact (toNat_byteAt_payload haddressed m 7).symm
  · exact (toNat_fieldAt_payload haddressed m 8 (by norm_num)).symm

theorem takeFields_airSafe_iff (m : Message) :
    (takeFields m).airSafe = true ↔ ofBytes ((m.body.drop 10).take 1) % 2 = 1 := by
  have hflags := toNat_byteAt_payload (k := .take) rfl m 6
  rw [← hflags]
  exact getLsbD_zero_iff _

/-- CANCEL and the codes outside the table name no action of a cue (R36). -/
theorem cueAction_eq_none {f : TakeFields} (h : f.action = 0 ∨ 8 ≤ f.action.toNat) : cueAction f = none := by
  have hcode : f.action.toNat = 0 ∨ 8 ≤ f.action.toNat := h.imp_left fun h => congrArg BitVec.toNat h
  unfold cueAction
  split
  iterate 7 · omega
  · rfl

/-- A TAKE whose code names an action of a cue is not a CANCEL (R36). -/
theorem action_ne_cancelCode {f : TakeFields} {a : CueAction} (h : cueAction f = some a) :
    f.action ≠ cancelCode := by
  intro hcancel
  rw [cueAction_eq_none (.inr (by rw [hcancel]; decide))] at h
  cases h

/-! ### The record of an identity, found, replaced and removed -/

section
variable {c : CueId} {before after : List CueRecord} {old : CueRecord}

theorem findCue_of_new {rs : List CueRecord} (h : ∀ r ∈ rs, r.ident ≠ c) : findCue c rs = none :=
  List.find?_eq_none.2 fun r hr => by simpa using h r hr

theorem findCue_of_first (hold : old.ident = c) (hfirst : ∀ x ∈ before, x.ident ≠ c) :
    findCue c (before ++ old :: after) = some old := by
  have hnone : before.find? (fun r => r.ident == c) = none := findCue_of_new hfirst
  rw [findCue, List.find?_append, hnone, Option.none_or]
  exact List.find?_cons_of_pos (beq_iff_eq.2 hold)

theorem removeFirst_of_first (hold : old.ident = c) (hfirst : ∀ x ∈ before, x.ident ≠ c) :
    removeFirst (fun x => x.ident == c) (before ++ old :: after) = before ++ after := by
  induction before with
  | nil => simp [removeFirst, hold]
  | cons x xs ih =>
    obtain ⟨hx, hxs⟩ := List.forall_mem_cons.1 hfirst
    simp [removeFirst, hx, ih hxs]

theorem replaceInPlace_of_first {r : CueRecord} (hold : old.ident = r.ident)
    (hfirst : ∀ x ∈ before, x.ident ≠ r.ident) :
    replaceInPlace r (before ++ old :: after) = before ++ r :: after := by
  induction before with
  | nil => simp [replaceInPlace, hold]
  | cons x xs ih =>
    obtain ⟨hx, hxs⟩ := List.forall_mem_cons.1 hfirst
    simp [replaceInPlace, hx, ih hxs]

end

/-! ### A record placed (R35) -/

/-- `placed` is `rs` with `r` put behind the records at its head whose offsets are not greater (R35). -/
def PlacedIn (current : FrameNo) (r : CueRecord) (rs placed : List CueRecord) : Prop :=
  ∃ before after : List CueRecord, rs = before ++ after ∧ placed = before ++ r :: after ∧
    (∀ x ∈ before, frameOffset x.target current ≤ frameOffset r.target current) ∧
    ∀ x ∈ after.head?, frameOffset r.target current < frameOffset x.target current

theorem placeRecord_placedIn (current : FrameNo) (r : CueRecord) (rs : List CueRecord) :
    PlacedIn current r rs (placeRecord current r rs) := by
  induction rs with
  | nil => exact ⟨[], [], rfl, rfl, by simp, by simp⟩
  | cons x xs ih =>
    unfold placeRecord
    split
    case isTrue hle =>
      obtain ⟨before, after, hsplit, hplaced, hbefore, hafter⟩ := ih
      exact ⟨x :: before, after, by rw [hsplit, List.cons_append], by rw [hplaced, List.cons_append],
        List.forall_mem_cons.2 ⟨hle, hbefore⟩, hafter⟩
    case isFalse hgt => exact ⟨[], x :: xs, rfl, rfl, by simp, by simpa using hgt⟩

/-! ### A PENDING or LATE cue (R39, R40) -/

section
variable {r old : CueRecord} {s : State} {before after : List CueRecord}

theorem acceptCue_of_full (hnew : ∀ x ∈ s.cues.records, x.ident ≠ r.ident) (hfull : 16 ≤ s.cues.records.length) :
    acceptCue r s = count .cueOverflow s := by
  rw [acceptCue, findCue_of_new hnew]
  exact if_pos hfull

theorem acceptCue_of_new (hnew : ∀ x ∈ s.cues.records, x.ident ≠ r.ident) (hroom : s.cues.records.length < 16) :
    acceptCue r s = countIf r.late .cueLate (setRecords (placeRecord s.cues.frame r s.cues.records) s) := by
  rw [acceptCue, putRecord, findCue_of_new hnew]
  exact if_neg hroom.not_ge

/-- A record that keeps its target keeps its place (R39). -/
theorem acceptCue_of_same_target (hrecords : s.cues.records = before ++ old :: after) (hold : old.ident = r.ident)
    (hfirst : ∀ x ∈ before, x.ident ≠ r.ident) (htarget : old.target = r.target) :
    acceptCue r s = countIf r.late .cueLate (count .cueReplaced (setRecords (before ++ r :: after) s)) := by
  rw [acceptCue, putRecord, hrecords, findCue_of_first hold hfirst]
  simp only [if_pos htarget, replaceInPlace_of_first hold hfirst]

/-- A record that changes its target is taken out and placed anew (R39). -/
theorem acceptCue_of_new_target (hrecords : s.cues.records = before ++ old :: after) (hold : old.ident = r.ident)
    (hfirst : ∀ x ∈ before, x.ident ≠ r.ident) (htarget : old.target ≠ r.target) :
    acceptCue r s = countIf r.late .cueLate (count .cueReplaced
      (setRecords (placeRecord s.cues.frame r (before ++ after)) s)) := by
  rw [acceptCue, putRecord, hrecords, findCue_of_first hold hfirst]
  simp only [if_neg htarget, removeFirst_of_first hold hfirst]

end

/-! ### A TAKE classified (R37, R38) -/

/-- The cue of a TAKE is LATE or STALE: its target is not after the current frame (R37). -/
def isLateCue (m : Message) (s : State) : Bool := !isAfter (takeFields m).target s.cues.frame

/-- The record that a PENDING or LATE cue with action `a` becomes (R37, R39, R40). -/
def cueRecord (m : Message) (a : CueAction) (s : State) : CueRecord where
  ident := { source := m.source, id := (takeFields m).cueId }
  target := if isLateCue m s then s.cues.frame + 1 else (takeFields m).target
  action := a
  airSafe := (takeFields m).airSafe
  late := isLateCue m s

section
variable {m : Message} {s : State} {a : CueAction}

theorem takeCue_of_stale (haction : cueAction (takeFields m) = some a) (hlate : isLateCue m s = true)
    (hbehind : s.image.lateWindow < frameDistance (takeFields m).target s.cues.frame) :
    takeCue m s = count .cueStale s := by
  have hclass : classifyCue s.image.lateWindow (takeFields m).target s.cues.frame = .stale := by
    rw [classifyCue, if_neg (by simpa [isLateCue] using hlate), if_neg hbehind.not_ge]
  rw [takeCue, if_neg (action_ne_cancelCode haction), haction]
  simp only [hclass]

/-- A cue that is not STALE is accepted at its effective target, late when its frame has begun (R37). -/
theorem takeCue_of_accepted (haction : cueAction (takeFields m) = some a)
    (hwindow : isLateCue m s = true → frameDistance (takeFields m).target s.cues.frame ≤ s.image.lateWindow) :
    takeCue m s = acceptCue (cueRecord m a s) s := by
  rw [takeCue, if_neg (action_ne_cancelCode haction), haction]
  cases hlate : isLateCue m s
  case false =>
    have hclass : classifyCue s.image.lateWindow (takeFields m).target s.cues.frame =
        .pending (takeFields m).target := if_pos (by simpa [isLateCue] using hlate)
    simp [hclass, cueRecord, hlate]
  case true =>
    have hclass : classifyCue s.image.lateWindow (takeFields m).target s.cues.frame =
        .late (s.cues.frame + 1) := by
      rw [classifyCue, if_neg (by simpa [isLateCue] using hlate), if_pos (hwindow hlate)]
    simp [hclass, cueRecord, hlate]

/-! ### CANCEL (R42) -/

theorem cancelCue_of_held {c : CueId} {before after : List CueRecord} {old : CueRecord}
    (hrecords : s.cues.records = before ++ old :: after) (hold : old.ident = c)
    (hfirst : ∀ x ∈ before, x.ident ≠ c) : cancelCue c s = setRecords (before ++ after) s := by
  rw [cancelCue, hrecords, findCue_of_first hold hfirst]
  simp only [removeFirst_of_first hold hfirst]

theorem cancelCue_of_missing {c : CueId} (h : ∀ r ∈ s.cues.records, r.ident ≠ c) :
    cancelCue c s = count .cancelMiss s := by
  rw [cancelCue, findCue_of_new h]

/-! ### TAKE and CANCEL routed to the cue list -/

theorem exec_take_of_routed (h : Routed .take m s) (hcue : (takeFields m).action ≠ cancelCode) :
    exec (.take m) s = .next (takeCue m (lineToGap s)) :=
  congrArg Host.Outcome.next ((if_neg hcue).trans (receive_routed h _))

theorem exec_cancel_of_routed (h : Routed .take m s) (hcancel : (takeFields m).action = cancelCode) :
    exec (.cancel m) s =
      .next (cancelCue { source := m.source, id := (takeFields m).cueId } (lineToGap s)) := by
  have htaken : takeCue m (lineToGap s) = cancelCue _ (lineToGap s) := if_pos hcancel
  exact congrArg Host.Outcome.next ((if_pos hcancel).trans ((receive_routed h _).trans htaken))

theorem exec_take_of_code_error (h : Routed .take m s)
    (hcode : (takeFields m).action = 0 ∨ 9 ≤ (takeFields m).action.toNat) :
    exec (.take m) s = .next (count .argErr (lineToGap s)) := by
  have hcue : (takeFields m).action ≠ cancelCode := by
    intro hcancel
    rw [hcancel] at hcode
    exact absurd hcode (by decide)
  have hnone := cueAction_eq_none (hcode.imp_right fun hlarge => (Nat.le_succ 8).trans hlarge)
  rw [exec_take_of_routed h hcue, takeCue, if_neg hcue, hnone]

theorem exec_take_of_stale (h : Routed .take m s) (haction : cueAction (takeFields m) = some a)
    (hlate : isLateCue m s = true)
    (hbehind : s.image.lateWindow < frameDistance (takeFields m).target s.cues.frame) :
    exec (.take m) s = .next (count .cueStale (lineToGap s)) :=
  (exec_take_of_routed h (action_ne_cancelCode haction)).trans <|
    congrArg Host.Outcome.next (takeCue_of_stale (s := lineToGap s) haction hlate hbehind)

theorem exec_take_of_accepted (h : Routed .take m s) (haction : cueAction (takeFields m) = some a)
    (hwindow : isLateCue m s = true → frameDistance (takeFields m).target s.cues.frame ≤ s.image.lateWindow) :
    exec (.take m) s = .next (acceptCue (cueRecord m a s) (lineToGap s)) :=
  (exec_take_of_routed h (action_ne_cancelCode haction)).trans <|
    congrArg Host.Outcome.next (takeCue_of_accepted (s := lineToGap s) haction hwindow)

end

/-- Settles O19: each clause names how the TAKE is classified and what its identity finds in the list. -/
theorem takeAndCancel : Obligations.TakeAndCancel := by
  unfold Obligations.TakeAndCancel
  refine ⟨fun m s a h haction hnew => ⟨exec_take_of_stale h haction,
      fun hwindow => ⟨fun hfull => ?full, fun hroom => ?new⟩⟩,
    ⟨fun m s a before after old h haction hrecords hold hfirst hclass htarget => ?sameTarget,
      fun m s h hcancel => ⟨fun before after old hrecords hold hfirst => ?cancelled, fun hmiss => ?missed⟩⟩,
    fun m s a h haction => ⟨exec_take_of_stale h haction,
      fun hwindow before after old hrecords hold hfirst htarget => ?newTarget⟩,
    fun m s h hcode => exec_take_of_code_error h hcode, fun f => ?codes,
    fun m _ => ⟨takeFields_holdsFields m, takeFields_airSafe_iff m⟩⟩
  case full =>
    rw [exec_take_of_accepted h haction hwindow]
    exact congrArg Host.Outcome.next (acceptCue_of_full hnew hfull)
  case new =>
    obtain ⟨before, after, hsplit, hplaced, hbefore, hafter⟩ :=
      placeRecord_placedIn s.cues.frame (cueRecord m a s) s.cues.records
    refine ⟨before, after, cueRecord m a s, hsplit, rfl, hbefore, hafter, ?_⟩
    rw [exec_take_of_accepted h haction hwindow, ← hplaced]
    exact congrArg Host.Outcome.next (acceptCue_of_new hnew hroom)
  case sameTarget =>
    have hwindow : isLateCue m s = true → frameDistance (takeFields m).target s.cues.frame ≤ s.image.lateWindow :=
      fun hlate => hclass.resolve_left (by simpa [isLateCue] using hlate)
    rw [hold] at hfirst
    rw [exec_take_of_accepted h haction hwindow, hold, htarget]
    exact congrArg Host.Outcome.next
      (acceptCue_of_same_target (r := cueRecord m a s) (s := lineToGap s) hrecords hold hfirst htarget)
  case cancelled =>
    rw [hold] at hfirst
    rw [exec_cancel_of_routed h hcancel]
    exact congrArg Host.Outcome.next (cancelCue_of_held (s := lineToGap s) hrecords hold hfirst)
  case missed =>
    rw [exec_cancel_of_routed h hcancel]
    exact congrArg Host.Outcome.next (cancelCue_of_missing (s := lineToGap s) hmiss)
  case newTarget =>
    rw [hold] at hfirst
    obtain ⟨front, back, hsplit, hplaced, hfront, hback⟩ :=
      placeRecord_placedIn s.cues.frame (cueRecord m a s) (before ++ after)
    refine ⟨front, back, cueRecord m a s, hsplit, by rw [hold]; rfl, hfront, hback, ?_⟩
    rw [exec_take_of_accepted h haction hwindow, ← hplaced]
    exact congrArg Host.Outcome.next
      (acceptCue_of_new_target (r := cueRecord m a s) (s := lineToGap s) hrecords hold hfirst htarget)
  case codes =>
    refine ⟨?_, ?_, ?_, ?_, ?_, ?_, ?_, cueAction_eq_none⟩
    all_goals
      intro hcode
      rw [cueAction, hcode]
      rfl

end Sys2Proof.Machine
end

section
/-! COND at the condition set (R52 to R54); the look machine's frame starts, condition notices and LOOK HOME (R63, R64,
R70, R71); the transition it takes (R65 to R68). -/

namespace Sys2Proof.Machine

/-! ### COND (R52 to R54) -/

theorem nextStamp_eq (stamps : BitVec 32) :
    nextStamp stamps = if stamps = 4294967295 then 4294967295 else stamps + 1 := by
  unfold nextStamp
  split
  next hmax => exact hmax
  · rfl

/-- An action with the value the entry has takes the source alone (R53). -/
theorem actOnCondition_of_touch {c : ConditionNo} {v : Bool} (source : StationNo) {s : State}
    (h : s.conditions.entries[c].value = v) :
    actOnCondition c v source s = { s with conditions := { s.conditions with
      entries := setAt s.conditions.entries c { s.conditions.entries[c] with source := some source } } } :=
  if_pos h

/-- A value change takes the next stamp and notifies the look machine (R52, R53). -/
theorem actOnCondition_of_change {c : ConditionNo} {v : Bool} (source : StationNo) {s : State} {stamp : BitVec 32}
    (h : s.conditions.entries[c].value ≠ v)
    (hstamp : stamp = if s.conditions.stamps = 4294967295 then 4294967295 else s.conditions.stamps + 1) :
    actOnCondition c v source s = { s with
      conditions := { s.conditions with
        entries := setAt s.conditions.entries c { value := v, stamp := stamp, source := some source }
        stamps := stamp }
      transit := { s.transit with condNotices := s.transit.condNotices ++
        [{ condition := c, value := s.conditions.entries[c].value, stamp := s.conditions.entries[c].stamp }] } } := by
  rw [hstamp, ← nextStamp_eq]
  exact if_neg h

theorem conditionOfByte_of_toNat {b : Byte} {c : ConditionNo} (h : b.toNat = c.val) : conditionOfByte b = some c := by
  simp [conditionOfByte, h]

theorem conditionOfByte_of_large {b : Byte} (h : 24 ≤ b.toNat) : conditionOfByte b = none := dif_neg h.not_gt

/-- A COND whose codes name a condition and a value acts on the entry (R54). -/
theorem takeCond_of_codes {m : Message} {s : State} {c : ConditionNo} {v : Bool}
    (hcondition : (condNumber m).toNat = c.val) (hvalue : (condValueCode m).toNat = v.toNat) :
    takeCond m s = actOnCondition c v m.source s := by
  rw [takeCond, conditionOfByte_of_toNat hcondition, hvalue]
  cases v <;> rfl

theorem takeCond_of_code_error {m : Message} {s : State}
    (h : 24 ≤ (condNumber m).toNat ∨ 2 ≤ (condValueCode m).toNat) : takeCond m s = count .argErr s := by
  unfold takeCond
  split
  case h_3 => rfl
  all_goals
    next hcondition hvalue =>
      obtain hlarge | hlarge := h
      · simp [conditionOfByte_of_large hlarge] at hcondition
      · omega

theorem exec_cond_of_routed {m : Message} {s : State} (h : Routed .cond m s) :
    exec (.cond m) s = .next (takeCond m (lineToGap s)) :=
  congrArg Host.Outcome.next (receive_routed h _)

/-- Settles O21: a routed COND is an action on its entry, which touches or changes it. -/
theorem condActsOnEntry : Obligations.CondActsOnEntry := by
  refine ⟨fun m s hrouted => ⟨fun c v hcondition hvalue => ?_, fun hcode => ?_⟩,
    fun c v source s => ⟨actOnCondition_of_touch source, fun hchange _ => actOnCondition_of_change source hchange⟩,
    fun m _ f hf => ?_⟩
  · rw [exec_cond_of_routed hrouted, takeCond_of_codes hcondition hvalue]
    exact ⟨fun htouch => congrArg Host.Outcome.next (actOnCondition_of_touch m.source htouch),
      fun hchange _ hstamp => congrArg Host.Outcome.next (actOnCondition_of_change m.source hchange hstamp)⟩
  · rw [exec_cond_of_routed hrouted, takeCond_of_code_error hcode]
    rfl
  · simp only [List.mem_cons, List.not_mem_nil, or_false] at hf
    obtain rfl | rfl := hf
    · exact ofBytes_take_one m.body 0
    · exact ofBytes_take_one m.body 1

/-! ### Entering a look (R68) -/

/-- What a look entry sets, counts and requests. -/
theorem enterLook_eq (l : LookNo) (cause : EntryCause) (s : State) :
    enterLook l cause s = count .lookEntry { s with
      look := { s.look with
        current := some l
        entered := true
        dwell := s.image.looks[l].dwell
        entryFrame := s.look.frame
        entryCause := cause }
      transit := { s.transit with
        lookFades := s.transit.lookFades ++ s.image.looks[l].preset.toList.map fun p =>
          { preset := p, frame := s.look.frame + 1, total := s.image.looks[l].frames,
            airSafe := s.image.looks[l].airSafe, source := .look l }
        lookProfiles := s.transit.lookProfiles ++ s.image.looks[l].profile.toList } } := by
  unfold enterLook
  dsimp only
  cases s.image.looks[l].preset <;> cases s.image.looks[l].profile <;> simp

/-! ### The arc a transition takes (R65, R66) -/

theorem heldCondition_of_notice {s : State} {before after : List ConditionNotice} {n : ConditionNotice}
    (hnotices : s.transit.condNotices = before ++ n :: after) (hfirst : ∀ x ∈ before, x.condition ≠ n.condition) :
    heldCondition s n.condition = (n.value, n.stamp) := by
  have hnone : before.find? (fun x => x.condition == n.condition) = none := by simpa using hfirst
  simp [heldCondition, hnotices, List.find?_append, hnone]

theorem heldCondition_of_no_notice {s : State} {c : ConditionNo}
    (h : ∀ x ∈ s.transit.condNotices, x.condition ≠ c) :
    heldCondition s c = (s.conditions.entries[c].value, s.conditions.entries[c].stamp) := by
  have hnone : s.transit.condNotices.find? (fun x => x.condition == c) = none := by simpa using h
  rw [heldCondition, hnone]

theorem arcEligible_iff {s : State} {a : Arc} :
    arcEligible s a = true ↔ ((∃ l : LookNo, a.source = some l ∧ s.look.current = some l) ∨
      (a.source = none ∧ s.look.current ≠ some a.target)) ∧ (heldCondition s a.condition).1 = a.required := by
  cases hsource : a.source <;> simp [arcEligible, hsource]

/-- Arc `n` of `arcs` is `a`, eligible, with the smallest change stamp and the lowest index among those (R66). -/
structure OldestArc (s : State) (arcs : List Arc) (n : Nat) (a : Arc) : Prop where
  place : arcs[n]? = some a
  eligible : arcEligible s a = true
  oldest : ∀ (j : Nat) (b : Arc), arcs[j]? = some b → arcEligible s b = true →
    arcStamp s a ≤ arcStamp s b ∧ (arcStamp s b = arcStamp s a → n ≤ j)

/-- It stays the oldest behind an arc that is not eligible or has a larger stamp. -/
theorem OldestArc.cons {s : State} {arcs : List Arc} {n : Nat} {a x : Arc} (h : OldestArc s arcs n a)
    (hx : arcEligible s x = true → arcStamp s a < arcStamp s x) : OldestArc s (x :: arcs) (n + 1) a where
  place := h.place
  eligible := h.eligible
  oldest
    | 0, b, hplace, hb => by
      obtain rfl : x = b := Option.some.inj hplace
      have := hx hb
      omega
    | j + 1, b, hplace, hb => by
      have := h.oldest j b hplace hb
      omega

/-- An eligible arc is the oldest when none behind it has a smaller stamp. -/
theorem OldestArc.head {s : State} {arcs : List Arc} {x : Arc} (hx : arcEligible s x = true)
    (h : ∀ b ∈ arcs, arcEligible s b = true → arcStamp s x ≤ arcStamp s b) : OldestArc s (x :: arcs) 0 x where
  place := rfl
  eligible := hx
  oldest
    | 0, b, hplace, _ => by
      obtain rfl : x = b := Option.some.inj hplace
      exact ⟨le_rfl, fun _ => le_rfl⟩
    | j + 1, b, hplace, hb => ⟨h b (List.mem_of_getElem? hplace) hb, fun _ => Nat.zero_le _⟩

theorem OldestArc.le_of_mem {s : State} {arcs : List Arc} {n : Nat} {a b : Arc} (h : OldestArc s arcs n a)
    (hmem : b ∈ arcs) (hb : arcEligible s b = true) : arcStamp s a ≤ arcStamp s b := by
  obtain ⟨j, hj⟩ := List.mem_iff_getElem?.1 hmem
  exact (h.oldest j b hj hb).1

/-- No arc is taken when none is eligible; else the oldest, numbered from `i`. -/
theorem selectArc_cases (s : State) (i : Nat) (arcs : List Arc) :
    (selectArc s i arcs = none ∧ ∀ a ∈ arcs, arcEligible s a = false) ∨
      ∃ n a, selectArc s i arcs = some (i + n, a) ∧ OldestArc s arcs n a := by
  induction arcs generalizing i with
  | nil => exact .inl ⟨rfl, by simp⟩
  | cons x xs ih =>
    cases hx : arcEligible s x with
    | false =>
      obtain ⟨hnone, hall⟩ | ⟨n, a, hsome, holdest⟩ := ih (i + 1)
      · exact .inl ⟨by simp [selectArc, hx, hnone], List.forall_mem_cons.2 ⟨hx, hall⟩⟩
      · refine .inr ⟨n + 1, a, ?_, holdest.cons (by simp [hx])⟩
        simp [selectArc, hx, hsome, Nat.add_assoc, Nat.add_comm 1]
    | true =>
      obtain ⟨hnone, hall⟩ | ⟨n, a, hsome, holdest⟩ := ih (i + 1)
      · refine .inr ⟨0, x, by simp [selectArc, hx, hnone], .head hx fun b hb heligible => ?_⟩
        exact absurd ((hall b hb).symm.trans heligible) (by decide)
      · by_cases hstamp : arcStamp s a < arcStamp s x
        · refine .inr ⟨n + 1, a, ?_, holdest.cons fun _ => hstamp⟩
          simp [selectArc, hx, hsome, hstamp, Nat.add_assoc, Nat.add_comm 1]
        · refine .inr ⟨0, x, by simp [selectArc, hx, hsome, hstamp], .head hx fun b hb heligible => ?_⟩
          have := holdest.le_of_mem hb heligible
          omega

/-- Settles O24: the arc selected is the oldest eligible one, and none is selected when none is eligible. -/
theorem transitionTakesOldestChange : Obligations.TransitionTakesOldestChange := by
  refine ⟨fun s => ?_, fun s c => ⟨fun before after n hnotices hcondition hfirst => ?_, heldCondition_of_no_notice⟩,
    fun s l cause => enterLook_eq l cause s⟩
  · intro value stamp eligible
    have heligible {a : Arc} : arcEligible s a = true ↔ eligible a := arcEligible_iff
    obtain ⟨hnone, hall⟩ | ⟨i, a, hsome, holdest⟩ := selectArc_cases s 0 s.image.arcs
    · refine ⟨fun ⟨a, ha, helig⟩ => ?_, fun _ => by rw [considerTransition, hnone]⟩
      exact absurd ((hall a ha).symm.trans (heligible.2 helig)) (by decide)
    · rw [Nat.zero_add] at hsome
      refine ⟨fun _ => ⟨i, a, hsome, holdest.place, heligible.1 holdest.eligible,
        fun j b hplace hb => holdest.oldest j b hplace (heligible.2 hb), by rw [considerTransition, hsome]⟩,
        fun hno => ?_⟩
      exact absurd (heligible.1 holdest.eligible) (hno a (List.mem_of_getElem? holdest.place))
  · subst hcondition
    exact heldCondition_of_notice hnotices hfirst

/-! ### Frame starts and condition notices at the look machine (R63, R64) -/

/-- The state with a frame start off the look machine's list, `es` left. -/
def lookFramesLeft (es : List FrameEvent) (s : State) : State :=
  { s with transit := { s.transit with lookFrames := es } }

theorem lookFrameStart_of_frame {s : State} {e : FrameEvent} {es : List FrameEvent}
    (h : s.transit.lookFrames = e :: es) :
    lookFrameStart s = lookFrame e (lookFramesLeft es s) := by
  rw [lookFrameStart, h]
  rfl

/-- A frame start of an entered machine takes one off a dwell above 1. -/
theorem lookFrame_of_dwell {s : State} (e : FrameEvent) (hstarted : s.look.started = true)
    (hentered : s.look.entered = true) (hdwell : 1 < s.look.dwell) :
    lookFrame e s = { s with look := { s.look with
      frame := e.frame, taken := e.serial, dwell := s.look.dwell - 1 } } := by
  simp [lookFrame, hstarted, hentered, Nat.ne_of_gt hdwell, Nat.ne_of_gt (Nat.zero_lt_of_lt hdwell)]

/-- The frame start that ends the dwell considers a transition. -/
theorem lookFrame_of_last_dwell {s : State} (e : FrameEvent) (hstarted : s.look.started = true)
    (hentered : s.look.entered = true) (hdwell : s.look.dwell = 1) :
    lookFrame e s = considerTransition { s with look := { s.look with
      frame := e.frame, taken := e.serial, dwell := 0 } } := by
  simp [lookFrame, hstarted, hentered, hdwell]

/-- A frame start that finds no dwell and no first entry due sets the current frame alone. -/
theorem lookFrame_of_idle {s : State} {e : FrameEvent}
    (h : s.look.started = false ∨ (s.look.entered = false ∧ s.look.runNotice ≠ some e.serial) ∨
      (s.look.entered = true ∧ s.look.dwell = 0)) :
    lookFrame e s = { s with look := { s.look with frame := e.frame, taken := e.serial } } := by
  unfold lookFrame
  obtain hstopped | ⟨hbefore, hnotice⟩ | ⟨hentered, hdwell⟩ := h
  · simp [hstopped]
  · simp [hbefore, hnotice]
  · simp [hentered, hdwell]

theorem dwellExpires_of_last {s : State} {e : FrameEvent} {es : List FrameEvent}
    (h : s.transit.lookFrames = e :: es) (hstarted : s.look.started = true) (hentered : s.look.entered = true)
    (hdwell : s.look.dwell = 1) : dwellExpires s = true := by
  simp [dwellExpires, h, hstarted, hentered, hdwell]

theorem lookRuns_of_started {s : State} (hstarted : s.look.started = true) (hsafe : s.station.state ≠ .safe) :
    lookRuns s = true := by
  simp [lookRuns, hstarted, hsafe]

theorem lookRuns_of_safe {s : State} (h : s.station.state = .safe) : lookRuns s = false := by simp [lookRuns, h]

theorem conditionChangeNotice_of_notice {s : State} {c : ConditionNotice} {cs : List ConditionNotice}
    (h : s.transit.condNotices = c :: cs) :
    conditionChangeNotice s = if lookRuns s ∧ s.look.entered ∧ s.look.dwell = 0 then
      considerTransition { s with transit := { s.transit with condNotices := cs } }
      else { s with transit := { s.transit with condNotices := cs } } := by
  rw [conditionChangeNotice, h]

/-! ### The run notice before a LOOK HOME (R70) -/

/-- An action on a condition takes no run notice and puts none back. -/
theorem actOnCondition_runNotice (c : ConditionNo) (v : Bool) (source : StationNo) (s : State) :
    (actOnCondition c v source s).transit.runLook = s.transit.runLook ∧
      (actOnCondition c v source s).conditions.sampled = s.conditions.sampled := by
  unfold actOnCondition
  dsimp only
  split <;> exact ⟨rfl, rfl⟩

theorem samplePin_runNotice (p : Fin 4) (s : State) :
    (samplePin p s).transit.runLook = s.transit.runLook ∧
      (samplePin p s).conditions.sampled = s.conditions.sampled := by
  unfold samplePin
  split
  · split
    · simp [pinChange, actOnCondition_runNotice]
    · exact ⟨rfl, rfl⟩
  · exact ⟨rfl, rfl⟩

theorem runNoticeLook_of_none {s : State} (h : s.transit.runLook = none) : runNoticeLook s = s := by
  rw [runNoticeLook, h]

/-- The look machine has taken the run notice in `t`, at the current frame it has in `s` (R58). -/
structure RunNoticeTaken (s t : State) : Prop where
  sampled : t.conditions.sampled = true
  taken : t.transit.runLook = none
  frame : t.look.frame = s.look.frame

theorem RunNoticeTaken.firstEntry {s t : State} (h : RunNoticeTaken s t) : RunNoticeTaken s (firstEntry t) where
  sampled := by simp [h.sampled]
  taken := by simp [Machine.firstEntry, enterLook_eq, h.taken]
  frame := by simp [Machine.firstEntry, enterLook_eq, h.frame]

theorem runNoticeTaken_of_sampled (n : Notice) (s : State) :
    RunNoticeTaken s (holdConditions (samplePins (lookNoticed n s))) where
  sampled := by simp [samplePins, samplePin_runNotice, lookNoticed]
  taken := by simp [holdConditions, samplePins, samplePin_runNotice, lookNoticed]
  frame := by simp [lookNoticed]

theorem runNoticeLook_taken {s : State} {n : Notice} (h : s.transit.runLook = some n) :
    RunNoticeTaken s (runNoticeLook s) := by
  rw [runNoticeLook_of_notice h]
  split
  · exact (runNoticeTaken_of_sampled n s).firstEntry
  · exact runNoticeTaken_of_sampled n s

/-- Settles O23: each event of the look machine by what its dwell, its entry and its station's state leave it. -/
theorem lookMachineEvents : Obligations.LookMachineEvents := by
  refine ⟨fun s e es hframes hstarted hentered => ⟨fun hdwell => ?_, fun hdwell => ?_⟩, fun s e es hframes hidle => ?_,
    ⟨fun s a as hhomes hstarted hsafe hnone => ?_, fun s a as n hhomes hstarted hsafe hnotice => ?_,
      fun s c cs hnotices hstarted hentered hsafe => ?_, fun s c cs hnotices hbefore => ?_⟩,
    fun s hsafe => ⟨fun a as hhomes => ?_, fun c cs hnotices => ?_⟩⟩
  · refine congrArg Host.Outcome.next ((lookFrameStart_of_frame hframes).trans ?_)
    exact lookFrame_of_dwell (s := lookFramesLeft es s) e hstarted hentered hdwell
  · have hexec : exec .dwellExpiry s = exec .lookFrameStart s :=
      congrArg Host.Outcome.next (if_pos (dwellExpires_of_last hframes hstarted hentered hdwell))
    refine ⟨hexec, hexec.trans (congrArg Host.Outcome.next ((lookFrameStart_of_frame hframes).trans ?_))⟩
    exact lookFrame_of_last_dwell (s := lookFramesLeft es s) e hstarted hentered hdwell
  · refine congrArg Host.Outcome.next ((lookFrameStart_of_frame hframes).trans ?_)
    exact lookFrame_of_idle (s := lookFramesLeft es s) hidle
  · refine congrArg Host.Outcome.next ((lookHome_runs hhomes (lookRuns_of_started hstarted hsafe)).trans ?_)
    rw [runNoticeLook_of_none (s := { s with transit := { s.transit with homes := as } }) hnone]
    exact enterLook_eq _ _ _
  · have hwaits : ({ s with transit := { s.transit with homes := as } } : State).transit.runLook = some n := hnotice
    obtain ⟨hsampled, htaken, hframe⟩ := runNoticeLook_taken hwaits
    refine ⟨_, rfl, hsampled, htaken, congrArg Host.Outcome.next ?_⟩
    rw [lookHome_runs hhomes (lookRuns_of_started hstarted hsafe), enterLook_eq, hframe]
    simp
  · have hruns := lookRuns_of_started hstarted hsafe
    refine ⟨fun hdwell => congrArg Host.Outcome.next ((conditionChangeNotice_of_notice hnotices).trans (if_pos ?_)),
      fun hdwell => congrArg Host.Outcome.next ((conditionChangeNotice_of_notice hnotices).trans (if_neg ?_))⟩
    · exact ⟨hruns, hentered, hdwell⟩
    · exact fun hdue => hdwell hdue.2.2
  · refine congrArg Host.Outcome.next ((conditionChangeNotice_of_notice hnotices).trans (if_neg ?_))
    simp [hbefore]
  · exact congrArg Host.Outcome.next (lookHome_stopped hhomes (lookRuns_of_safe hsafe))
  · refine congrArg Host.Outcome.next ((conditionChangeNotice_of_notice hnotices).trans (if_neg ?_))
    simp [lookRuns_of_safe hsafe]

end Sys2Proof.Machine
end

section
/-! The configuration store: its checks (R61, R138, R159, R182) and the image of a store that passes (R181, R197). -/

namespace Sys2Proof.Machine

/-! ### Fields of the store (R194) -/

theorem storeByte_eq (m : Memory) (a : Nat) : storeByte m a = (memRead m a).toNat := rfl

/-- The word at an address, most significant byte first (R194). -/
theorem memField_two (m : Memory) (a : Nat) :
    memField m a 2 = 256 * (memRead m a).toNat + (memRead m (a + 1)).toNat := by
  simp [memField, memBytes, ofBytes, List.range_succ, Nat.mul_comm]

theorem memField_two_lt (m : Memory) (a : Nat) : memField m a 2 < 2 ^ 16 := by
  have hhigh := (memRead m a).isLt
  have hlow := (memRead m (a + 1)).isLt
  rw [memField_two]
  omega

theorem ofNat_memField_two (m : Memory) (a : Nat) : (BitVec.ofNat 16 (memField m a 2)).toNat = memField m a 2 :=
  Nat.mod_eq_of_lt (memField_two_lt m a)

@[simp] theorem within_iff {low high v : Nat} : within low high v = true ↔ low ≤ v ∧ v ≤ high := by simp [within]

@[simp] theorem belowOrNone_iff {n v : Nat} : belowOrNone n v = true ↔ v < n ∨ v = 255 := by simp [belowOrNone]

theorem noneByte_iff {b : Byte} : b = noneByte ↔ b.toNat = 255 := by
  rw [← BitVec.toNat_inj]
  rfl

theorem byteOrNone_eq (m : Memory) (a : Nat) :
    byteOrNone m a = if (memRead m a).toNat = 255 then none else some (memRead m a) := by
  simp only [byteOrNone, noneByte_iff]

theorem byteOrNone_lt {m : Memory} {a n : Nat} {b : Byte} (h : (memRead m a).toNat < n ∨ (memRead m a).toNat = 255)
    (hb : byteOrNone m a = some b) : b.toNat < n := by
  rw [byteOrNone_eq] at hb
  split at hb
  · cases hb
  next hsome =>
    cases hb
    exact h.resolve_right hsome

/-! ### The checks (R182) -/

/-- A look in use, by the bytes of the store (R197). -/
theorem lookInUse_iff {m : Memory} {l : Nat} :
    lookInUse m l = true ↔ l < 8 ∧ (memRead m (580 + 7 * l)).toNat = 1 := by
  simp [lookInUse, storeByte_eq, lookAddress]

theorem checkLook_iff {m : Memory} {l : Nat} :
    checkLook m l = true ↔ (memRead m (580 + 7 * l)).toNat ≤ 1 ∧ (lookInUse m l = true →
      (1 ≤ (memRead m (586 + 7 * l)).toNat ∧ (memRead m (586 + 7 * l)).toNat ≤ 255) ∧
      ((memRead m (581 + 7 * l)).toNat < 64 ∨ (memRead m (581 + 7 * l)).toNat = 255) ∧
      ((memRead m (584 + 7 * l)).toNat < 4 ∨ (memRead m (584 + 7 * l)).toNat = 255) ∧
      (memRead m (585 + 7 * l)).toNat ≤ 1) := by
  simp only [checkLook, Bool.and_eq_true, Bool.or_eq_true, Bool.not_eq_true', decide_eq_true_eq, within_iff,
    belowOrNone_iff, ← Bool.not_eq_true, ← imp_iff_not_or]
  simp only [storeByte_eq, lookAddress, Nat.add_right_comm 580, Nat.reduceAdd, and_assoc]

theorem checkArc_iff {m : Memory} {i : Nat} :
    checkArc m i = true ↔ lookInUse m (memRead m (639 + 4 * i)).toNat = true ∧
      ((memRead m (638 + 4 * i)).toNat = 8 ∨ lookInUse m (memRead m (638 + 4 * i)).toNat = true) ∧
      (memRead m (638 + 4 * i)).toNat ≠ (memRead m (639 + 4 * i)).toNat ∧
      (memRead m (640 + 4 * i)).toNat < 24 ∧ (memRead m (641 + 4 * i)).toNat ≤ 1 := by
  simp only [checkArc, Bool.and_eq_true, Bool.or_eq_true, decide_eq_true_eq]
  simp only [storeByte_eq, arcAddress, Nat.add_right_comm 638, Nat.reduceAdd, and_assoc]

theorem checkEntering_iff {m : Memory} {l : Nat} :
    checkEntering m l = true ↔
      (List.range (memRead m 637).toNat).countP (fun i => decide ((memRead m (639 + 4 * i)).toNat = l)) ≤ 3 := by
  simp [checkEntering, arcCount, storeByte_eq, arcAddress, Nat.add_right_comm 638, beq_eq_decide]

/-- Every number below `n` passes when every element of `Fin n` does. -/
theorem all_range_iff {n : Nat} {p : Nat → Bool} :
    (List.range n).all p = true ↔ ∀ i : Fin n, p i.val = true := by
  simp [Fin.forall_iff]

theorem checkClasses_iff {m : Memory} : checkClasses m = true ↔ PassesCheck m 5 := by
  simp only [checkClasses, all_range_iff, decide_eq_true_eq]
  rfl

theorem checkWindow_iff {m : Memory} : checkWindow m = true ↔ PassesCheck m 7 := by
  simp only [checkWindow, PassesCheck, Bool.and_eq_true, within_iff, decide_eq_true_eq, memField_two]
  omega

theorem checkLooks_iff {m : Memory} : checkLooks m = true ↔ PassesCheck m 8 := by
  simp only [checkLooks, Bool.and_eq_true, all_range_iff, checkLook_iff, checkArc_iff, checkEntering_iff,
    lookInUse_iff, belowOrNone_iff, decide_eq_true_eq]
  simp [PassesCheck, arcCount, storeByte_eq, Fin.forall_iff, and_assoc]

/-- The check of a number, as the store is judged by it (R182). -/
def runCheck (m : Memory) : Nat → Bool
  | 1 => checkPeriod m
  | 2 => checkFrames m
  | 3 => checkLateWindow m
  | 4 => checkBudget m
  | 5 => checkClasses m
  | 6 => checkStartPreset m
  | 7 => checkWindow m
  | 8 => checkLooks m
  | 9 => checkProtect m
  | _ => true

theorem runCheck_iff (m : Memory) : ∀ n : Nat, runCheck m n = true ↔ PassesCheck m n
  | 1 => by simp [runCheck, checkPeriod, PassesCheck, memField_two]
  | 2 => by simp [runCheck, checkFrames, PassesCheck, storeByte_eq]
  | 3 => by simp [runCheck, checkLateWindow, PassesCheck, storeByte_eq]
  | 4 => by simp [runCheck, checkBudget, PassesCheck, storeByte_eq, memField_two, and_assoc]
  | 5 => checkClasses_iff
  | 6 => by simp [runCheck, checkStartPreset, PassesCheck, storeByte_eq]
  | 7 => checkWindow_iff
  | 8 => checkLooks_iff
  | 9 => decide_eq_true_iff
  | 0 | _ + 10 => iff_of_true rfl trivial

theorem consistencyChecks_eq (m : Memory) :
    consistencyChecks m = (List.range' 1 9).map fun n => (n, runCheck m n) := rfl

/-- The failed check is the first number from 1 to 9 whose check fails. -/
theorem firstFailedCheck_eq (m : Memory) : firstFailedCheck m = (List.range' 1 9).find? fun n => !runCheck m n := by
  rw [firstFailedCheck, consistencyChecks_eq, List.find?_map, Option.map_map]
  exact congrFun Option.map_id _

theorem firstFailedCheck_eq_none_iff {m : Memory} :
    firstFailedCheck m = none ↔ ∀ n : Nat, 1 ≤ n → n ≤ 9 → PassesCheck m n := by
  simp only [firstFailedCheck_eq, List.find?_range'_eq_none, Bool.not_not, runCheck_iff]
  exact forall_congr' fun n => imp_congr_right fun _ => imp_congr_left Nat.lt_succ_iff

theorem firstFailedCheck_eq_some_iff {m : Memory} {n : Nat} :
    firstFailedCheck m = some n ↔
      1 ≤ n ∧ n ≤ 9 ∧ ¬ PassesCheck m n ∧ ∀ j : Nat, 1 ≤ j → j < n → PassesCheck m j := by
  simp only [firstFailedCheck_eq, List.find?_range'_eq_some, List.mem_range'_1, Bool.not_not, runCheck_iff,
    Bool.not_eq_true', ← Bool.not_eq_true]
  constructor
  · rintro ⟨hfails, ⟨hlow, hhigh⟩, hbefore⟩
    exact ⟨hlow, by omega, hfails, hbefore⟩
  · rintro ⟨hlow, hhigh, hfails, hbefore⟩
    exact ⟨hfails, ⟨hlow, by omega⟩, hbefore⟩

theorem storeCheckAgrees_iff {m : Memory} :
    storeCheckAgrees m = true ↔ (checkValue ((List.range 8190).map (memRead m))).toNat =
      256 * (memRead m 8190).toNat + (memRead m 8191).toNat := by
  simp only [storeCheckAgrees, computedCheck, storedCheck, memField_two, memBytes, Nat.zero_add, beq_iff_eq]

/-! ### What the checks say of a store that passes (R182) -/

/-- The ranges of the nine checks on the bytes of the store, the looks in use by `lookInUse`. -/
structure CheckedStore (m : Memory) : Prop where
  period : 10000 ≤ memField m 11 2 ∧ memField m 11 2 ≤ 50000
  seekFrames : 1 ≤ (memRead m 13).toNat ∧ (memRead m 13).toNat ≤ 255
  joinFrames : 2 ≤ (memRead m 14).toNat ∧ (memRead m 14).toNat ≤ 15
  lateWindow : (memRead m 10).toNat ≤ 15
  limitC : 1 ≤ memField m 1 2 ∧ memField m 1 2 ≤ 65535
  kMin : memField m 3 2 ≤ 32768
  riseStep : 1 ≤ memField m 5 2 ∧ memField m 5 2 ≤ 32768
  peerHold : 1 ≤ (memRead m 9).toNat ∧ (memRead m 9).toNat ≤ 255
  cls : ∀ c : Channel, (memRead m (64 + 4 * c.val)).toNat ≤ 2
  startPreset : (memRead m 16).toNat < 64 ∨ (memRead m 16).toNat = 255
  columns : memField m 19 2 ≤ 8192 ∧ memField m 23 2 ≤ memField m 25 2 ∧ memField m 25 2 < memField m 19 2 ∧
    memField m 25 2 + 1 - memField m 23 2 ≤ 1024
  rows : memField m 21 2 ≤ 4096 ∧ memField m 27 2 ≤ memField m 29 2 ∧ memField m 29 2 < memField m 21 2 ∧
    memField m 29 2 + 1 - memField m 27 2 ≤ 576
  initialLook : lookInUse m (memRead m 636).toNat = true
  look : ∀ l : LookNo, checkLook m l.val = true
  arcCount : (memRead m 637).toNat ≤ 24
  arc : ∀ i < (memRead m 637).toNat, checkArc m i = true
  entering : ∀ l : LookNo, checkEntering m l.val = true
  pin : ∀ p : Fin 4, (memRead m (576 + p.val)).toNat < 24 ∨ (memRead m (576 + p.val)).toNat = 255
  protect : (memRead m 15).toNat ≤ 1

theorem runCheck_of_passed {m : Memory} (h : firstFailedCheck m = none) (n : Fin 9) : runCheck m (n + 1) = true :=
  (runCheck_iff m _).2 (firstFailedCheck_eq_none_iff.1 h (n + 1) (by omega) (by omega))

theorem checkedStore_of_passed {m : Memory} (h : firstFailedCheck m = none) : CheckedStore m := by
  have hperiod : checkPeriod m = true := runCheck_of_passed h 0
  have hframes : checkFrames m = true := runCheck_of_passed h 1
  have hlate : checkLateWindow m = true := runCheck_of_passed h 2
  have hbudget : checkBudget m = true := runCheck_of_passed h 3
  have hclasses : checkClasses m = true := runCheck_of_passed h 4
  have hpreset : checkStartPreset m = true := runCheck_of_passed h 5
  have hwindow : checkWindow m = true := runCheck_of_passed h 6
  have hlooks : checkLooks m = true := runCheck_of_passed h 7
  have hprotect : checkProtect m = true := runCheck_of_passed h 8
  simp only [checkFrames, checkBudget, Bool.and_eq_true, within_iff] at hframes hbudget
  simp only [checkWindow, checkLooks, Bool.and_eq_true, within_iff, all_range_iff, belowOrNone_iff,
    decide_eq_true_eq, and_assoc] at hwindow hlooks
  obtain ⟨hseek, hjoin⟩ := hframes
  obtain ⟨⟨⟨hlimit, -, hkMin⟩, hrise⟩, hhold⟩ := hbudget
  obtain ⟨-, hcolumns, -, hrows, hcs, hce, hrs, hre, hwidth, hheight⟩ := hwindow
  obtain ⟨hinitial, hlook, hcount, harc, hentering, hpin⟩ := hlooks
  exact {
    period := within_iff.1 hperiod, seekFrames := hseek, joinFrames := hjoin
    lateWindow := (within_iff.1 hlate).2
    limitC := hlimit, kMin := hkMin, riseStep := hrise, peerHold := hhold
    cls := checkClasses_iff.1 hclasses
    startPreset := belowOrNone_iff.1 hpreset
    columns := ⟨hcolumns, hcs, hce, hwidth⟩, rows := ⟨hrows, hrs, hre, hheight⟩
    initialLook := hinitial, look := hlook, arcCount := hcount
    arc := fun i hi => harc ⟨i, hi⟩
    entering := hentering, pin := hpin
    protect := decide_eq_true_iff.1 hprotect }

/-! ### The image of a store (R197) -/

section
variable {m : Memory}

theorem readImage_channels (c : Channel) : (readImage m).channels[c] = readChannel m c.val := by simp [readImage]

theorem readImage_pinMap (p : Fin 4) :
    (readImage m).pinMap[p] = conditionOfNat (memRead m (576 + p.val)).toNat := by
  simp [readImage, storeByte_eq]

theorem readImage_looks (l : LookNo) : (readImage m).looks[l] = readLook m l.val := by simp [readImage]

theorem readImage_profiles (p : Fin 4) (t : Fin 144) : (readImage m).profiles[p][t] = readGains m p.val t.val := by
  simp [readImage]

theorem readImage_arcs_length : (readImage m).arcs.length = (memRead m 637).toNat := by
  simp [readImage, arcCount, storeByte_eq]

theorem readImage_arcs_getElem? {n : Nat} {a : Arc} (h : (readImage m).arcs[n]? = some a) :
    n < (memRead m 637).toNat ∧ readArc m n = a := by
  obtain ⟨hn, harc⟩ := List.getElem?_eq_some_iff.1 h
  rw [readImage_arcs_length] at hn
  exact ⟨hn, by simpa [readImage] using harc⟩

theorem mem_readImage_arcs {a : Arc} (h : a ∈ (readImage m).arcs) :
    ∃ n < (memRead m 637).toNat, readArc m n = a := by
  obtain ⟨n, hn⟩ := List.mem_iff_getElem?.1 h
  exact ⟨n, readImage_arcs_getElem? hn⟩

/-! ### Channels, condition pins and gains -/

/-- A channel record whose class code is checked (R74). -/
theorem readChannel_cls {c : Nat} (h : (memRead m (64 + 4 * c)).toNat ≤ 2) :
    ((readChannel m c).cls = .scaled ↔ (memRead m (64 + 4 * c)).toNat = 0) ∧
      ((readChannel m c).cls = .unscaled ↔ (memRead m (64 + 4 * c)).toNat = 1) ∧
      ((readChannel m c).cls = .pinned ↔ (memRead m (64 + 4 * c)).toNat = 2) := by
  obtain hcode | hcode | hcode : (memRead m (64 + 4 * c)).toNat = 0 ∨ (memRead m (64 + 4 * c)).toNat = 1 ∨
      (memRead m (64 + 4 * c)).toNat = 2 := by omega
  all_goals simp [readChannel, storeByte_eq, channelAddress, hcode]

theorem readChannel_rated (c : Nat) : (readChannel m c).rated = memRead m (65 + 4 * c) := by
  simp only [readChannel, channelAddress, Nat.add_right_comm 64]

theorem readChannel_pinned (c : Nat) : (readChannel m c).pinned.toNat = memField m (66 + 4 * c) 2 := by
  simp only [readChannel, channelAddress, Nat.add_right_comm 64, ofNat_memField_two]

theorem conditionOfNat_eq_none_iff {n : Nat} : conditionOfNat n = none ↔ 24 ≤ n := by
  simp [conditionOfNat]

theorem conditionOfNat_eq_some_iff {n : Nat} {c : ConditionNo} : conditionOfNat n = some c ↔ n = c.val := by
  unfold conditionOfNat
  split
  · rw [Option.some_inj, Fin.ext_iff]
  next hlarge => exact ⟨nofun, fun hc => absurd (hc ▸ c.isLt) hlarge⟩

theorem readGains_toNat (p t : Nat) :
    (readGains m p t).r.toNat = memField m (1024 + 864 * p + 6 * t) 2 ∧
      (readGains m p t).g.toNat = memField m (1026 + 864 * p + 6 * t) 2 ∧
      (readGains m p t).b.toNat = memField m (1028 + 864 * p + 6 * t) 2 := by
  have haddress (k : Nat) : gainAddress p t + k = 1024 + k + 864 * p + 6 * t := by rw [gainAddress]; omega
  refine ⟨ofNat_memField_two m _, ?_, ?_⟩
  · exact (ofNat_memField_two m _).trans (by rw [haddress])
  · exact (ofNat_memField_two m _).trans (by rw [haddress])

/-! ### Looks (R59) -/

theorem lookOfNat_val {n : Nat} (h : n < 8) : (lookOfNat n).val = n := Nat.mod_eq_of_lt h

theorem lookOfNat_eq_iff {n : Nat} {l : LookNo} (h : n < 8) : lookOfNat n = l ↔ n = l.val := by
  rw [Fin.ext_iff, lookOfNat_val h]

theorem lt_of_lookInUse {l : Nat} (h : lookInUse m l = true) : l < 8 := (lookInUse_iff.1 h).1

theorem readLook_inUse (l : Nat) : (readLook m l).inUse = lookInUse m l := by
  unfold readLook
  split
  next hused => exact hused.symm
  next hunused => exact ((Bool.not_eq_true _).mp hunused).symm

/-- A look is in use in the image when it is in the store. -/
theorem readImage_looks_inUse (l : LookNo) : (readImage m).looks[l].inUse = lookInUse m l.val := by
  rw [readImage_looks, readLook_inUse]

theorem readLook_of_inUse {l : Nat} (h : lookInUse m l = true) :
    readLook m l =
      { inUse := true
        preset := byteOrNone m (581 + 7 * l)
        frames := BitVec.ofNat 16 (memField m (582 + 7 * l) 2)
        profile := byteOrNone m (584 + 7 * l)
        airSafe := (memRead m (585 + 7 * l)).toNat == 1
        dwell := (memRead m (586 + 7 * l)).toNat } := by
  simp only [readLook, h, if_true, lookAddress, Nat.add_right_comm 580, storeByte_eq]

theorem CheckedStore.initialLook_val (h : CheckedStore m) : (readImage m).initialLook.val = (memRead m 636).toNat :=
  lookOfNat_val (lt_of_lookInUse h.initialLook)

/-! ### Arcs (R60) -/

theorem readArc_source_eq (i : Nat) : (readArc m i).source =
    if (memRead m (638 + 4 * i)).toNat = 8 then none else some (lookOfNat (memRead m (638 + 4 * i)).toNat) := rfl

/-- The from-look of an arc that is checked; code 8 is ANY. -/
theorem readArc_source {i : Nat} (h : checkArc m i = true) :
    ((readArc m i).source = none ↔ (memRead m (638 + 4 * i)).toNat = 8) ∧
      ∀ l : LookNo, (readArc m i).source = some l ↔ (memRead m (638 + 4 * i)).toNat = l.val := by
  obtain ⟨-, hsource, -⟩ := checkArc_iff.1 h
  rw [readArc_source_eq]
  split
  next hany => exact ⟨by simp [hany], fun l => ⟨nofun, fun hl => absurd l.isLt (by omega)⟩⟩
  next hlook =>
    have hlt := lt_of_lookInUse (hsource.resolve_left hlook)
    exact ⟨by simp [hlook], fun l => by rw [Option.some_inj, lookOfNat_eq_iff hlt]⟩

theorem readArc_target (i : Nat) : (readArc m i).target = lookOfNat (memRead m (639 + 4 * i)).toNat := by
  simp only [readArc, storeByte_eq, arcAddress, Nat.add_right_comm 638]

theorem readArc_target_val {i : Nat} (h : checkArc m i = true) :
    (readArc m i).target.val = (memRead m (639 + 4 * i)).toNat := by
  obtain ⟨htarget, -⟩ := checkArc_iff.1 h
  rw [readArc_target, lookOfNat_val (lt_of_lookInUse htarget)]

theorem readArc_condition_val {i : Nat} (h : checkArc m i = true) :
    (readArc m i).condition.val = (memRead m (640 + 4 * i)).toNat := by
  obtain ⟨-, -, -, hcondition, -⟩ := checkArc_iff.1 h
  simp [readArc, storeByte_eq, arcAddress, Nat.add_right_comm 638, conditionOfNat, hcondition]

theorem readArc_required {i : Nat} : (readArc m i).required = true ↔ (memRead m (641 + 4 * i)).toNat = 1 := by
  simp only [readArc, storeByte_eq, arcAddress, Nat.add_right_comm 638, beq_iff_eq]

/-- An arc leads from ANY or a look in use to another look in use (R61). -/
theorem readArc_looks {i : Nat} (h : checkArc m i = true) :
    ((readImage m).looks[(readArc m i).target].inUse = true ∧
      (readArc m i).source ≠ some (readArc m i).target) ∧
      ∀ l, (readArc m i).source = some l → (readImage m).looks[l].inUse = true := by
  obtain ⟨htarget, hsource, hdiffer, -⟩ := checkArc_iff.1 h
  obtain ⟨-, hsome⟩ := readArc_source h
  refine ⟨⟨by rw [readImage_looks_inUse, readArc_target_val h, htarget], fun heq => ?_⟩, fun l hl => ?_⟩
  · exact hdiffer (((hsome _).1 heq).trans (readArc_target_val h))
  · have hbyte := (hsome l).1 hl
    rw [readImage_looks_inUse, ← hbyte]
    exact hsource.resolve_left fun hany => absurd l.isLt (by omega)

/-- The arcs of the image into a look are those of the store (R61). -/
theorem CheckedStore.arcs_into (h : CheckedStore m) (l : LookNo) :
    ((readImage m).arcs.countP fun a => decide (a.target = l)) ≤ 3 := by
  have hsame : ((readImage m).arcs.countP fun a => decide (a.target = l)) =
      (List.range (memRead m 637).toNat).countP fun i => decide ((memRead m (639 + 4 * i)).toNat = l.val) := by
    refine List.countP_map.trans (List.countP_congr fun i hi => ?_)
    simp [Fin.ext_iff, readArc_target_val (h.arc i (List.mem_range.1 hi))]
  exact hsame.trans_le (checkEntering_iff.1 (h.entering l))

end

/-! ### The image of a store that passes (R181, R182, R197) -/

section
variable {m : Memory}

theorem CheckedStore.initialLook_inUse (h : CheckedStore m) :
    (readImage m).looks[(readImage m).initialLook].inUse = true := by
  rw [readImage_looks_inUse, h.initialLook_val, h.initialLook]

/-- The segment is not empty and fits the banks (R138). -/
theorem CheckedStore.segment (h : CheckedStore m) :
    1 ≤ segmentWidth (readImage m) ∧ segmentWidth (readImage m) ≤ 1024 ∧
      1 ≤ segmentHeight (readImage m) ∧ segmentHeight (readImage m) ≤ 576 := by
  obtain ⟨-, hcolumns, -, hwidth⟩ := h.columns
  obtain ⟨-, hrows, -, hheight⟩ := h.rows
  have hone {low high : Nat} (hle : low ≤ high) : 1 ≤ high + 1 - low := by omega
  exact ⟨hone hcolumns, hwidth, hone hrows, hheight⟩

/-- A look in use has its dwell, preset and profile in range (R61). -/
theorem CheckedStore.look_in_range (h : CheckedStore m) {l : LookNo} (hused : (readImage m).looks[l].inUse = true) :
    (1 ≤ (readImage m).looks[l].dwell ∧ (readImage m).looks[l].dwell ≤ 255) ∧
      (∀ p : Byte, (readImage m).looks[l].preset = some p → p.toNat < 64) ∧
      (∀ p : Byte, (readImage m).looks[l].profile = some p → p.toNat < 4) ∧
      (memRead m (585 + 7 * l.val)).toNat ≤ 1 := by
  rw [readImage_looks_inUse] at hused
  obtain ⟨-, hranges⟩ := checkLook_iff.1 (h.look l)
  obtain ⟨hdwell, hpreset, hprofile, hairSafe⟩ := hranges hused
  rw [readImage_looks, readLook_of_inUse hused]
  exact ⟨hdwell, fun p => byteOrNone_lt hpreset, fun p => byteOrNone_lt hprofile, hairSafe⟩

end

/-- Settles O53: the ranges of the nine checks, the failed check as the first that does not pass, and every figure read
from its own bytes. -/
theorem checkedImageInRange : Obligations.CheckedImageInRange := by
  refine ⟨fun m hpassed => ?_, fun m => ⟨firstFailedCheck_eq_none_iff, fun n => firstFailedCheck_eq_some_iff,
    storeCheckAgrees_iff⟩, fun m hpassed => ?_⟩
  · have h := checkedStore_of_passed hpassed
    have harc : ∀ a ∈ (readImage m).arcs,
        ((readImage m).looks[a.target].inUse = true ∧ a.source ≠ some a.target) ∧
          ∀ l, a.source = some l → (readImage m).looks[l].inUse = true := by
      intro a ha
      obtain ⟨n, hn, rfl⟩ := mem_readImage_arcs ha
      exact readArc_looks (h.arc n hn)
    intro i
    obtain ⟨hwidth, hwidth', hheight, hheight'⟩ := h.segment
    obtain ⟨hcolumns, hcs, hce, -⟩ := h.columns
    obtain ⟨hrows, hrs, hre, -⟩ := h.rows
    refine ⟨⟨h.period.1, h.period.2, h.seekFrames.1, h.seekFrames.2, h.joinFrames.1, h.joinFrames.2, h.lateWindow,
      h.limitC.1, h.limitC.2, h.kMin, h.riseStep.1, h.riseStep.2, h.peerHold.1, h.peerHold.2, hwidth, hwidth', hheight,
      hheight', hce, hcolumns, hre, hrows, readImage_arcs_length.trans_le h.arcCount, h.initialLook_inUse,
      fun l hused => (h.look_in_range hused).1, fun a ha => (harc a ha).1⟩, hcs, hrs, h.cls,
      fun p => byteOrNone_lt h.startPreset, fun l => ⟨(checkLook_iff.1 (h.look l)).1, fun hused =>
      (h.look_in_range hused).2⟩, fun a l ha => (harc a ha).2 l, fun n hn => ?_, h.arcs_into, h.pin, h.protect⟩
    rw [readImage_arcs_length] at hn
    obtain ⟨-, -, -, hcondition, hrequired⟩ := checkArc_iff.1 (h.arc n hn)
    exact ⟨hcondition, hrequired⟩
  · have h := checkedStore_of_passed hpassed
    intro i b w orNone
    have hword (a : Nat) : memField m a 2 = w a := memField_two m a
    have hnone (a : Nat) : byteOrNone m a = orNone a := byteOrNone_eq m a
    refine ⟨⟨rfl, hword 1, hword 3, hword 5, hword 7, rfl, rfl, hword 11, rfl, rfl, beq_iff_eq, hnone 16,
      (ofNat_memField_two m 17).trans (hword 17), hword 19, hword 21, hword 23, hword 25, hword 27, hword 29⟩,
      fun c => ?_, fun p => ⟨?_, fun c => ?_⟩, fun l => ⟨?_, fun hused => ?_⟩, h.initialLook_val,
      readImage_arcs_length, fun n a ha => ?_, fun p t => ?_⟩
    · obtain ⟨hscaled, hunscaled, hpinned⟩ := readChannel_cls (h.cls c)
      rw [readImage_channels]
      exact ⟨hscaled, hunscaled, hpinned, readChannel_rated _, (readChannel_pinned _).trans (hword _)⟩
    · have hpin : b (576 + p.val) < 24 ∨ b (576 + p.val) = 255 := h.pin p
      rw [readImage_pinMap, conditionOfNat_eq_none_iff]
      change 24 ≤ b (576 + p.val) ↔ b (576 + p.val) = 255
      omega
    · rw [readImage_pinMap, conditionOfNat_eq_some_iff]
    · rw [readImage_looks_inUse, lookInUse_iff]
      exact and_iff_right l.isLt
    · rw [readImage_looks_inUse] at hused
      rw [readImage_looks, readLook_of_inUse hused]
      exact ⟨hnone _, (ofNat_memField_two m _).trans (hword _), hnone _, beq_iff_eq, rfl⟩
    · obtain ⟨hn, rfl⟩ := readImage_arcs_getElem? ha
      have harc := h.arc n hn
      obtain ⟨hany, hsource⟩ := readArc_source harc
      exact ⟨hany, hsource, readArc_target_val harc, readArc_condition_val harc, readArc_required⟩
    · obtain ⟨hr, hg, hb⟩ := readGains_toNat (m := m) p.val t.val
      rw [readImage_profiles]
      exact ⟨hr.trans (hword _), hg.trans (hword _), hb.trans (hword _)⟩

end Sys2Proof.Machine
end

section
/-! The run notices to the fade engine and the wall feed (R184): which operations leave both on their way. -/

namespace Sys2Proof.Machine

@[simp] theorem genlockPulse_runNotices (now : Nanos) (s : State) :
    (genlockPulse now s).transit.runFade = s.transit.runFade ∧
      (genlockPulse now s).transit.runWall = s.transit.runWall := by
  unfold genlockPulse pulseLocked pulseUnlocked lockTimebase
  dsimp only
  (repeat' split) <;> simp [issueFrameStart, deliverFrame]

@[simp] theorem lossDeadline_runNotices (s : State) :
    (lossDeadline s).transit.runFade = s.transit.runFade ∧ (lossDeadline s).transit.runWall = s.transit.runWall := by
  unfold lossDeadline
  split <;> simp [issueFrameStart, deliverFrame]

@[simp] theorem internalTimerExpiry_runNotices (s : State) :
    (internalTimerExpiry s).transit.runFade = s.transit.runFade ∧
      (internalTimerExpiry s).transit.runWall = s.transit.runWall := by
  unfold internalTimerExpiry
  split <;> simp [issueFrameStart, deliverFrame]

@[simp] theorem seekEnd_runNotices (s : State) :
    (seekEnd s).transit.runFade = s.transit.runFade ∧ (seekEnd s).transit.runWall = s.transit.runWall := by
  unfold seekEnd
  dsimp only
  (repeat' split) <;> simp

@[simp] theorem takeDue_runNotices (s : State) :
    (takeDue s).transit.runFade = s.transit.runFade ∧ (takeDue s).transit.runWall = s.transit.runWall := by
  simp [takeDue_eq]

@[simp] theorem cueListFrameStart_runNotices (s : State) :
    (cueListFrameStart s).transit.runFade = s.transit.runFade ∧
      (cueListFrameStart s).transit.runWall = s.transit.runWall := by
  unfold cueListFrameStart
  split <;> simp [cueFrame_eq]

@[simp] theorem runNoticeCueList_runNotices (s : State) :
    (runNoticeCueList s).transit.runFade = s.transit.runFade ∧
      (runNoticeCueList s).transit.runWall = s.transit.runWall := by
  unfold runNoticeCueList
  dsimp only
  (repeat' split) <;> simp

@[simp] theorem actOnCondition_runNotices (c : ConditionNo) (v : Bool) (source : StationNo) (s : State) :
    (actOnCondition c v source s).transit.runFade = s.transit.runFade ∧
      (actOnCondition c v source s).transit.runWall = s.transit.runWall := by
  unfold actOnCondition
  dsimp only
  split <;> simp

@[simp] theorem takeCond_runNotices (m : Message) (s : State) :
    (takeCond m s).transit.runFade = s.transit.runFade ∧ (takeCond m s).transit.runWall = s.transit.runWall := by
  unfold takeCond
  split <;> simp

@[simp] theorem debouncedChange_runNotices (pin : Fin 4) (s : State) :
    (debouncedChange pin s).transit.runFade = s.transit.runFade ∧
      (debouncedChange pin s).transit.runWall = s.transit.runWall := by
  unfold debouncedChange pinChange
  dsimp only
  (repeat' split) <;> simp

@[simp] theorem samplePin_runNotices (pin : Fin 4) (s : State) :
    (samplePin pin s).transit.runFade = s.transit.runFade ∧ (samplePin pin s).transit.runWall = s.transit.runWall := by
  unfold samplePin pinChange
  (repeat' split) <;> simp

@[simp] theorem enterLook_runNotices (l : LookNo) (cause : EntryCause) (s : State) :
    (enterLook l cause s).transit.runFade = s.transit.runFade ∧
      (enterLook l cause s).transit.runWall = s.transit.runWall := by
  simp [enterLook]

@[simp] theorem considerTransition_runNotices (s : State) :
    (considerTransition s).transit.runFade = s.transit.runFade ∧
      (considerTransition s).transit.runWall = s.transit.runWall := by
  unfold considerTransition
  split <;> simp

@[simp] theorem lookFrameStart_runNotices (s : State) :
    (lookFrameStart s).transit.runFade = s.transit.runFade ∧
      (lookFrameStart s).transit.runWall = s.transit.runWall := by
  unfold lookFrameStart lookFrame firstEntry
  dsimp only
  (repeat' split) <;> simp

@[simp] theorem conditionChangeNotice_runNotices (s : State) :
    (conditionChangeNotice s).transit.runFade = s.transit.runFade ∧
      (conditionChangeNotice s).transit.runWall = s.transit.runWall := by
  unfold conditionChangeNotice
  dsimp only
  (repeat' split) <;> simp

@[simp] theorem runNoticeLook_runNotices (s : State) :
    (runNoticeLook s).transit.runFade = s.transit.runFade ∧ (runNoticeLook s).transit.runWall = s.transit.runWall := by
  unfold runNoticeLook firstEntry holdConditions samplePins
  dsimp only
  (repeat' split) <;> simp

@[simp] theorem lookHome_runNotices (s : State) :
    (lookHome s).transit.runFade = s.transit.runFade ∧ (lookHome s).transit.runWall = s.transit.runWall := by
  unfold lookHome
  dsimp only
  (repeat' split) <;> simp

@[simp] theorem keepRequest_runNotices (atHead : Bool) (r : FadeRequest) (n : Fin 64) (s : State) :
    (keepRequest atHead r n s).transit.runFade = s.transit.runFade ∧
      (keepRequest atHead r n s).transit.runWall = s.transit.runWall := by
  unfold keepRequest
  split <;> simp

@[simp] theorem fadeStartRequest_runNotices (origin : Origin) (s : State) :
    (fadeStartRequest origin s).transit.runFade = s.transit.runFade ∧
      (fadeStartRequest origin s).transit.runWall = s.transit.runWall := by
  unfold fadeStartRequest takeFadeRequest
  (repeat' split) <;> simp

@[simp] theorem contentAnswer_runNotices (s : State) :
    (contentAnswer s).transit.runFade = s.transit.runFade ∧ (contentAnswer s).transit.runWall = s.transit.runWall := by
  unfold contentAnswer
  (repeat' split) <;> simp

@[simp] theorem answerWithoutContent_runNotices (s : State) :
    (answerWithoutContent s).transit.runFade = s.transit.runFade ∧
      (answerWithoutContent s).transit.runWall = s.transit.runWall := by
  unfold answerWithoutContent
  (repeat' split) <;> simp

@[simp] theorem fadeFrameStart_runNotices (s : State) :
    (fadeFrameStart s).transit.runFade = s.transit.runFade ∧
      (fadeFrameStart s).transit.runWall = s.transit.runWall := by
  unfold fadeFrameStart
  dsimp only
  (repeat' split) <;> simp

@[simp] theorem scaleArrivalFade_runNotices (s : State) :
    (scaleArrivalFade s).transit.runFade = s.transit.runFade ∧
      (scaleArrivalFade s).transit.runWall = s.transit.runWall := by
  unfold scaleArrivalFade
  dsimp only
  (repeat' split) <;> simp

@[simp] theorem protectionNotice_runNotices (s : State) :
    (protectionNotice s).transit.runFade = s.transit.runFade ∧
      (protectionNotice s).transit.runWall = s.transit.runWall := by
  unfold protectionNotice
  dsimp only
  (repeat' split) <;> simp

@[simp] theorem arbitrate_runNotices (s : State) :
    (arbitrate s).transit.runFade = s.transit.runFade ∧ (arbitrate s).transit.runWall = s.transit.runWall := by
  unfold arbitrate
  split <;> simp [answerHeads]

@[simp] theorem takeCommit_runNotices (m : Message) (s : State) :
    (takeCommit m s).transit.runFade = s.transit.runFade ∧ (takeCommit m s).transit.runWall = s.transit.runWall := by
  unfold takeCommit
  dsimp only
  (repeat' split) <;> simp

@[simp] theorem presetReadRequest_runNotices (s : State) :
    (presetReadRequest s).transit.runFade = s.transit.runFade ∧
      (presetReadRequest s).transit.runWall = s.transit.runWall := by
  unfold presetReadRequest takeRead answerRead
  (repeat' split) <;> simp

@[simp] theorem arrayReadEnd_runNotices (s : State) :
    (arrayReadEnd s).transit.runFade = s.transit.runFade ∧ (arrayReadEnd s).transit.runWall = s.transit.runWall := by
  unfold arrayReadEnd answerRead
  split <;> simp

@[simp] theorem suspensionReached_runNotices (s : State) :
    (suspensionReached s).transit.runFade = s.transit.runFade ∧
      (suspensionReached s).transit.runWall = s.transit.runWall := by
  unfold suspensionReached
  dsimp only
  (repeat' split) <;> simp [answerHeads]

@[simp] theorem finishOperation_runNotices (s : State) :
    (finishOperation s).transit.runFade = s.transit.runFade ∧
      (finishOperation s).transit.runWall = s.transit.runWall := by
  simp [finishOperation]

@[simp] theorem verifyEnd_runNotices (success : Bool) (s : State) :
    (verifyEnd success s).transit.runFade = s.transit.runFade ∧
      (verifyEnd success s).transit.runWall = s.transit.runWall := by
  unfold verifyEnd endCommit
  (repeat' split) <;> simp

@[simp] theorem mapEraseEnd_runNotices (s : State) :
    (mapEraseEnd s).transit.runFade = s.transit.runFade ∧ (mapEraseEnd s).transit.runWall = s.transit.runWall := by
  unfold mapEraseEnd endMap
  split <;> simp

@[simp] theorem mapProgramEnd_runNotices (s : State) :
    (mapProgramEnd s).transit.runFade = s.transit.runFade ∧ (mapProgramEnd s).transit.runWall = s.transit.runWall := by
  unfold mapProgramEnd endMap
  (repeat' split) <;> simp

@[simp] theorem startScanEnd_runNotices (s : State) :
    (startScanEnd s).transit.runFade = s.transit.runFade ∧ (startScanEnd s).transit.runWall = s.transit.runWall := by
  unfold startScanEnd
  (repeat' split) <;> simp

@[simp] theorem restartRequest_runNotices (s : State) :
    (restartRequest s).transit.runFade = s.transit.runFade ∧
      (restartRequest s).transit.runWall = s.transit.runWall := by
  unfold restartRequest
  dsimp only
  (repeat' split) <;> simp

@[simp] theorem onAirAssertion_runNotices (s : State) :
    (onAirAssertion s).transit.runFade = s.transit.runFade ∧
      (onAirAssertion s).transit.runWall = s.transit.runWall := by
  unfold onAirAssertion qualifyPin setProtection
  split <;> simp

@[simp] theorem onAirDeassertion_runNotices (s : State) :
    (onAirDeassertion s).transit.runFade = s.transit.runFade ∧
      (onAirDeassertion s).transit.runWall = s.transit.runWall := by
  unfold onAirDeassertion qualifyPin setProtection
  split <;> simp

@[simp] theorem takeProtect_runNotices (m : Message) (s : State) :
    (takeProtect m s).transit.runFade = s.transit.runFade ∧ (takeProtect m s).transit.runWall = s.transit.runWall := by
  unfold takeProtect setProtection
  (repeat' split) <;> simp

@[simp] theorem mapCompletionNotice_runNotices (s : State) :
    (mapCompletionNotice s).transit.runFade = s.transit.runFade ∧
      (mapCompletionNotice s).transit.runWall = s.transit.runWall := by
  unfold mapCompletionNotice
  split <;> simp

@[simp] theorem requestMap_runNotices (op : ArrayOp) (s : State) :
    (requestMap op s).transit.runFade = s.transit.runFade ∧ (requestMap op s).transit.runWall = s.transit.runWall := by
  unfold requestMap handOver handOverMap
  dsimp only
  (repeat' split) <;> simp

@[simp] theorem takeMap_runNotices (m : Message) (s : State) :
    (takeMap m s).transit.runFade = s.transit.runFade ∧ (takeMap m s).transit.runWall = s.transit.runWall := by
  unfold takeMap
  (repeat' split) <;> simp

@[simp] theorem startScanMap_runNotices (s : State) :
    (startScanMap s).transit.runFade = s.transit.runFade ∧ (startScanMap s).transit.runWall = s.transit.runWall := by
  unfold startScanMap
  split <;> simp

@[simp] theorem wallFrameStart_runNotices (s : State) :
    (wallFrameStart s).transit.runFade = s.transit.runFade ∧
      (wallFrameStart s).transit.runWall = s.transit.runWall := by
  unfold wallFrameStart
  dsimp only
  (repeat' split) <;> simp

@[simp] theorem scaleArrivalWall_runNotices (s : State) :
    (scaleArrivalWall s).transit.runFade = s.transit.runFade ∧
      (scaleArrivalWall s).transit.runWall = s.transit.runWall := by
  unfold scaleArrivalWall
  dsimp only
  (repeat' split) <;> simp

@[simp] theorem nextWallAction_runNotices (kind : CueAction → Bool) (s : State) :
    (nextWallAction kind s).transit.runFade = s.transit.runFade ∧
      (nextWallAction kind s).transit.runWall = s.transit.runWall := by
  unfold nextWallAction
  (repeat' split) <;> simp

@[simp] theorem wallProfile_runNotices (origin : Origin) (s : State) :
    (wallProfile origin s).transit.runFade = s.transit.runFade ∧
      (wallProfile origin s).transit.runWall = s.transit.runWall := by
  unfold wallProfile lookProfile
  dsimp only
  (repeat' split) <;> simp

@[simp] theorem budgetFrameStart_runNotices (s : State) :
    (budgetFrameStart s).transit.runFade = s.transit.runFade ∧
      (budgetFrameStart s).transit.runWall = s.transit.runWall := by
  unfold budgetFrameStart budgetFrame settleScale
  dsimp only
  (repeat' split) <;> simp

@[simp] theorem joinNotice_runNotices (s : State) :
    (joinNotice s).transit.runFade = s.transit.runFade ∧ (joinNotice s).transit.runWall = s.transit.runWall := by
  unfold joinNotice
  dsimp only
  (repeat' split) <;> simp

@[simp] theorem takeRestart_runNotices (m : Message) (s : State) :
    (takeRestart m s).transit.runFade = s.transit.runFade ∧ (takeRestart m s).transit.runWall = s.transit.runWall := by
  unfold takeRestart
  split <;> simp

end Sys2Proof.Machine
end

section
/-! The outputs outside RUNNING: the fixture links are silent and the panel output is DARK (R87, R154, R185). -/

namespace Sys2Proof.Machine

/-! ### What keeps the outputs off outside RUNNING (R87, R90, R154, R184, R185) -/

/-- Links silent, panel output DARK, and no run notice that would change either (R87, R90, R154). -/
structure OutputsOff (s : State) : Prop where
  links : s.fade.enabled = false
  panel : s.wall.enabled = false
  waits : s.wall.noticeWaits = false
  runFade : s.transit.runFade = none
  runWall : s.transit.runWall = none

/-- Silent links have no packets, sent or owed (R87). -/
def LinksQuiet (f : FadeEngine) : Prop := f.enabled = false → f.sending = [] ∧ f.packets = .notDue

theorem liveOnlyRunning_iff {s : State} :
    LiveOnlyRunning s ↔ (s.station.state ≠ .running → OutputsOff s) ∧ LinksQuiet s.fade :=
  ⟨fun ⟨hoff, hquiet⟩ =>
      ⟨fun hstate => let ⟨hlinks, hpanel, hwaits, hfade, hwall⟩ := hoff hstate
        ⟨hlinks, hpanel, hwaits, hfade, hwall⟩, hquiet⟩,
    fun ⟨hoff, hquiet⟩ =>
      ⟨fun hstate => let h := hoff hstate
        ⟨h.links, h.panel, h.waits, h.runFade, h.runWall⟩, hquiet⟩⟩

/-- What a command that leaves the station's state alone keeps of the outputs. -/
structure OutputsKept (s t : State) : Prop where
  state : t.station.state = s.station.state
  off : OutputsOff s → OutputsOff t
  quiet : LinksQuiet s.fade → LinksQuiet t.fade

theorem OutputsKept.live {s t : State} (h : OutputsKept s t) (hs : LiveOnlyRunning s) : LiveOnlyRunning t := by
  obtain ⟨hoff, hquiet⟩ := liveOnlyRunning_iff.1 hs
  exact liveOnlyRunning_iff.2 ⟨fun hstate => h.off (hoff (h.state ▸ hstate)), h.quiet hquiet⟩

theorem OutputsKept.refl (s : State) : OutputsKept s s := ⟨rfl, id, id⟩

/-- What a command that does not enable the links keeps of them: they stay quiet while they are silent. -/
structure LinksKept (f f' : FadeEngine) : Prop where
  enabled : f'.enabled = f.enabled
  quiet : LinksQuiet f → LinksQuiet f'

theorem LinksKept.refl (f : FadeEngine) : LinksKept f f := ⟨rfl, id⟩

theorem LinksKept.trans {f f' f'' : FadeEngine} (h : LinksKept f f') (h' : LinksKept f' f'') : LinksKept f f'' :=
  ⟨h'.enabled.trans h.enabled, h'.quiet ∘ h.quiet⟩

theorem LinksKept.of_kept {f f' : FadeEngine} (henabled : f'.enabled = f.enabled) (hsending : f'.sending = f.sending)
    (hpackets : f'.packets = f.packets) : LinksKept f f' where
  enabled := henabled
  quiet h := by rwa [LinksQuiet, henabled, hsending, hpackets]

theorem LinksKept.of_eq {f f' : FadeEngine} (h : f' = f) : LinksKept f f' := h ▸ .refl f

theorem LinksKept.after {f : State → State} (h : ∀ x, LinksKept x.fade (f x).fade) {s s' : State}
    (hs : s'.fade = s.fade) : LinksKept s.fade (f s').fade := hs ▸ h s'

/-- Links that are enabled, before and after. -/
theorem LinksKept.of_enabled {f f' : FadeEngine} (h : f.enabled = true) (h' : f'.enabled = true) : LinksKept f f' where
  enabled := h'.trans h.symm
  quiet _ hoff := absurd h' (by simp [hoff])

/-- The panel output's state stays (R153, R154). -/
structure PanelKept (w w' : WallFeed) : Prop where
  enabled : w'.enabled = w.enabled
  waits : w'.noticeWaits = w.noticeWaits

theorem PanelKept.refl (w : WallFeed) : PanelKept w w := ⟨rfl, rfl⟩

theorem PanelKept.trans {w w' w'' : WallFeed} (h : PanelKept w w') (h' : PanelKept w' w'') : PanelKept w w'' :=
  ⟨h'.enabled.trans h.enabled, h'.waits.trans h.waits⟩

theorem PanelKept.of_eq {w w' : WallFeed} (h : w' = w) : PanelKept w w' := h ▸ .refl w

theorem PanelKept.after {f : State → State} (h : ∀ x, PanelKept x.wall (f x).wall) {s s' : State}
    (hs : s'.wall = s.wall) : PanelKept s.wall (f s').wall := hs ▸ h s'

theorem OutputsKept.of_kept {s t : State} (hstate : t.station.state = s.station.state)
    (hlinks : LinksKept s.fade t.fade) (hpanel : PanelKept s.wall t.wall)
    (hnotices : t.transit.runFade = s.transit.runFade ∧ t.transit.runWall = s.transit.runWall) : OutputsKept s t where
  state := hstate
  off h := ⟨hlinks.enabled.trans h.links, hpanel.enabled.trans h.panel, hpanel.waits.trans h.waits,
    hnotices.1.trans h.runFade, hnotices.2.trans h.runWall⟩
  quiet := hlinks.quiet

theorem OutputsKept.ite {s t : State} {p : Prop} [Decidable p] (h : OutputsKept s t) :
    OutputsKept s (if p then t else s) := by
  split
  · exact h
  · exact .refl s

theorem receive_outputsKept {owner : State → State} (h : ∀ x, OutputsKept x (owner x)) (code : BitVec 4) (m : Message)
    (s : State) : OutputsKept s (receive code m owner s) := by
  have hgap : OutputsKept s (lineToGap s) := .of_kept rfl (.refl _) (.refl _) ⟨rfl, rfl⟩
  obtain heq | heq | ⟨c, heq⟩ | heq := receive_cases code m owner s
  all_goals rw [heq]
  · exact .refl s
  · exact hgap
  · exact .of_kept rfl (.refl _) (.refl _) ⟨rfl, rfl⟩
  · have howner := h (lineToGap s)
    exact ⟨howner.state.trans hgap.state, howner.off ∘ hgap.off, howner.quiet ∘ hgap.quiet⟩

/-! ### The fade engine's commands -/

theorem keepRequest_linksKept (atHead : Bool) (r : FadeRequest) (n : Fin 64) (s : State) :
    LinksKept s.fade (keepRequest atHead r n s).fade := by
  unfold keepRequest
  split <;> exact .of_kept rfl rfl rfl

theorem takeFadeRequest_linksKept (r : FadeRequest) (s : State) : LinksKept s.fade (takeFadeRequest r s).fade := by
  unfold takeFadeRequest
  split
  · exact .refl _
  · split
    · exact .refl _
    · exact keepRequest_linksKept _ _ _ _

theorem fadeStartRequest_linksKept (origin : Origin) (s : State) :
    LinksKept s.fade (fadeStartRequest origin s).fade := by
  unfold fadeStartRequest
  split
  all_goals
    split
    · exact .refl _
    · exact .after (takeFadeRequest_linksKept _) rfl

theorem contentAnswer_linksKept (s : State) : LinksKept s.fade (contentAnswer s).fade := by
  unfold contentAnswer takeContent
  dsimp only
  (repeat' split) <;> exact .of_kept (by simp) (by simp) (by simp)

theorem answerWithoutContent_linksKept (s : State) : LinksKept s.fade (answerWithoutContent s).fade := by
  unfold answerWithoutContent takeNoContent
  dsimp only
  (repeat' split) <;> exact .of_kept (by simp) (by simp) (by simp)

@[simp] theorem formPackets_enabled (refresh : Bool) (k : Nat) (s : State) :
    (formPackets refresh k s).fade.enabled = s.fade.enabled := by
  rw [formPackets, setFade_fade]

@[simp] theorem sendPackets_enabled (s : State) : (sendPackets s).fade.enabled = s.fade.enabled := by
  unfold sendPackets
  split
  · rw [formPackets_enabled]
  · rw [setFade_fade]

/-- What the starts and steps of a frame start leave the fade engine (R81 to R87). -/
theorem stepFades_fade (e : FrameEvent) (s : State) : (stepFades e s).fade = { s.fade with
    frame := e.frame
    taken := e.serial
    channels := Vector.ofFn (channelAfter e s)
    requests := s.fade.requests.filter fun r => !requestDue e r
    k := scaleFor e.serial s.fade.scales
    scales := laterScales e.serial s.fade.scales
    packets := .notDue } := by
  rw [stepFades, countN_fade, setFade_fade]

/-- A frame start steps the fades, and sends or owes packets on enabled links alone (R87). -/
theorem fadeFrame_linksKept (e : FrameEvent) (s : State) : LinksKept s.fade (fadeFrame e s).fade := by
  unfold fadeFrame
  dsimp only
  split
  next hon =>
    refine .of_enabled hon ?_
    rw [sendPackets_enabled, stepFades_fade]
    exact hon
  next =>
    rw [stepFades_fade]
    exact ⟨rfl, fun h hoff => ⟨(h hoff).1, rfl⟩⟩

theorem fadeFrameStart_linksKept (s : State) : LinksKept s.fade (fadeFrameStart s).fade := by
  unfold fadeFrameStart
  split
  · exact .refl _
  · dsimp only
    split
    · exact .of_kept rfl rfl rfl
    · exact .after (fadeFrame_linksKept _) rfl

theorem fixturePacketsSent_linksKept (s : State) : LinksKept s.fade (fixturePacketsSent s).fade := by
  unfold fixturePacketsSent
  split
  · exact .refl _
  next p rest hsending =>
    have hsent : LinksKept s.fade { s.fade with sending := rest } :=
      ⟨rfl, fun h hoff => absurd (h hoff).1 (by simp [hsending])⟩
    dsimp only
    split
    · refine .trans ?_ (fadeFrame_linksKept _ _)
      exact hsent.trans (.of_kept rfl rfl rfl)
    · exact hsent

theorem scaleArrivalFade_linksKept (s : State) : LinksKept s.fade (scaleArrivalFade s).fade := by
  unfold scaleArrivalFade
  split
  · exact .refl _
  · dsimp only
    split
    · split
      next howed =>
        refine ⟨formPackets_enabled _ _ _, fun h hoff => ?_⟩
        rw [formPackets_enabled] at hoff
        exact absurd (h hoff).2 (by simp [howed])
      next => exact .of_kept rfl rfl rfl
    · split
      · exact .of_kept rfl rfl rfl
      · exact .refl _

theorem protectionNotice_linksKept (s : State) : LinksKept s.fade (protectionNotice s).fade := by
  unfold protectionNotice
  split
  · exact .refl _
  · dsimp only
    split
    next hon _ _ => exact .of_enabled hon ((formPackets_enabled _ _ _).trans hon)
    next => exact .refl _

/-! ### The wall feed's commands -/

theorem abandonLoad_panelKept (w : WallFeed) : PanelKept w (abandonLoad w) := by
  unfold abandonLoad
  split <;> exact ⟨rfl, rfl⟩

theorem lineError_panelKept (s : State) : PanelKept s.wall (lineError s).wall := by
  have h := abandonLoad_panelKept s.wall
  refine ⟨?_, ?_⟩
  · simpa [lineError] using h.enabled
  · simpa [lineError] using h.waits

theorem rasterFrameStart_panelKept (s : State) : PanelKept s.wall (rasterFrameStart s).wall := by
  unfold rasterFrameStart
  dsimp only
  (repeat' split) <;> exact ⟨rfl, rfl⟩

theorem lineMarker_panelKept (s : State) : PanelKept s.wall (lineMarker s).wall := by
  unfold lineMarker
  split
  · dsimp only
    split
    · exact (lineError_panelKept s).trans ⟨rfl, rfl⟩
    · exact ⟨rfl, rfl⟩
  · exact .refl _

theorem storePixel_panelKept (i : Image) (p : Pixel) (w : WallFeed) : PanelKept w (storePixel i p w) := by
  unfold storePixel completeLoad advancePointer setLoadBank
  dsimp only
  (repeat' split) <;> exact ⟨rfl, rfl⟩

theorem takePixel_panelKept (p : Pixel) (col row : Nat) (s : State) :
    PanelKept s.wall (takePixel p col row s).wall := by
  unfold takePixel
  split
  · exact storePixel_panelKept _ _ _
  · exact .refl _

theorem rasterPixel_panelKept (p : Pixel) (s : State) : PanelKept s.wall (rasterPixel p s).wall := by
  unfold rasterPixel
  split
  · dsimp only
    split
    · exact (lineError_panelKept s).trans ⟨rfl, rfl⟩
    · split
      · exact (lineError_panelKept s).trans ⟨rfl, rfl⟩
      · exact (takePixel_panelKept _ _ _ s).trans ⟨rfl, rfl⟩
  · exact .refl _

theorem codeError_panelKept (s : State) : PanelKept s.wall (codeError s).wall := by
  unfold codeError
  split
  · exact lineError_panelKept s
  · exact .refl _

theorem settleMute_panelKept (e : FrameEvent) (w : WallFeed) : PanelKept w (settleMute e w) := by
  unfold settleMute
  (repeat' split) <;> exact ⟨rfl, rfl⟩

theorem decideBanks_panelKept (s : State) : PanelKept s.wall (decideBanks s).wall := by
  unfold decideBanks
  (repeat' split) <;> exact ⟨rfl, rfl⟩

theorem beginScan_panelKept (w : WallFeed) : PanelKept w (beginScan w) := by
  unfold beginScan
  split <;> exact ⟨rfl, rfl⟩

theorem wallFrame_panelKept (e : FrameEvent) (s : State) : PanelKept s.wall (wallFrame e s).wall := by
  refine .trans ?_ (beginScan_panelKept _)
  refine .trans ?_ (decideBanks_panelKept _)
  rw [setWall_wall]
  refine .trans ?_ (settleMute_panelKept e _)
  exact ⟨rfl, rfl⟩

theorem wallFrameStart_panelKept (s : State) : PanelKept s.wall (wallFrameStart s).wall := by
  unfold wallFrameStart
  split
  · exact .refl _
  · dsimp only
    split
    · exact ⟨rfl, rfl⟩
    · exact .after (wallFrame_panelKept _) rfl

theorem scaleArrivalWall_panelKept (s : State) : PanelKept s.wall (scaleArrivalWall s).wall := by
  unfold scaleArrivalWall
  split
  · exact .refl _
  · dsimp only
    split
    · split
      · rw [setWall_wall]
        refine .trans ?_ (beginScan_panelKept _)
        exact ⟨rfl, rfl⟩
      · exact ⟨rfl, rfl⟩
    · split <;> exact ⟨rfl, rfl⟩

theorem takeProfile_panelKept (b : Byte) (s : State) : PanelKept s.wall (takeProfile b s).wall := by
  unfold takeProfile
  split <;> exact ⟨rfl, rfl⟩

theorem takeWallAction_panelKept (a : WallAction) (s : State) : PanelKept s.wall (takeWallAction a s).wall := by
  unfold takeWallAction
  split
  · exact .refl _
  · split
    case h_5 => exact takeProfile_panelKept _ s
    case h_1 =>
      unfold freezeWall
      split <;> exact ⟨rfl, rfl⟩
    all_goals exact ⟨rfl, rfl⟩

theorem nextWallAction_panelKept (kind : CueAction → Bool) (s : State) :
    PanelKept s.wall (nextWallAction kind s).wall := by
  unfold nextWallAction
  split
  · exact .refl _
  · split
    · exact .after (takeWallAction_panelKept _) rfl
    · exact .refl _

theorem wallProfile_panelKept (origin : Origin) (s : State) : PanelKept s.wall (wallProfile origin s).wall := by
  cases origin with
  | cueList => exact nextWallAction_panelKept _ s
  | lookMachine =>
    change PanelKept s.wall (lookProfile s).wall
    unfold lookProfile
    split
    · exact .refl _
    · dsimp only
      split
      · exact .refl _
      · exact .after (takeProfile_panelKept _) rfl

/-! ### The run notices (R90, R154) -/

/-- The run notice enables the links; without one they stay as they are (R90). -/
theorem runNoticeFade_outputsKept (s : State) : OutputsKept s (runNoticeFade s) := by
  cases hnotice : s.transit.runFade with
  | none =>
    rw [show runNoticeFade s = s by simp [runNoticeFade, hnotice]]
    exact .refl s
  | some n =>
    have hon : (runNoticeFade s).fade.enabled = true := by
      unfold runNoticeFade
      rw [hnotice]
      dsimp only
      split
      · rw [sendPackets_enabled, enableLinks, setFade_fade]
      · rw [enableLinks, setFade_fade]
    exact ⟨by simp, fun h => absurd h.runFade (by simp [hnotice]), fun _ hoff => absurd hon (by simp [hoff])⟩

/-- The run notice enables the panel output, or waits for the end of the scan (R154). -/
theorem runNoticeWall_outputsKept (s : State) : OutputsKept s (runNoticeWall s) := by
  cases hnotice : s.transit.runWall with
  | none =>
    rw [show runNoticeWall s = s by simp [runNoticeWall, hnotice]]
    exact .refl s
  | some n =>
    exact ⟨by simp, fun h => absurd h.runWall (by simp [hnotice]), fun h => by simpa using h⟩

/-- The end of a scan takes a run notice that waits, where one does (R154). -/
theorem scanEnd_outputsKept (s : State) : OutputsKept s (scanEnd s) := by
  refine ⟨by simp, fun h => ?_, fun h => by simpa using h⟩
  have hpanel : PanelKept s.wall (scanEnd s).wall := by
    unfold scanEnd
    split
    · exact .refl _
    · have hended : PanelKept s.wall { s.wall with
          scan := none, enabled := s.wall.enabled || s.wall.noticeWaits, noticeWaits := false } :=
        ⟨by simp [h.waits], h.waits.symm⟩
      dsimp only
      split
      · exact hended
      · refine .trans ?_ (wallFrame_panelKept _ _)
        exact hended.trans ⟨rfl, rfl⟩
  exact (OutputsKept.of_kept (t := scanEnd s) (by simp) (.of_eq (by simp)) hpanel (by simp)).off h

/-! ### Restart, SAFE and the way to RUNNING (R180, R184, R185) -/

theorem OutputsOff.live {s : State} (h : OutputsOff s) (hquiet : LinksQuiet s.fade) : LiveOnlyRunning s :=
  liveOnlyRunning_iff.2 ⟨fun _ => h, hquiet⟩

theorem restartBlocks_live (station : Station) (s : State) : LiveOnlyRunning (restartBlocks station s) :=
  OutputsOff.live ⟨rfl, rfl, rfl, rfl, rfl⟩ fun _ => ⟨rfl, rfl⟩

theorem enterSafe_live (cause : SafeCause) (failed : Option Nat) (s : State) :
    LiveOnlyRunning (enterSafe cause failed s) :=
  OutputsOff.live ⟨rfl, rfl, rfl, rfl, rfl⟩ fun _ => ⟨rfl, rfl⟩

theorem resetPinAssertion_live {s : State} (h : LiveOnlyRunning s) : LiveOnlyRunning (resetPinAssertion s) := by
  unfold resetPinAssertion
  dsimp only
  split
  · exact restartBlocks_live _ _
  · exact h

theorem resetPinDeassertion_live (straps : Straps) {s : State} (h : LiveOnlyRunning s) :
    LiveOnlyRunning (resetPinDeassertion straps s) := by
  unfold resetPinDeassertion
  dsimp only
  split
  · split
    · exact restartBlocks_live _ _
    · exact h
  · exact h

theorem arrayQuiet_live (straps : Straps) {s : State} (h : LiveOnlyRunning s) :
    LiveOnlyRunning (arrayQuiet straps s) := by
  unfold arrayQuiet
  split
  · split
    · have hrestart : LiveOnlyRunning (restart straps .restartMessage s.station.restartSource s) :=
        restartBlocks_live _ _
      unfold restartByMessage
      dsimp only
      split <;> exact hrestart
    · exact h
  · exact h

theorem strapChange_live (strap : Fin 5) {s : State} (h : LiveOnlyRunning s) :
    LiveOnlyRunning (strapChange strap s) := by
  obtain heq | heq := strapChange_cases strap s
  · rw [heq]
    exact enterSafe_live _ _ _
  · rwa [heq]

/-- A good image starts the wall feed DARK, and the station is LOADING before (R143, R181). -/
theorem loadingEnd_live (now : Nanos) {s : State} (h : LiveOnlyRunning s) : LiveOnlyRunning (loadingEnd now s) := by
  unfold loadingEnd
  split
  next hloading =>
    obtain ⟨hoff, hquiet⟩ := liveOnlyRunning_iff.1 h
    have hbefore := hoff (by rw [hloading.2]; decide)
    split
    · exact enterSafe_live _ _ _
    · split
      · exact enterSafe_live _ _ _
      · exact OutputsOff.live ⟨hbefore.links, rfl, rfl, hbefore.runFade, hbefore.runWall⟩ hquiet
  next => exact h

theorem scanEndNotice_live {s : State} (h : LiveOnlyRunning s) : LiveOnlyRunning (scanEndNotice s) := by
  obtain ⟨hoff, hquiet⟩ := liveOnlyRunning_iff.1 h
  unfold scanEndNotice
  split
  · dsimp only
    split
    next hscanning =>
      have hbefore := hoff (by simp [hscanning])
      exact OutputsOff.live ⟨hbefore.links, hbefore.panel, hbefore.waits, hbefore.runFade, hbefore.runWall⟩ hquiet
    next => exact h
  · exact h

/-- A frame start moves the station to RUNNING, where the outputs may go live, or sends no run notice (R183, R184). -/
theorem controllerCounts_live (e : FrameEvent) {s : State} (h : LiveOnlyRunning s) :
    LiveOnlyRunning (controllerCounts e s) := by
  obtain ⟨hoff, hquiet⟩ := liveOnlyRunning_iff.1 h
  unfold controllerCounts
  split
  next hseeking =>
    have hbefore := hoff (by simp [hseeking])
    dsimp only
    (repeat' split) <;>
      exact OutputsOff.live ⟨hbefore.links, hbefore.panel, hbefore.waits, hbefore.runFade, hbefore.runWall⟩ hquiet
  next hjoining =>
    have hbefore := hoff (by simp [hjoining])
    dsimp only
    split
    · exact liveOnlyRunning_iff.2 ⟨fun hstate => absurd rfl hstate, hquiet⟩
    · exact OutputsOff.live ⟨hbefore.links, hbefore.panel, hbefore.waits, hbefore.runFade, hbefore.runWall⟩ hquiet
  all_goals exact h

theorem controllerFrameStart_live {s : State} (h : LiveOnlyRunning s) : LiveOnlyRunning (controllerFrameStart s) := by
  unfold controllerFrameStart
  split
  · exact h
  · exact controllerCounts_live _ h

/-! ### Commands -/

/-- A command that leaves the station, the fade engine, the wall feed and the run notices alone. -/
theorem OutputsKept.of_eq {s t : State} (hstate : t.station.state = s.station.state) (hfade : t.fade = s.fade)
    (hwall : t.wall = s.wall)
    (hnotices : t.transit.runFade = s.transit.runFade ∧ t.transit.runWall = s.transit.runWall) : OutputsKept s t :=
  .of_kept hstate (.of_eq hfade) (.of_eq hwall) hnotices

theorem takeRestart_state (m : Message) (s : State) : (takeRestart m s).station.state = s.station.state := by
  unfold takeRestart
  split <;> rfl

theorem stnEdge_state (strap : Fin 5) (level : Bool) (now : Nanos) (s : State) :
    (stnEdge strap level now s).station.state = s.station.state := by
  unfold stnEdge
  dsimp only
  split <;> rfl

/-- Every command keeps the outputs from being live outside RUNNING: those of the fade engine, the wall feed and the
start-up controller one by one, and the rest by their frames. -/
theorem exec_keeps_liveOnlyRunning {c : Instr} {s t : State} (hs : LiveOnlyRunning s) (h : exec c s = .next t) :
    LiveOnlyRunning t := by
  cases c
  case powerOn => cases h; exact restartBlocks_live _ _
  case powerLoss => cases h; exact restartBlocks_live _ _
  case resetPinAssertion => cases h; exact resetPinAssertion_live hs
  case resetPinDeassertion straps => cases h; exact resetPinDeassertion_live straps hs
  case arrayQuiet straps => cases h; exact arrayQuiet_live straps hs
  case loadingEnd now => cases h; exact loadingEnd_live now hs
  case strapChange strap => cases h; exact strapChange_live strap hs
  case scanEndNotice => cases h; exact scanEndNotice_live hs
  case controllerFrameStart => cases h; exact controllerFrameStart_live hs
  case seekFramesEnd | joinFramesEnd =>
    cases h
    split
    · exact controllerFrameStart_live hs
    · exact hs
  all_goals refine OutputsKept.live ?_ hs
  case runNoticeFade => cases h; exact runNoticeFade_outputsKept s
  case runNoticeWall => cases h; exact runNoticeWall_outputsKept s
  case scanEnd => cases h; exact scanEnd_outputsKept s
  case fadeStartRequest origin =>
    cases h
    exact .of_kept (by simp) (fadeStartRequest_linksKept origin s) (.of_eq (by simp)) (by simp)
  case contentAnswer =>
    cases h
    exact .of_kept (by simp) (contentAnswer_linksKept s) (.of_eq (by simp)) (by simp)
  case answerWithoutContent =>
    cases h
    exact .of_kept (by simp) (answerWithoutContent_linksKept s) (.of_eq (by simp)) (by simp)
  case fadeFrameStart =>
    cases h
    exact .of_kept (by simp) (fadeFrameStart_linksKept s) (.of_eq (by simp)) (by simp)
  case fadeCompletion =>
    cases h
    exact .ite (.of_kept (by simp) (fadeFrameStart_linksKept s) (.of_eq (by simp)) (by simp))
  case fixturePacketsSent =>
    cases h
    exact .of_kept (by simp) (fixturePacketsSent_linksKept s) (.of_eq (by simp)) (by simp)
  case scaleArrivalFade =>
    cases h
    exact .of_kept (by simp) (scaleArrivalFade_linksKept s) (.of_eq (by simp)) (by simp)
  case protectionNotice =>
    cases h
    exact .of_kept (by simp) (protectionNotice_linksKept s) (.of_eq (by simp)) (by simp)
  case rasterFrameStart =>
    cases h
    exact .of_kept (by simp) (.of_eq (by simp)) (rasterFrameStart_panelKept s) (by simp)
  case lineMarker =>
    cases h
    exact .of_kept (by simp) (.of_eq (by simp)) (lineMarker_panelKept s) (by simp)
  case rasterPixel p =>
    cases h
    exact .of_kept (by simp) (.of_eq (by simp)) (rasterPixel_panelKept p s) (by simp)
  case codeError =>
    cases h
    exact .of_kept (by simp) (.of_eq (by simp)) (codeError_panelKept s) (by simp)
  case wallFrameStart =>
    cases h
    exact .of_kept (by simp) (.of_eq (by simp)) (wallFrameStart_panelKept s) (by simp)
  case scaleArrivalWall =>
    cases h
    exact .of_kept (by simp) (.of_eq (by simp)) (scaleArrivalWall_panelKept s) (by simp)
  case wallFreeze | wallRun | wallMute | wallUnmute =>
    cases h
    exact .of_kept (by simp) (.of_eq (by simp)) (nextWallAction_panelKept _ s) (by simp)
  case wallProfile origin =>
    cases h
    exact .of_kept (by simp) (.of_eq (by simp)) (wallProfile_panelKept origin s) (by simp)
  case restart m =>
    cases h
    exact receive_outputsKept
      (fun x => .of_eq (takeRestart_state m x) (by simp) (by simp) (by simp)) _ _ _
  case stnEdge strap level now =>
    cases h
    exact .of_eq (stnEdge_state strap level now s) (by simp) (by simp) (by simp)
  case time | reportReceived | preset | commit | cond | demand =>
    cases h
    exact receive_outputsKept (fun x => .of_eq (by simp) (by simp) (by simp) (by simp)) _ _ _
  case checkValueMismatch | unknownKind | take =>
    cases h
    split
    · exact .refl s
    · exact receive_outputsKept (fun x => .of_eq (by simp) (by simp) (by simp) (by simp)) _ _ _
  case cancel | protectOn | protectOff | protectCodeError | mapErase | mapProgram | mapCodeError =>
    cases h
    exact .ite (receive_outputsKept (fun x => .of_eq (by simp) (by simp) (by simp) (by simp)) _ _ _)
  all_goals
    cases h
    refine .of_eq ?_ ?_ ?_ ?_
    · simp [apply_ite State.station]
    · simp [apply_ite State.fade]
    · simp [apply_ite State.wall]
    · simp [apply_ite State.transit, apply_ite Transit.runFade, apply_ite Transit.runWall]

theorem step_keeps_liveOnlyRunning {s t : State} (hs : LiveOnlyRunning s) (h : step s = .next t) : LiveOnlyRunning t :=
  step_induction h hs fun _ rest hexec => exec_keeps_liveOnlyRunning (s := { s with pending := rest }) hs hexec

/-- While the panel output is DARK every panel pixel is black (R153). -/
theorem panelPixel_of_disabled {w : WallFeed} (h : w.enabled = false) (col row : Nat) :
    panelPixel w col row = black := by
  unfold panelPixel
  split
  · simp [h]
  · rfl

/-- Settles O8: what each command keeps of the links, the panel output and the run notices, and what silent links and a
DARK panel output send. -/
theorem outputsDarkOutsideRunning : Obligations.OutputsDarkOutsideRunning := by
  refine ⟨fun s t => step_keeps_liveOnlyRunning, fun s hs hstate => ?_⟩
  obtain ⟨hoff, hquiet⟩ := liveOnlyRunning_iff.1 hs
  have hdark := hoff hstate
  exact ⟨(hquiet hdark.links).1, panelPixel_of_disabled hdark.panel⟩

end Sys2Proof.Machine
end

section
/-! Levels: of a fade at each step (R85), on a channel's output (R88) and in the forecast (R91 to R93). -/

namespace Sys2Proof.Machine

/-! ### The level of a fade (R85) -/

/-- A part of a distance, truncated toward zero, lies between 0 and the distance. -/
theorem tdiv_between (d : Int) {j n : Nat} (h : j < n) :
    min 0 d ≤ Int.tdiv (d * j) n ∧ Int.tdiv (d * j) n ≤ max 0 d := by
  obtain ⟨k, rfl | rfl⟩ := d.eq_nat_or_neg
  all_goals have hpart : k * j / n ≤ k := Nat.div_le_of_le_mul (by rw [Nat.mul_comm]; gcongr)
  · have hval : Int.tdiv ((k : Int) * j) n = ((k * j / n : Nat) : Int) := rfl
    rw [hval]
    generalize k * j / n = q at hpart
    omega
  · have hval : Int.tdiv (-(k : Int) * j) n = -((k * j / n : Nat) : Int) := by
      rw [Int.neg_mul, Int.neg_tdiv]
      rfl
    rw [hval]
    generalize k * j / n = q at hpart
    omega

theorem fadeLevel_of_ended {total : BitVec 16} {j : Nat} (h : total.toNat ≤ j) (start target : Level) :
    fadeLevel start target total j = target := if_pos h

/-- Before the last step a fade's level is the start and the part of the distance covered, which fits a level (R85). -/
theorem fadeLevel_toNat_of_running {total : BitVec 16} {j : Nat} (h : j < total.toNat) (start target : Level) :
    ((fadeLevel start target total j).toNat : Int) =
      start.toNat + Int.tdiv (((target.toNat : Int) - start.toNat) * j) total.toNat := by
  have hbounds := tdiv_between ((target.toNat : Int) - start.toNat) h
  have hstart := start.isLt
  have htarget := target.isLt
  rw [fadeLevel, if_neg h.not_ge, BitVec.toNat_ofInt]
  omega

/-- A fade of one frame or more is at its start at step 0 (R85). -/
theorem fadeLevel_zero {total : BitVec 16} (h : total ≠ 0) (start target : Level) :
    fadeLevel start target total 0 = start := by
  have hpos : 0 < total.toNat := Nat.pos_of_ne_zero fun hzero => h (BitVec.eq_of_toNat_eq hzero)
  have hlevel := fadeLevel_toNat_of_running hpos start target
  simp only [Nat.cast_zero, mul_zero, Int.zero_tdiv, add_zero] at hlevel
  exact BitVec.eq_of_toNat_eq (by exact_mod_cast hlevel)

/-- Settles O26: a part of the distance to the target lies between none of it and all of it. -/
theorem fadeStaysBetweenStartAndTarget : Obligations.FadeStaysBetweenStartAndTarget := by
  intro start target n j
  have hbetween : min start.toNat target.toNat ≤ (fadeLevel start target n j).toNat ∧
      (fadeLevel start target n j).toNat ≤ max start.toNat target.toNat := by
    obtain hended | hruns := le_or_gt n.toNat j
    · rw [fadeLevel_of_ended hended]
      omega
    · have hlevel := fadeLevel_toNat_of_running hruns start target
      have hbounds := tdiv_between ((target.toNat : Int) - start.toNat) hruns
      omega
  exact ⟨hbetween.1, hbetween.2, fun hended => fadeLevel_of_ended hended _ _, fun hn => fadeLevel_zero hn _ _,
    fun hruns => fadeLevel_toNat_of_running hruns _ _⟩

/-! ### The output level of a channel (R88) -/

section
variable {s : State} {c : Channel}

theorem outputLevel_of_pinned (h : s.image.channels[c].cls = .pinned) (k : Nat) :
    outputLevel s k c = s.image.channels[c].pinned := by
  simp only [outputLevel, h]

theorem outputLevel_of_unscaled (h : s.image.channels[c].cls = .unscaled) (k : Nat) :
    outputLevel s k c = s.fade.channels[c].level := by
  simp only [outputLevel, h]

theorem outputLevel_of_protected (h : s.image.channels[c].cls = .scaled)
    (hprotected : protectedInForce s.protection c = true) (k : Nat) :
    outputLevel s k c = s.fade.channels[c].level := by
  simp only [outputLevel, h, if_pos hprotected]

/-- A scale of at most 1 makes no level larger (R88). -/
theorem scaled_le (l : Level) {k : Nat} (h : k ≤ 32768) : l.toNat * k / 32768 ≤ l.toNat :=
  Nat.div_le_of_le_mul (by rw [Nat.mul_comm]; gcongr)

theorem outputLevel_toNat_of_scaled (h : s.image.channels[c].cls = .scaled)
    (hfree : protectedInForce s.protection c = false) {k : Nat} (hk : k ≤ 32768) :
    (outputLevel s k c).toNat = s.fade.channels[c].level.toNat * k / 32768 := by
  have hle := scaled_le s.fade.channels[c].level hk
  have hlt := s.fade.channels[c].level.isLt
  simp only [outputLevel, h, hfree, Bool.false_eq_true, if_false, BitVec.toNat_ofNat]
  exact Nat.mod_eq_of_lt (hle.trans_lt hlt)

end

/-- Settles O30, by the class of the channel. -/
theorem outputLevels : Obligations.OutputLevels := by
  intro s k c hk
  refine ⟨fun h => outputLevel_of_pinned h k, fun h => outputLevel_of_unscaled h k, fun h =>
    ⟨fun hprotected => outputLevel_of_protected h hprotected k, fun hfree => ?_⟩⟩
  rw [outputLevel_toNat_of_scaled h hfree hk]
  exact ⟨rfl, scaled_le _ hk⟩

/-! ### The forecast level of a channel (R91 to R93) -/

section
variable {s : State} {c : Channel}

theorem isPinned_iff : isPinned s c = true ↔ s.image.channels[c].cls = .pinned := by rw [isPinned, beq_iff_eq]

theorem isPinned_eq_false_iff : isPinned s c = false ↔ s.image.channels[c].cls ≠ .pinned := by
  rw [← Bool.not_eq_true, isPinned_iff]

theorem forecastLevel_of_pinned (h : s.image.channels[c].cls = .pinned) (target : FrameNo) :
    forecastLevel s target c = s.image.channels[c].pinned.toNat :=
  if_pos (isPinned_iff.2 h)

theorem forecastLevel_of_covering (h : s.image.channels[c].cls ≠ .pinned) {r : RequestRecord}
    (hlast : lastCovering s c = some r) (target : FrameNo) : forecastLevel s target c =
      max (max s.fade.channels[c].level.toNat (requestTarget r c).toNat)
        ((s.fade.channels[c].fade.map fun f => (fadeLevelAt s.fade.frame target f).toNat).getD 0) := by
  simp only [forecastLevel, isPinned_eq_false_iff.2 h, hlast, Bool.false_eq_true, if_false]

theorem forecastLevel_of_uncovered (h : s.image.channels[c].cls ≠ .pinned) (hlast : lastCovering s c = none)
    (target : FrameNo) : forecastLevel s target c =
      (s.fade.channels[c].fade.map fun f => (fadeLevelAt s.fade.frame target f).toNat).getD
        s.fade.channels[c].level.toNat := by
  simp only [forecastLevel, isPinned_eq_false_iff.2 h, hlast, Bool.false_eq_true, if_false]

end

/-- Settles O32: the last covering request is the last of those the forecast filters, and a running fade's level is that
of R85 at its steps. -/
theorem forecastCases : Obligations.ForecastCases := by
  refine ⟨fun s target c => ?_, fun current target f j hj => ?_⟩
  · intro level covering
    refine ⟨fun hpinned => forecastLevel_of_pinned hpinned target, fun hpinned =>
      ⟨fun before after r x hrequests hr hlast hx => ?_, fun hnone => ?_⟩⟩
    · have hforecast := forecastLevel_of_covering hpinned
        (lastCovering_of_last hrequests hr hlast) target
      rw [requestTarget_of_content hx] at hforecast
      refine ⟨fun hfade => ?_, fun f hfade => ?_⟩
      · rw [hforecast, hfade]
        exact Nat.max_zero _
      · rw [hforecast, hfade]
        rfl
    · have hforecast := forecastLevel_of_uncovered hpinned (lastCovering_none hnone) target
      refine ⟨fun hfade => ?_, fun f hfade => ?_⟩
      · rw [hforecast, hfade]
        rfl
      · rw [hforecast, hfade]
        rfl
  · rw [fadeLevelAt, stepsAt, ← hj]
    exact ⟨fun hended => fadeLevel_of_ended hended _ _, fun hruns => fadeLevel_toNat_of_running hruns _ _⟩

end Sys2Proof.Machine
end

section
/-! The request list of the fade engine: requests that join it (R77, R90, R94) and answers that settle them (R78,
R79). -/

namespace Sys2Proof.Machine

/-! ### Requests that join (R77, R94) -/

theorem presetOfByte_of_large {b : Byte} (h : 64 ≤ b.toNat) : presetOfByte b = none := dif_neg h.not_gt

theorem presetOfByte_of_toNat {b : Byte} {n : Fin 64} (h : b.toNat = n.val) : presetOfByte b = some n := by
  have hlt : b.toNat < 64 := h ▸ n.isLt
  rw [presetOfByte, dif_pos hlt]
  exact congrArg some (Fin.ext h)

/-- A full request list drops a request (R77, R90). -/
theorem keepRequest_of_full {s : State} (h : 16 ≤ s.fade.requests.length) (atHead : Bool) (r : FadeRequest)
    (n : Fin 64) : keepRequest atHead r n s = count .fadeOverrun s := if_pos h

/-- A list with room keeps it, READING, with its read sent (R77, R90). -/
theorem keepRequest_of_room {s : State} (h : s.fade.requests.length < 16) (atHead : Bool) (r : FadeRequest)
    (n : Fin 64) : keepRequest atHead r n s = { s with
      fade := addRequest atHead r s.fade
      transit := { s.transit with reads := s.transit.reads ++ [{ preset := n, tag := s.fade.nextTag }] } } :=
  if_neg h.not_ge

theorem takeFadeRequest_of_safe {s : State} (h : s.station.state = .safe) (r : FadeRequest) :
    takeFadeRequest r s = s := if_pos h

theorem takeFadeRequest_of_large {s : State} (h : s.station.state ≠ .safe) {r : FadeRequest}
    (hpreset : 64 ≤ r.preset.toNat) : takeFadeRequest r s = count .argErr s := by
  simp only [takeFadeRequest, if_neg h, presetOfByte_of_large hpreset]

theorem takeFadeRequest_of_preset {s : State} (h : s.station.state ≠ .safe) {r : FadeRequest} {n : Fin 64}
    (hpreset : r.preset.toNat = n.val) : takeFadeRequest r s = keepRequest false r n s := by
  simp only [takeFadeRequest, if_neg h, presetOfByte_of_toNat hpreset]

/-- The state with the oldest request of a sender taken off its way to the fade engine (R46, R68). -/
def requestTaken (origin : Origin) (rs : List FadeRequest) (s : State) : State :=
  match origin with
  | .cueList => { s with transit := { s.transit with cueFades := rs } }
  | .lookMachine => { s with transit := { s.transit with lookFades := rs } }

/-- The requests on their way from a sender (R46, R68). -/
def requestsFrom (origin : Origin) (t : Transit) : List FadeRequest :=
  match origin with
  | .cueList => t.cueFades
  | .lookMachine => t.lookFades

theorem requestTaken_keeps (origin : Origin) (rs : List FadeRequest) (s : State) :
    (requestTaken origin rs s).station = s.station ∧ (requestTaken origin rs s).fade = s.fade ∧
    (requestTaken origin rs s).transit.reads = s.transit.reads := by
  cases origin <;> exact ⟨rfl, rfl, rfl⟩

theorem fadeStartRequest_of_cons {origin : Origin} {s : State} {r : FadeRequest} {rs : List FadeRequest}
    (h : requestsFrom origin s.transit = r :: rs) :
    fadeStartRequest origin s = takeFadeRequest r (requestTaken origin rs s) := by
  cases origin with
  | cueList =>
    have hfades : s.transit.cueFades = r :: rs := h
    simp only [fadeStartRequest, hfades, requestTaken]
  | lookMachine =>
    have hfades : s.transit.lookFades = r :: rs := h
    simp only [fadeStartRequest, hfades, requestTaken]

/-- Settles O27: the request leaves its sender's list, and the rest is the same for both senders. -/
theorem fadeRequestJoinsList : Obligations.FadeRequestJoinsList := by
  intro s u origin r rs hsent
  obtain ⟨hfades, rfl⟩ : requestsFrom origin s.transit = r :: rs ∧ u = requestTaken origin rs s := by
    cases origin <;> exact hsent
  obtain ⟨hstation, hfade, hreads⟩ := requestTaken_keeps origin rs s
  have hexec : exec (.fadeStartRequest origin) s = .next (takeFadeRequest r (requestTaken origin rs s)) :=
    congrArg Host.Outcome.next (fadeStartRequest_of_cons hfades)
  rw [hexec, ← hstation, ← hfade, ← hreads]
  refine ⟨fun hsafe => congrArg _ (takeFadeRequest_of_safe hsafe r), fun hsafe hlarge =>
    congrArg _ (takeFadeRequest_of_large hsafe hlarge), fun n hsafe hpreset => ?_⟩
  rw [takeFadeRequest_of_preset hsafe hpreset]
  exact ⟨fun hfull => congrArg _ (keepRequest_of_full hfull false r n),
    fun hroom => congrArg _ (keepRequest_of_room hroom false r n)⟩

/-! ### Answers (R78, R79) -/

section
variable {tag : Nat} {before after : List RequestRecord} {r : RequestRecord}

theorem findRequest_of_new {rs : List RequestRecord} (h : ∀ x ∈ rs, x.tag ≠ tag) : findRequest tag rs = none :=
  List.find?_eq_none.2 fun x hx heq => h x hx (beq_iff_eq.1 heq)

theorem findRequest_of_first (hr : r.tag = tag) (hfirst : ∀ x ∈ before, x.tag ≠ tag) :
    findRequest tag (before ++ r :: after) = some r := by
  have hbefore : before.find? (fun x => x.tag == tag) = none := findRequest_of_new hfirst
  rw [findRequest, List.find?_append, hbefore, Option.none_or]
  exact List.find?_cons_of_pos (beq_iff_eq.2 hr)

/-- Removing the first element that satisfies a condition, where it stands. -/
theorem removeFirst_append_cons {α : Type} {p : α → Bool} {xs ys : List α} {a : α} (ha : p a = true)
    (hfirst : ∀ x ∈ xs, p x = false) : removeFirst p (xs ++ a :: ys) = xs ++ ys := by
  induction xs with
  | nil => simp [removeFirst, ha]
  | cons x xs ih =>
    obtain ⟨hx, hxs⟩ := List.forall_mem_cons.1 hfirst
    simp [removeFirst, hx, ih hxs]

theorem storeContent_of_first (current : FrameNo) (c : Content) (hr : r.tag = tag)
    (hfirst : ∀ x ∈ before, x.tag ≠ tag) : storeContent current tag c (before ++ r :: after) =
      before ++ { r with content := some c, phase := phaseAtAnswer r.req.frame current } :: after := by
  induction before with
  | nil => simp [storeContent, hr]
  | cons x xs ih =>
    obtain ⟨hx, hxs⟩ := List.forall_mem_cons.1 hfirst
    simp [storeContent, hx, ih hxs]

/-- An answer that matches no record is discarded (R78). -/
theorem takeContent_of_new {s : State} (h : ∀ x ∈ s.fade.requests, x.tag ≠ tag) (c : Content) :
    takeContent tag c s = s := by
  simp only [takeContent, findRequest_of_new h]

theorem takeNoContent_of_new {s : State} (h : ∀ x ∈ s.fade.requests, x.tag ≠ tag) (badRef : Bool) :
    takeNoContent tag badRef s = s := by
  simp only [takeNoContent, findRequest_of_new h]

/-- Content settles the record it names, DEFERRED with its count or READY (R79). -/
theorem takeContent_of_first {s : State} (h : s.fade.requests = before ++ r :: after) (hr : r.tag = tag)
    (hfirst : ∀ x ∈ before, x.tag ≠ tag) (c : Content) : takeContent tag c s =
      countIf (phaseAtAnswer r.req.frame s.fade.frame == .deferred) .fadeDeferred { s with fade := { s.fade with
        requests := before ++
          { r with content := some c, phase := phaseAtAnswer r.req.frame s.fade.frame } :: after } } := by
  simp only [takeContent, h, findRequest_of_first hr hfirst, storeContent_of_first _ c hr hfirst, setFade]

/-- An answer without content removes the record it names (R78). -/
theorem takeNoContent_of_first {s : State} (h : s.fade.requests = before ++ r :: after) (hr : r.tag = tag)
    (hfirst : ∀ x ∈ before, x.tag ≠ tag) (badRef : Bool) : takeNoContent tag badRef s =
      countIf badRef .presetBadRef { s with fade := { s.fade with requests := before ++ after } } := by
  have hremoved : removeFirst (fun x : RequestRecord => x.tag == tag) (before ++ r :: after) = before ++ after :=
    removeFirst_append_cons (beq_iff_eq.2 hr) fun x hx => beq_eq_false_iff_ne.2 (hfirst x hx)
  simp only [takeNoContent, h, findRequest_of_first hr hfirst, hremoved, setFade]

end

/-- The state with the oldest answer taken off its way to the fade engine. -/
def answersLeft (as : List Answer) (s : State) : State := { s with transit := { s.transit with answers := as } }

section
variable {s : State} {a : Answer} {as : List Answer}

theorem exec_contentAnswer (h : s.transit.answers = a :: as) {c : Content} (hkind : a.kind = .content c) :
    exec .contentAnswer s = .next (takeContent a.tag c (answersLeft as s)) := by
  change Host.Outcome.next (contentAnswer s) = _
  simp only [contentAnswer, h, hkind, answersLeft]

theorem exec_answerWithoutContent_of_badRef (h : s.transit.answers = a :: as)
    (hkind : a.kind = .empty ∨ a.kind = .bad) :
    exec .answerWithoutContent s = .next (takeNoContent a.tag true (answersLeft as s)) := by
  change Host.Outcome.next (answerWithoutContent s) = _
  obtain hkind | hkind := hkind <;> simp only [answerWithoutContent, h, hkind, answersLeft]

theorem exec_answerWithoutContent_of_refused (h : s.transit.answers = a :: as) (hkind : a.kind = .refused) :
    exec .answerWithoutContent s = .next (takeNoContent a.tag false (answersLeft as s)) := by
  change Host.Outcome.next (answerWithoutContent s) = _
  simp only [answerWithoutContent, h, hkind, answersLeft]

/-- An answer that matches no record leaves its way and changes nothing else (R78, R79). -/
theorem exec_answer_of_new (h : s.transit.answers = a :: as) (hnew : ∀ x ∈ s.fade.requests, x.tag ≠ a.tag) :
    (∀ c : Content, a.kind = .content c → exec .contentAnswer s = .next (answersLeft as s)) ∧
    (a.kind = .empty ∨ a.kind = .bad ∨ a.kind = .refused →
      exec .answerWithoutContent s = .next (answersLeft as s)) := by
  have hdiscard (badRef : Bool) : takeNoContent a.tag badRef (answersLeft as s) = answersLeft as s :=
    takeNoContent_of_new (s := answersLeft as s) hnew badRef
  refine ⟨fun c hkind => ?_, ?_⟩
  · rw [exec_contentAnswer h hkind, takeContent_of_new (s := answersLeft as s) hnew c]
  · rintro (hkind | hkind | hkind)
    · rw [exec_answerWithoutContent_of_badRef h (.inl hkind), hdiscard]
    · rw [exec_answerWithoutContent_of_badRef h (.inr hkind), hdiscard]
    · rw [exec_answerWithoutContent_of_refused h hkind, hdiscard]

end

/-- Settles O28: the answer names the first record with its tag, or none. -/
theorem answersSettleRequests : Obligations.AnswersSettleRequests := by
  intro s a as hanswers taken
  refine ⟨fun before after r hrequests hr hfirst => ⟨fun c hkind => ?_, fun hkind => ?_, fun hkind => ?_⟩,
    fun hnew => exec_answer_of_new hanswers hnew, fun _ hnone => exec_answer_of_new hanswers (by simp [hnone])⟩
  · rw [exec_contentAnswer hanswers hkind, takeContent_of_first (s := answersLeft as s) hrequests hr hfirst c]
    refine ⟨fun hbefore => ?_, fun hbefore => ?_⟩
    · have hphase : phaseAtAnswer r.req.frame s.fade.frame = .ready := if_pos hbefore
      simp only [answersLeft, hphase]
      rfl
    · have hphase : phaseAtAnswer r.req.frame s.fade.frame = .deferred := if_neg (by simp [hbefore])
      simp only [answersLeft, hphase]
      rfl
  · rw [exec_answerWithoutContent_of_badRef hanswers hkind,
      takeNoContent_of_first (s := answersLeft as s) hrequests hr hfirst true]
    rfl
  · rw [exec_answerWithoutContent_of_refused hanswers hkind,
      takeNoContent_of_first (s := answersLeft as s) hrequests hr hfirst false]
    rfl

end Sys2Proof.Machine
end

section
/-! Frame starts at the fade engine: due requests, fades installed and stepped, dropped channels (R81 to R86), and the
packets of the frame (R87, R88). -/

namespace Sys2Proof.Machine

/-! ### Due requests and the channels they affect (R81, R82) -/

theorem requestDue_iff (e : FrameEvent) (r : RequestRecord) : requestDue e r = true ↔
    r.phase = .deferred ∨ (r.phase = .ready ∧ (e.adopted = true ∨ isAfter r.req.frame e.frame = false)) := by
  unfold requestDue
  cases r.phase <;> simp

section
variable {r : RequestRecord} {x : Content}

theorem covers_of_content (h : r.content = some x) (c : Channel) : covers r c = x.mask.getLsbD c.val := by
  simp only [covers, h]

theorem requestAirSafe_of_content (h : r.content = some x) : requestAirSafe r = (r.req.airSafe && x.airSafe) := by
  simp only [requestAirSafe, h]

theorem protectedInForce_iff (p : Protection) (c : Channel) : protectedInForce p c = true ↔
    (p.pin = true ∨ p.latch = true) ∧ p.map.getLsbD c.val = false := by
  simp [protectedInForce, inForce, isProtected]

/-- A due request affects its mask's channels, but the PINNED ones and those that protection leaves out (R82). -/
theorem affects_iff (s : State) (h : r.content = some x) (c : Channel) : affects s r c = true ↔
    x.mask.getLsbD c.val = true ∧ s.image.channels[c].cls ≠ .pinned ∧
      ¬ ((s.protection.pin = true ∨ s.protection.latch = true) ∧ s.protection.map.getLsbD c.val = false ∧
        (r.req.airSafe = false ∨ x.airSafe = false)) := by
  have hsafe : requestAirSafe r = false ↔ r.req.airSafe = false ∨ x.airSafe = false := by
    rw [requestAirSafe_of_content h, Bool.and_eq_false_iff]
  rw [affects, covers_of_content h, Bool.and_eq_true, Bool.and_eq_true, Bool.not_eq_true', Bool.not_eq_true',
    isPinned_eq_false_iff, ← Bool.not_eq_true, Bool.and_eq_true, Bool.not_eq_true', protectedInForce_iff, hsafe,
    and_assoc, and_assoc]

end

/-- A channel of the mask that protection leaves out of a request's fade (R82). -/
theorem isDropped_eq (s : State) (r : RequestRecord) (c : Channel) : isDropped s r c =
    match r.content with
    | some x => x.mask.getLsbD c.val && (s.image.channels[c].cls != .pinned) &&
        (s.protection.pin || s.protection.latch) && !s.protection.map.getLsbD c.val && !(r.req.airSafe && x.airSafe)
    | none => false := by
  cases h : r.content with
  | none => simp [isDropped, covers, h]
  | some x =>
    rw [isDropped, covers_of_content h, requestAirSafe_of_content h, protectedInForce, inForce, isProtected,
      ← Bool.and_assoc]
    rfl

/-! ### Scales held (R87, R171) -/

theorem scaleFor_eq_some {serial k : Nat} {scales : List ScaleMessage} (h : scaleFor serial scales = some k) :
    ∃ m ∈ scales, m.serial = serial ∧ m.k = k := by
  obtain ⟨m, hfound, hk⟩ := Option.map_eq_some_iff.1 h
  exact ⟨m, List.mem_of_find?_eq_some hfound, by simpa using List.find?_some hfound, hk⟩

theorem scaleFor_eq_none_iff {serial : Nat} {scales : List ScaleMessage} :
    scaleFor serial scales = none ↔ ∀ m ∈ scales, m.serial ≠ serial := by
  rw [scaleFor, Option.map_eq_none_iff, List.find?_eq_none]
  simp only [beq_iff_eq]

/-! ### A channel at a frame start (R83 to R85) -/

section
variable {s : State} {frame : FrameNo} {c : Channel}

/-- Installing fades touches a channel's fade alone (R83). -/
theorem installAll_eq (s : State) (frame : FrameNo) (due : List RequestRecord) (c : Channel) (x : ChannelRecord) :
    installAll s frame due c x = { x with fade := (installAll s frame due c x).fade } := by
  unfold installAll
  induction due generalizing x with
  | nil => rfl
  | cons r rs ih =>
    rw [List.foldl_cons]
    refine (ih _).trans ?_
    split <;> rfl

theorem installAll_of_none {due : List RequestRecord} (h : ∀ r ∈ due, affects s r c = false) (x : ChannelRecord) :
    installAll s frame due c x = x := by
  unfold installAll
  induction due with
  | nil => rfl
  | cons r rs ih =>
    obtain ⟨hr, hrs⟩ := List.forall_mem_cons.1 h
    rw [List.foldl_cons, hr]
    exact ih hrs

/-- Of the due requests that affect a channel the last one's fade stands, from the channel's present level (R83). -/
theorem installAll_of_last {before after : List RequestRecord} {r : RequestRecord} (hr : affects s r c = true)
    (hlast : ∀ y ∈ after, affects s y c = false) (x : ChannelRecord) :
    installAll s frame (before ++ r :: after) c x = installFade frame r c x := by
  have hsplit : installAll s frame (before ++ r :: after) c x =
      installAll s frame after c (installFade frame r c (installAll s frame before c x)) := by
    simp only [installAll, List.foldl_append, List.foldl_cons, hr, if_true]
  rw [hsplit, installAll_of_none hlast, installAll_eq]
  rfl

theorem isFresh_of_none {due : List RequestRecord} (h : ∀ r ∈ due, affects s r c = false) : isFresh s due c = false :=
  List.any_eq_false.2 fun r hr => by simp [h r hr]

theorem isFresh_of_mem {due : List RequestRecord} {r : RequestRecord} (hmem : r ∈ due) (h : affects s r c = true) :
    isFresh s due c = true :=
  List.any_eq_true.2 ⟨r, hmem, h⟩

/-- A step leaves a channel's last output (R85, log 41). -/
theorem stepChannel_lastOut (fresh : Bool) (x : ChannelRecord) : (stepChannel fresh x).lastOut = x.lastOut := by
  unfold stepChannel
  split <;> rfl

theorem channelAfter_lastOut (e : FrameEvent) (s : State) (c : Channel) :
    (channelAfter e s c).lastOut = s.fade.channels[c].lastOut := by
  rw [channelAfter, stepChannel_lastOut, installAll_eq]

end

section
variable {e : FrameEvent} {s : State} {c : Channel}

/-- A channel that no due request affects takes a step of its running fade (R85). -/
theorem channelAfter_of_unaffected (h : ∀ r ∈ s.fade.requests, requestDue e r = true → affects s r c = false) :
    channelAfter e s c = stepChannel false s.fade.channels[c] := by
  have hdue : ∀ r ∈ dueRequests e s, affects s r c = false := fun r hr =>
    h r (List.mem_filter.1 hr).1 (List.mem_filter.1 hr).2
  rw [channelAfter, isFresh_of_none hdue, installAll_of_none hdue]

/-- One that due requests affect takes the fade of the last of them, at its step 0 (R83, R85). -/
theorem channelAfter_of_affected {before after : List RequestRecord} {r : RequestRecord}
    (hrequests : s.fade.requests = before ++ r :: after) (hdue : requestDue e r = true) (hr : affects s r c = true)
    (hlast : ∀ x ∈ after, requestDue e x = true → affects s x c = false) :
    channelAfter e s c = stepChannel true (installFade e.frame r c s.fade.channels[c]) := by
  have hsplit : dueRequests e s = before.filter (requestDue e) ++ r :: after.filter (requestDue e) := by
    rw [dueRequests, hrequests, List.filter_append, List.filter_cons_of_pos hdue]
  have hfresh : isFresh s (dueRequests e s) c = true := isFresh_of_mem (by simp [hsplit]) hr
  rw [channelAfter, hfresh, hsplit, installAll_of_last hr fun y hy =>
    hlast y (List.mem_filter.1 hy).1 (List.mem_filter.1 hy).2]

theorem stepChannel_of_no_fade {x : ChannelRecord} (h : x.fade = none) (fresh : Bool) : stepChannel fresh x = x := by
  simp only [stepChannel, h]

/-- A running fade before its last step (R85). -/
theorem stepChannel_of_running {x : ChannelRecord} {f : Fade} (h : x.fade = some f)
    (hmore : f.steps + 1 < f.total.toNat) : stepChannel false x = { x with
      level := fadeLevel f.start f.target f.total (f.steps + 1), fade := some { f with steps := f.steps + 1 } } := by
  simp only [stepChannel, h, Bool.false_eq_true, if_false, if_neg hmore.not_ge]

/-- A running fade at its last step (R85). -/
theorem stepChannel_of_last_step {x : ChannelRecord} {f : Fade} (h : x.fade = some f)
    (hlast : f.total.toNat ≤ f.steps + 1) :
    stepChannel false x = { x with level := f.target, fade := none } ∧ completesFade false x = true := by
  simp [stepChannel, completesFade, h, hlast, fadeLevel_of_ended hlast]

/-- A new fade of no frames cuts to its target (R85). -/
theorem stepChannel_installed_cut {r : RequestRecord} (h : r.req.total = 0) (frame : FrameNo) (x : ChannelRecord) :
    stepChannel true (installFade frame r c x) = { x with level := requestTarget r c, fade := none } := by
  have hended : r.req.total.toNat ≤ 0 := by simp [h]
  simp [stepChannel, installFade, hended, fadeLevel_of_ended hended]

/-- A new fade of one frame or more starts from the present level (R83, R85). -/
theorem stepChannel_installed {r : RequestRecord} (h : r.req.total ≠ 0) (frame : FrameNo) (x : ChannelRecord) :
    stepChannel true (installFade frame r c x) = installFade frame r c x := by
  have hpos : ¬ r.req.total.toNat ≤ 0 := fun hle => h (BitVec.eq_of_toNat_eq (Nat.le_zero.1 hle))
  simp [stepChannel, installFade, hpos, fadeLevel_zero h]

end

/-! ### The packets of a frame (R87, R88) -/

/-- An output level is a matter of the image, of protection and of the channel's level (R88). -/
theorem outputLevel_congr {s t : State} {c : Channel} (himage : t.image = s.image)
    (hprotection : t.protection = s.protection) (hlevel : t.fade.channels[c].level = s.fade.channels[c].level)
    (k : Nat) : outputLevel t k c = outputLevel s k c := by
  simp only [outputLevel, himage, hprotection, hlevel]

/-- What forming the packets of the current frame makes of the fade engine (R87, R88, log 41). -/
theorem formPackets_fade (refresh : Bool) (k : Nat) (s : State) : (formPackets refresh k s).fade = { s.fade with
    channels := Vector.ofFn fun c => { s.fade.channels[c] with lastOut := some (outputLevel s k c) }
    packets := .formed
    sending := s.fade.sending ++
      [{ frame := s.fade.frame, refresh := refresh, levels := Vector.ofFn (outputLevel s k) }] } := by
  rw [formPackets, setFade_fade]

theorem formPackets_channel (refresh : Bool) (k : Nat) (s : State) (c : Channel) :
    (formPackets refresh k s).fade.channels[c] =
      { s.fade.channels[c] with lastOut := some (outputLevel s k c) } := by
  simp [formPackets_fade]

theorem formPackets_frame (refresh : Bool) (k : Nat) (s : State) :
    formPackets refresh k s = { s with fade := (formPackets refresh k s).fade } := by
  rw [formPackets, setFade_fade, setFade]

/-- Forming packets leaves every output level as it was. -/
theorem outputLevel_formPackets (refresh : Bool) (k : Nat) (s : State) (c : Channel) :
    outputLevel (formPackets refresh k s) k c = outputLevel s k c :=
  outputLevel_congr (by simp) (by simp) (by rw [formPackets_channel]) k

theorem sendPackets_of_some {s : State} {k : Nat} (h : s.fade.k = some k) : sendPackets s = formPackets false k s := by
  simp only [sendPackets, h]

theorem sendPackets_of_none {s : State} (h : s.fade.k = none) :
    sendPackets s = { s with fade := { s.fade with packets := .owed } } := by
  simp only [sendPackets, h, setFade]

/-- What packets that go, or are owed, leave as it was: all but last outputs, the packets' state and the links. -/
structure PacketsOnly (s t : State) : Prop where
  state : t = { s with fade := t.fade }
  fade : t.fade = { s.fade with
    channels := t.fade.channels, packets := t.fade.packets, sending := t.fade.sending }
  channels : ∀ c : Channel, t.fade.channels[c].level = s.fade.channels[c].level ∧
    t.fade.channels[c].fade = s.fade.channels[c].fade

theorem PacketsOnly.refl (s : State) : PacketsOnly s s := ⟨rfl, rfl, fun _ => ⟨rfl, rfl⟩⟩

theorem formPackets_packetsOnly (refresh : Bool) (k : Nat) (s : State) : PacketsOnly s (formPackets refresh k s) where
  state := formPackets_frame refresh k s
  fade := by rw [formPackets_fade]
  channels c := by rw [formPackets_channel]; exact ⟨rfl, rfl⟩

theorem sendPackets_packetsOnly (s : State) : PacketsOnly s (sendPackets s) := by
  cases h : s.fade.k with
  | none => rw [sendPackets_of_none h]; exact ⟨rfl, rfl, fun _ => ⟨rfl, rfl⟩⟩
  | some k => rw [sendPackets_of_some h]; exact formPackets_packetsOnly false k s

/-- The packets of the current frame go once k is held, with the last outputs, and are owed until then (R87). -/
structure PacketsGone (s t : State) : Prop where
  owed : s.fade.k = none → t.fade.packets = .owed ∧ t.fade.sending = s.fade.sending ∧
    ∀ c : Channel, t.fade.channels[c].lastOut = s.fade.channels[c].lastOut
  formed : ∀ k : Nat, s.fade.k = some k → t.fade.packets = .formed ∧
    t.fade.sending = s.fade.sending ++
      [{ frame := s.fade.frame, refresh := false, levels := Vector.ofFn (outputLevel t k) }] ∧
    ∀ c : Channel, t.fade.channels[c].lastOut = some (outputLevel t k c)

theorem sendPackets_gone (s : State) : PacketsGone s (sendPackets s) := by
  cases h : s.fade.k with
  | none =>
    rw [sendPackets_of_none h]
    exact ⟨fun _ => ⟨rfl, rfl, fun _ => rfl⟩, fun k hk => absurd hk (by simp [h])⟩
  | some k =>
    rw [sendPackets_of_some h]
    have hlevels : outputLevel (formPackets false k s) k = outputLevel s k :=
      funext fun c => outputLevel_formPackets false k s c
    refine ⟨fun hk => absurd hk (by simp [h]), fun k' hk => ?_⟩
    obtain rfl : k = k' := by simpa [h] using hk
    refine ⟨by rw [formPackets_fade], by rw [hlevels, formPackets_fade], fun c => ?_⟩
    rw [hlevels, formPackets_channel]

/-! ### A frame start (R81 to R87) -/

theorem countN_setFade (c : Counter) (n : Nat) (f : FadeEngine) (s : State) :
    countN c n (setFade f s) = { s with fade := f, counters := (countN c n s).counters } := rfl

theorem stepFades_frame (e : FrameEvent) (s : State) : stepFades e s =
    { s with fade := (stepFades e s).fade, counters := (stepFades e s).counters } := by
  rw [stepFades, countN_setFade]

theorem counterOf_stepFades (e : FrameEvent) (s : State) :
    counterOf (stepFades e s) .protectDrop =
        saturatingAdd (counterOf s .protectDrop) ((dueRequests e s).map (dropCount s)).sum ∧
      ∀ x : Counter, x ≠ .protectDrop → counterOf (stepFades e s) x = counterOf s x := by
  refine ⟨?_, fun x hx => ?_⟩
  · rw [stepFades, counterOf_countN_self, counterOf, setFade_counters, counterOf]
  · rw [stepFades, counterOf_countN_ne hx, counterOf, setFade_counters, counterOf]

theorem stepFades_channel (e : FrameEvent) (s : State) (c : Channel) :
    (stepFades e s).fade.channels[c] = channelAfter e s c := by
  simp [stepFades_fade]

section
variable {e : FrameEvent} {s : State}

theorem fadeFrame_of_disabled (h : s.fade.enabled = false) : fadeFrame e s = stepFades e s := by
  simp only [fadeFrame, h, Bool.false_eq_true, if_false]

theorem fadeFrame_of_enabled (h : s.fade.enabled = true) : fadeFrame e s = sendPackets (stepFades e s) := by
  simp only [fadeFrame, h, if_true]

end

@[simp] theorem fadeFrame_counters (e : FrameEvent) (s : State) :
    (fadeFrame e s).counters = (stepFades e s).counters := by
  cases h : s.fade.enabled with
  | false => rw [fadeFrame_of_disabled h]
  | true => rw [fadeFrame_of_enabled h]; simp

/-- A frame start at the fade engine changes the fade engine and counts dropped channels, no more. -/
theorem fadeFrame_frame (e : FrameEvent) (s : State) : fadeFrame e s =
    { s with fade := (fadeFrame e s).fade, counters := (fadeFrame e s).counters } := by
  rw [fadeFrame_counters]
  cases h : s.fade.enabled with
  | false => rw [fadeFrame_of_disabled h, ← stepFades_frame]
  | true =>
    rw [fadeFrame_of_enabled h]
    refine (sendPackets_packetsOnly _).state.trans ?_
    rw [stepFades_frame]

theorem counterOf_fadeFrame (e : FrameEvent) (s : State) (x : Counter) :
    counterOf (fadeFrame e s) x = counterOf (stepFades e s) x := by
  rw [counterOf, fadeFrame_counters, counterOf]

/-- What a frame start leaves each channel, apart from its last output (R83 to R85). -/
theorem fadeFrame_channel (e : FrameEvent) (s : State) (c : Channel) :
    (fadeFrame e s).fade.channels[c].level = (channelAfter e s c).level ∧
      (fadeFrame e s).fade.channels[c].fade = (channelAfter e s c).fade := by
  rw [← stepFades_channel]
  cases h : s.fade.enabled with
  | false => rw [fadeFrame_of_disabled h]; exact ⟨rfl, rfl⟩
  | true => rw [fadeFrame_of_enabled h]; exact (sendPackets_packetsOnly _).channels c

theorem fadeFrame_kept (e : FrameEvent) (s : State) : (fadeFrame e s).fade = { s.fade with
    channels := (fadeFrame e s).fade.channels
    requests := s.fade.requests.filter fun r => !requestDue e r
    packets := (fadeFrame e s).fade.packets
    sending := (fadeFrame e s).fade.sending
    frame := e.frame
    taken := e.serial
    k := scaleFor e.serial s.fade.scales
    scales := laterScales e.serial s.fade.scales } := by
  cases h : s.fade.enabled with
  | false => rw [fadeFrame_of_disabled h, stepFades_fade]
  | true =>
    rw [fadeFrame_of_enabled h]
    refine (sendPackets_packetsOnly _).fade.trans ?_
    rw [stepFades_fade]

section
variable {s : State} {e : FrameEvent} {es : List FrameEvent}

/-- The state with the fade engine's next frame start taken off its way. -/
def fadeFramesLeft (es : List FrameEvent) (s : State) : State :=
  { s with transit := { s.transit with fadeFrames := es } }

theorem fadeFrameStart_takes (h : s.transit.fadeFrames = e :: es) (hpending : packetsPending s.fade = false)
    (hwaiting : s.fade.waiting = []) : fadeFrameStart s = fadeFrame e (fadeFramesLeft es s) := by
  simp [fadeFrameStart, fadeFramesLeft, h, hpending, hwaiting]

theorem packetsPending_iff (f : FadeEngine) :
    packetsPending f = true ↔ f.enabled = true ∧ (f.packets = .owed ∨ f.sending ≠ []) := by
  simp [packetsPending]

theorem fadeFrameStart_waits (h : s.transit.fadeFrames = e :: es)
    (hwait : packetsPending s.fade = true ∨ s.fade.waiting ≠ []) :
    fadeFrameStart s = { s with
      fade := { s.fade with waiting := s.fade.waiting ++ [e] }
      transit := { s.transit with fadeFrames := es } } := by
  have hholds : (packetsPending s.fade || !s.fade.waiting.isEmpty) = true := by simpa using hwait
  simp only [fadeFrameStart, h, hholds, if_true, setFade]

/-- FADE_COMPLETION is the whole of the frame start at which a running fade takes its last step (R85, log 6). -/
theorem exec_fadeCompletion_of_last_step (h : s.transit.fadeFrames = e :: es)
    (hpending : packetsPending s.fade = false) (hwaiting : s.fade.waiting = []) {c : Channel}
    (hunaffected : ∀ r ∈ s.fade.requests, requestDue e r = true → affects s r c = false)
    (hlast : completesFade false s.fade.channels[c] = true) : exec .fadeCompletion s = exec .fadeFrameStart s := by
  have hdue : ∀ r ∈ dueRequests e s, affects s r c = false := fun r hr =>
    hunaffected r (List.mem_filter.1 hr).1 (List.mem_filter.1 hr).2
  have hcompletes : fadeCompletes s = true := by
    simp only [fadeCompletes, h, hpending, hwaiting, List.isEmpty_nil, Bool.not_true, Bool.or_false, Bool.not_false,
      Bool.true_and]
    refine List.any_eq_true.2 ⟨c, List.mem_finRange c, ?_⟩
    rw [isFresh_of_none hdue, installAll_of_none hdue, hlast]
  exact congrArg Host.Outcome.next (if_pos hcompletes)

end

/-- On silent links a frame start has no packets (R87). -/
theorem fadeFrame_packets_of_disabled (e : FrameEvent) {s : State} (h : s.fade.enabled = false) :
    (fadeFrame e s).fade.packets = .notDue ∧ (fadeFrame e s).fade.sending = s.fade.sending ∧
      ∀ c : Channel, (fadeFrame e s).fade.channels[c].lastOut = s.fade.channels[c].lastOut := by
  rw [fadeFrame_of_disabled h]
  refine ⟨by rw [stepFades_fade], by rw [stepFades_fade], fun c => ?_⟩
  rw [stepFades_channel, channelAfter_lastOut]

/-- On enabled links they go at once with k(F), and are owed without it (R87). -/
theorem fadeFrame_packets_of_enabled (e : FrameEvent) {s : State} (h : s.fade.enabled = true) :
    (scaleFor e.serial s.fade.scales = none → (fadeFrame e s).fade.packets = .owed ∧
      (fadeFrame e s).fade.sending = s.fade.sending ∧
      ∀ c : Channel, (fadeFrame e s).fade.channels[c].lastOut = s.fade.channels[c].lastOut) ∧
    (∀ k : Nat, scaleFor e.serial s.fade.scales = some k → (fadeFrame e s).fade.packets = .formed ∧
      (fadeFrame e s).fade.sending = s.fade.sending ++
        [{ frame := e.frame, refresh := false, levels := Vector.ofFn (outputLevel (fadeFrame e s) k) }] ∧
      ∀ c : Channel, (fadeFrame e s).fade.channels[c].lastOut = some (outputLevel (fadeFrame e s) k c)) := by
  obtain ⟨howed, hformed⟩ := sendPackets_gone (stepFades e s)
  have hk : (stepFades e s).fade.k = scaleFor e.serial s.fade.scales := by rw [stepFades_fade]
  have hsending : (stepFades e s).fade.sending = s.fade.sending := by rw [stepFades_fade]
  have hframe : (stepFades e s).fade.frame = e.frame := by rw [stepFades_fade]
  rw [hk, hsending] at howed
  rw [hk, hsending, hframe] at hformed
  rw [fadeFrame_of_enabled h]
  refine ⟨fun hnone => ?_, hformed⟩
  obtain ⟨hpackets, hsent, hlast⟩ := howed hnone
  exact ⟨hpackets, hsent, fun c => (hlast c).trans (by rw [stepFades_channel, channelAfter_lastOut])⟩

/-- Settles O29: the channels by the due requests that affect them, the packets by the links and the scale held. -/
theorem frameStartStepsFades : Obligations.FrameStartStepsFades := by
  refine ⟨fun s e es hframes hpending hwaiting => ?_, fun s r x c hx =>
    ⟨affects_iff s hx c, requestTarget_of_content hx c, requestAirSafe_of_content hx⟩, requestDue_iff,
    fun s e es hframes hpending hwaiting => ?_, fun s e es hframes hwait => ?_, fun serial scales =>
    ⟨fun _ => scaleFor_eq_some, scaleFor_eq_none_iff⟩⟩
  · have hexec : exec .fadeFrameStart s = .next (fadeFrame e (fadeFramesLeft es s)) :=
      congrArg Host.Outcome.next (fadeFrameStart_takes hframes hpending hwaiting)
    have hkept := fadeFrame_kept e (fadeFramesLeft es s)
    have hchannel := fadeFrame_channel e (fadeFramesLeft es s)
    have hrequests : (fadeFrame e (fadeFramesLeft es s)).fade.requests =
        s.fade.requests.filter fun r => !requestDue e r := by
      rw [hkept]
      rfl
    refine ⟨_, hexec, by rw [hkept], by simp [fadeFramesLeft], hrequests, fadeFrame_frame e _,
      fun x hx => (counterOf_fadeFrame e _ x).trans ((counterOf_stepFades e _).2 x hx),
      hkept.trans (by rw [hrequests]; rfl), fadeFrame_packets_of_disabled (s := fadeFramesLeft es s) e,
      fadeFrame_packets_of_enabled (s := fadeFramesLeft es s) e,
      fun c => ⟨fun hunaffected => ?_, fun before after r hsplit hdue hr hlast => ?_⟩⟩
    · obtain ⟨hlevel, hfade⟩ := hchannel c
      rw [channelAfter_of_unaffected (s := fadeFramesLeft es s) hunaffected] at hlevel hfade
      rw [hlevel, hfade]
      refine ⟨fun hnone => ?_, fun f hf => ⟨fun hmore => ?_, fun hlast => ?_⟩⟩
      · rw [stepChannel_of_no_fade (x := (fadeFramesLeft es s).fade.channels[c]) hnone]
        exact ⟨rfl, hnone⟩
      · rw [stepChannel_of_running (x := (fadeFramesLeft es s).fade.channels[c]) hf hmore]
        exact ⟨rfl, rfl⟩
      · obtain ⟨hstep, hcompletes⟩ :=
          stepChannel_of_last_step (x := (fadeFramesLeft es s).fade.channels[c]) hf hlast
        rw [hstep]
        exact ⟨rfl, rfl,
          (exec_fadeCompletion_of_last_step hframes hpending hwaiting hunaffected hcompletes).trans hexec⟩
    · obtain ⟨hlevel, hfade⟩ := hchannel c
      rw [channelAfter_of_affected (s := fadeFramesLeft es s) hsplit hdue hr hlast] at hlevel hfade
      rw [hlevel, hfade]
      refine ⟨fun hcut => ?_, fun hframes => ?_⟩
      · rw [stepChannel_installed_cut hcut]
        exact ⟨rfl, rfl⟩
      · rw [stepChannel_installed hframes]
        exact ⟨rfl, rfl⟩
  · intro dropped
    refine ⟨_, congrArg Host.Outcome.next (fadeFrameStart_takes hframes hpending hwaiting), ?_⟩
    have hdropped (r : RequestRecord) : isDropped (fadeFramesLeft es s) r = dropped r :=
      funext fun c => isDropped_eq _ r c
    have hcount : dropCount (fadeFramesLeft es s) = fun r => (List.finRange 128).countP (dropped r) :=
      funext fun r => by rw [dropCount, hdropped]
    rw [counterOf_fadeFrame, (counterOf_stepFades e _).1, hcount]
    rfl
  · exact congrArg Host.Outcome.next (fadeFrameStart_waits hframes (hwait.imp_left (packetsPending_iff _).2))

end Sys2Proof.Machine
end

section
/-! The fixture links: scales that arrive, refreshes, packets sent and their bytes (R87, R89, R171, R196), and the run
notice at the fade engine (R90). -/

namespace Sys2Proof.Machine

/-! ### Scales (R87, R171) -/

/-- The state with the fade engine's next scale taken off its way. -/
def fadeScalesLeft (ms : List ScaleMessage) (s : State) : State :=
  { s with transit := { s.transit with fadeScales := ms } }

/-- The state with k of the current frame held. -/
def scaleHeld (k : Nat) (s : State) : State := { s with fade := { s.fade with k := some k } }

section
variable {s : State} {m : ScaleMessage} {ms : List ScaleMessage}

theorem scaleArrivalFade_owed (h : s.transit.fadeScales = m :: ms) (hcurrent : m.serial = s.fade.taken)
    (howed : s.fade.packets = .owed) :
    scaleArrivalFade s = formPackets false m.k (scaleHeld m.k (fadeScalesLeft ms s)) := by
  simp only [scaleArrivalFade, h, hcurrent, howed, if_true]
  rfl

theorem scaleArrivalFade_held (h : s.transit.fadeScales = m :: ms) (hcurrent : m.serial = s.fade.taken)
    (howed : s.fade.packets ≠ .owed) : scaleArrivalFade s = scaleHeld m.k (fadeScalesLeft ms s) := by
  simp only [scaleArrivalFade, h, hcurrent, howed, if_true, if_false]
  rfl

theorem scaleArrivalFade_later (h : s.transit.fadeScales = m :: ms) (hlater : s.fade.taken < m.serial) :
    scaleArrivalFade s =
      { fadeScalesLeft ms s with fade := { s.fade with scales := s.fade.scales ++ [m] } } := by
  simp only [scaleArrivalFade, h, hlater, hlater.ne', if_true, if_false]
  rfl

theorem scaleArrivalFade_earlier (h : s.transit.fadeScales = m :: ms) (hearlier : m.serial < s.fade.taken) :
    scaleArrivalFade s = fadeScalesLeft ms s := by
  simp only [scaleArrivalFade, h, hearlier.ne, hearlier.not_gt, if_false]
  rfl

end

/-! ### Refreshes (R89) -/

/-- The state with one protection notice taken off its way. -/
def protNoticesLeft (n : Nat) (s : State) : State := { s with transit := { s.transit with protNotices := n } }

theorem protectionNotice_refreshes {s : State} {n k : Nat} (h : s.transit.protNotices = n + 1)
    (hon : s.fade.enabled = true) (hformed : s.fade.packets = .formed) (hk : s.fade.k = some k) :
    protectionNotice s = formPackets true k (protNoticesLeft n s) := by
  simp only [protectionNotice, h, hon, hformed, hk]
  rfl

theorem protectionNotice_of_no_refresh {s : State} {n : Nat} (h : s.transit.protNotices = n + 1)
    (hno : s.fade.enabled = false ∨ s.fade.packets ≠ .formed ∨ s.fade.k = none) :
    protectionNotice s = protNoticesLeft n s := by
  unfold protectionNotice
  rw [h]
  dsimp only
  split
  next hon hformed hk => simp [hon, hformed, hk] at hno
  next => rfl

/-! ### Packets sent (R87) -/

/-- The state with other frame starts waiting at the fade engine. -/
def withWaiting (es : List FrameEvent) (s : State) : State := { s with fade := { s.fade with waiting := es } }

/-- A frame start that is taken neither reads nor moves those that wait. -/
theorem stepFades_withWaiting (e : FrameEvent) (es : List FrameEvent) (s : State) :
    stepFades e (withWaiting es s) = withWaiting es (stepFades e s) := by
  rw [stepFades, countN_setFade, stepFades, countN_setFade]
  rfl

theorem sendPackets_withWaiting (es : List FrameEvent) (s : State) :
    sendPackets (withWaiting es s) = withWaiting es (sendPackets s) := by
  cases h : s.fade.k with
  | none => rw [sendPackets_of_none h, sendPackets_of_none (s := withWaiting es s) h]; rfl
  | some k =>
    rw [sendPackets_of_some h, sendPackets_of_some (s := withWaiting es s) h, formPackets, formPackets]
    rfl

theorem fadeFrame_withWaiting (e : FrameEvent) (es : List FrameEvent) (s : State) :
    fadeFrame e (withWaiting es s) = withWaiting es (fadeFrame e s) := by
  cases h : s.fade.enabled with
  | false =>
    rw [fadeFrame_of_disabled h, fadeFrame_of_disabled (s := withWaiting es s) h, stepFades_withWaiting]
  | true =>
    rw [fadeFrame_of_enabled h, fadeFrame_of_enabled (s := withWaiting es s) h, stepFades_withWaiting,
      sendPackets_withWaiting]

section
variable {s : State} {p : FixtureSend} {ps : List FixtureSend}

theorem fixturePacketsSent_of_cons (h : s.fade.sending = p :: ps) (hstays : ps ≠ [] ∨ s.fade.waiting = []) :
    fixturePacketsSent s = { s with fade := { s.fade with sending := ps } } := by
  unfold fixturePacketsSent
  rw [h]
  dsimp only
  split
  next hwaiting => simp [hwaiting] at hstays
  next => rfl

/-- The end of the last transmission lets the frame start that waits be taken (R87). -/
theorem fixturePacketsSent_takes {e : FrameEvent} {es : List FrameEvent} (h : s.fade.sending = [p])
    (hwaiting : s.fade.waiting = e :: es) : fixturePacketsSent s =
      withWaiting es (fadeFrame e { s with fade := { s.fade with sending := [], waiting := [] } }) := by
  rw [← fadeFrame_withWaiting]
  simp only [fixturePacketsSent, h, hwaiting]
  rfl

end

/-! ### The bytes of a packet (R196) -/

theorem packetLevels_length (link : Fin 2) (p : FixtureSend) :
    ((p.levels.toList.drop (64 * link.val)).take 64).length = 64 := by
  have := link.isLt
  rw [List.length_take, List.length_drop, Vector.length_toList]
  omega

theorem packetLevels_getElem? (link : Fin 2) (p : FixtureSend) {i : Fin 64} {c : Channel}
    (h : c.val = 64 * link.val + i.val) :
    ((p.levels.toList.drop (64 * link.val)).take 64)[i.val]? = some p.levels[c] := by
  rw [List.getElem?_take_of_lt i.isLt, List.getElem?_drop, ← h]
  simp

theorem packetBytes_length (link : Fin 2) (p : FixtureSend) : (packetBytes link p).length = 132 := by
  rw [packetBytes, List.length_append, List.length_append, frameBytes_length,
    flatMap_length (fun l : Level => toBytes_length 2 l.toNat), packetLevels_length]
  rfl

theorem packetBytes_head (link : Fin 2) (p : FixtureSend) :
    HoldsFields (packetBytes link p) [(0, 3, p.frame.toNat), (3, 1, p.refresh.toNat)] := by
  rw [packetBytes, List.append_assoc]
  exact HoldsFrom.fields <| .part (spells_frame p.frame) <| .byte (flagByte_one p.refresh) .nil

theorem packetBytes_level (link : Fin 2) (p : FixtureSend) {i : Fin 64} {c : Channel}
    (h : c.val = 64 * link.val + i.val) :
    HoldsFields (packetBytes link p) [(4 + 2 * i.val, 2, p.levels[c].toNat)] := by
  rw [packetBytes, List.append_assoc]
  refine HoldsFrom.fields <| .skip (frameBytes_length p.frame) <| .skip (n := 1) rfl <|
    .flatMap (fun l : Level => toBytes_length 2 l.toNat) (packetLevels_getElem? link p h) fun rest => ?_
  exact .part (spells_word p.levels[c]) .nil

/-! ### The run notice (R90) -/

/-- `t` is `s` but for the request list, the reads sent and the FADE_OVERRUN count (R77, R90). -/
structure RequestTried (s t : State) : Prop where
  state : t = { s with fade := t.fade, transit := t.transit, counters := t.counters }
  transit : t.transit = { s.transit with reads := t.transit.reads }
  fade : t.fade = { s.fade with requests := t.fade.requests, nextTag := t.fade.nextTag }
  counters : ∀ x : Counter, x ≠ .fadeOverrun → counterOf t x = counterOf s x

theorem RequestTried.refl (s : State) : RequestTried s s := ⟨rfl, rfl, rfl, fun _ _ => rfl⟩

theorem keepRequest_tried (atHead : Bool) (r : FadeRequest) (n : Fin 64) (s : State) :
    RequestTried s (keepRequest atHead r n s) := by
  obtain hfull | hroom := le_or_gt 16 s.fade.requests.length
  · rw [keepRequest_of_full hfull]
    exact ⟨rfl, rfl, rfl, fun x hx => counterOf_countN_ne hx 1 s⟩
  · rw [keepRequest_of_room hroom]
    exact ⟨rfl, rfl, rfl, fun _ _ => rfl⟩

theorem requestStartPreset_tried (label : FrameNo) (s : State) : RequestTried s (requestStartPreset label s) := by
  unfold requestStartPreset
  split
  · exact .refl s
  · exact keepRequest_tried _ _ _ _

theorem requestStartPreset_of_none {s : State} (h : s.image.startPreset = none) (label : FrameNo) :
    requestStartPreset label s = s := by
  simp only [requestStartPreset, h, Option.bind_none]

theorem requestStartPreset_of_some {s : State} {p : Byte} {q : Fin 64} (h : s.image.startPreset = some p)
    (hq : p.toNat = q.val) (label : FrameNo) :
    requestStartPreset label s = keepRequest true
      { preset := p, frame := label + 1, total := s.image.startFadeFrames, airSafe := false, source := .start } q s := by
  have hbyte : BitVec.ofNat 8 q.val = p := by rw [← hq, BitVec.ofNat_toNat, BitVec.setWidth_eq]
  simp only [requestStartPreset, h, Option.bind_some, presetOfByte_of_toNat hq, hbyte]

/-- The state at the run notice with every PINNED channel at its pinned level (R90). -/
def pinnedAtNotice (s : State) : State := setPinnedLevels { s with transit := { s.transit with runFade := none } }

theorem pinnedAtNotice_channel (s : State) (c : Channel) :
    (pinnedAtNotice s).fade.channels[c].fade = s.fade.channels[c].fade ∧
    (pinnedAtNotice s).fade.channels[c].lastOut = s.fade.channels[c].lastOut ∧
    (pinnedAtNotice s).fade.channels[c].level =
      if s.image.channels[c].cls = .pinned then s.image.channels[c].pinned else s.fade.channels[c].level := by
  have hchannel : (pinnedAtNotice s).fade.channels[c] =
      if isPinned s c then { s.fade.channels[c] with level := s.image.channels[c].pinned }
      else s.fade.channels[c] := by
    simp [pinnedAtNotice, setPinnedLevels, isPinned]
  rw [hchannel]
  by_cases hpinned : s.image.channels[c].cls = .pinned
  · rw [if_pos (isPinned_iff.2 hpinned), if_pos hpinned]
    exact ⟨rfl, rfl, rfl⟩
  · rw [if_neg (fun h => hpinned (isPinned_iff.1 h)), if_neg hpinned]
    exact ⟨rfl, rfl, rfl⟩

theorem pinnedAtNotice_frame (s : State) : pinnedAtNotice s = { s with
    fade := { s.fade with channels := (pinnedAtNotice s).fade.channels }
    transit := { s.transit with runFade := none } } := by
  rw [pinnedAtNotice, setPinnedLevels, setFade_fade]
  rfl

/-- The state at the run notice before packets go: pinned levels, the start-up preset requested, links on (R90). -/
def linksOn (n : Notice) (s : State) : State := enableLinks (requestStartPreset n.label (pinnedAtNotice s))

theorem runNoticeFade_of_notice {s : State} {n : Notice} (h : s.transit.runFade = some n) :
    runNoticeFade s = if n.serial ≤ s.fade.taken then sendPackets (linksOn n s) else linksOn n s := by
  simp only [runNoticeFade, h]
  rfl

theorem linksOn_eq (n : Notice) (s : State) : linksOn n s =
    { requestStartPreset n.label (pinnedAtNotice s) with
      fade := { (requestStartPreset n.label (pinnedAtNotice s)).fade with enabled := true } } := rfl

/-- What the run notice leaves besides channels, requests, reads and the FADE_OVERRUN count (R90). -/
structure NoticeTaken (s t : State) : Prop where
  state : t = { s with fade := t.fade, transit := t.transit, counters := t.counters }
  transit : t.transit = { s.transit with runFade := none, reads := t.transit.reads }
  fade : t.fade = { s.fade with
    channels := t.fade.channels, requests := t.fade.requests, nextTag := t.fade.nextTag, enabled := true
    packets := t.fade.packets, sending := t.fade.sending }
  counters : ∀ x : Counter, x ≠ .fadeOverrun → counterOf t x = counterOf s x

theorem linksOn_taken (n : Notice) (s : State) : NoticeTaken s (linksOn n s) := by
  obtain ⟨hstate, htransit, hfade, hcounters⟩ := requestStartPreset_tried n.label (pinnedAtNotice s)
  have hpinned := pinnedAtNotice_frame s
  rw [linksOn_eq]
  generalize requestStartPreset n.label (pinnedAtNotice s) = v at *
  generalize (pinnedAtNotice s).fade.channels = channels at *
  rw [hpinned] at hstate htransit hfade hcounters
  exact ⟨by rw [hstate], htransit, by rw [hfade], hcounters⟩

theorem NoticeTaken.of_packets {s u t : State} (h : NoticeTaken s u) (h' : PacketsOnly u t) : NoticeTaken s t := by
  obtain ⟨hstate, htransit, hfade, hcounters⟩ := h
  have ht := h'.state
  have htf := h'.fade
  have htransit' : t.transit = u.transit := by rw [ht]
  have hcounters' : t.counters = u.counters := by rw [ht]
  refine ⟨?_, ?_, ?_, fun x hx => ?_⟩
  · rw [htransit', hcounters']
    refine ht.trans ?_
    rw [hstate]
  · rw [htransit']
    exact htransit
  · have hrequests : t.fade.requests = u.fade.requests := by rw [htf]
    have htag : t.fade.nextTag = u.fade.nextTag := by rw [htf]
    rw [hrequests, htag]
    refine htf.trans ?_
    rw [hfade]
  · rw [counterOf, hcounters', ← counterOf]
    exact hcounters x hx

theorem linksOn_links (n : Notice) (s : State) : (linksOn n s).fade.packets = s.fade.packets ∧
    (linksOn n s).fade.sending = s.fade.sending ∧ (linksOn n s).fade.k = s.fade.k ∧
    (linksOn n s).fade.frame = s.fade.frame ∧ (linksOn n s).fade.channels = (pinnedAtNotice s).fade.channels := by
  have hfade := (requestStartPreset_tried n.label (pinnedAtNotice s)).fade
  rw [linksOn_eq]
  dsimp only
  rw [hfade, pinnedAtNotice_frame]
  exact ⟨rfl, rfl, rfl, rfl, rfl⟩

/-- Without a start-up preset nothing is requested (R90). -/
theorem linksOn_of_none {s : State} (h : s.image.startPreset = none) (n : Notice) :
    (linksOn n s).fade.requests = s.fade.requests ∧ (linksOn n s).fade.nextTag = s.fade.nextTag ∧
    (linksOn n s).transit.reads = s.transit.reads ∧ (linksOn n s).counters = s.counters := by
  have himage : (pinnedAtNotice s).image.startPreset = none := by rw [pinnedAtNotice_frame]; exact h
  rw [linksOn_eq, requestStartPreset_of_none himage, pinnedAtNotice_frame]
  exact ⟨rfl, rfl, rfl, rfl⟩

section
variable {s : State} {p : Byte} {q : Fin 64}

/-- The start-up preset's request, with start frame F_r + 1 (R90). -/
def startRequest (p : Byte) (n : Notice) (s : State) : FadeRequest :=
  { preset := p, frame := n.label + 1, total := s.image.startFadeFrames, airSafe := false, source := .start }

theorem linksOn_of_preset (h : s.image.startPreset = some p) (hq : p.toNat = q.val) (n : Notice) :
    linksOn n s = enableLinks (keepRequest true (startRequest p n s) q (pinnedAtNotice s)) := by
  have himage : (pinnedAtNotice s).image = s.image := by rw [pinnedAtNotice_frame]
  rw [linksOn, requestStartPreset_of_some (by rw [himage]; exact h) hq, himage, startRequest]

/-- The start-up preset's request goes to the head of a list with room (R90). -/
theorem linksOn_of_room (h : s.image.startPreset = some p) (hq : p.toNat = q.val)
    (hroom : s.fade.requests.length < 16) (n : Notice) :
    (linksOn n s).fade.requests = { req := startRequest p n s, phase := .reading, content := none,
                                    tag := s.fade.nextTag } :: s.fade.requests ∧
    (linksOn n s).fade.nextTag = s.fade.nextTag + 1 ∧
    (linksOn n s).transit.reads = s.transit.reads ++ [{ preset := q, tag := s.fade.nextTag }] ∧
    (linksOn n s).counters = s.counters := by
  have hrequests : (pinnedAtNotice s).fade.requests = s.fade.requests := by rw [pinnedAtNotice_frame]
  rw [linksOn_of_preset h hq, keepRequest_of_room (by rwa [hrequests]), pinnedAtNotice_frame]
  generalize (pinnedAtNotice s).fade.channels = channels
  exact ⟨rfl, rfl, rfl, rfl⟩

/-- At a full list it is dropped with FADE_OVERRUN (R90). -/
theorem linksOn_of_full (h : s.image.startPreset = some p) (hq : p.toNat = q.val)
    (hfull : 16 ≤ s.fade.requests.length) (n : Notice) :
    (linksOn n s).fade.requests = s.fade.requests ∧ (linksOn n s).fade.nextTag = s.fade.nextTag ∧
    (linksOn n s).transit.reads = s.transit.reads ∧
    counterOf (linksOn n s) .fadeOverrun = saturatingAdd (counterOf s .fadeOverrun) 1 := by
  have hrequests : (pinnedAtNotice s).fade.requests = s.fade.requests := by rw [pinnedAtNotice_frame]
  rw [linksOn_of_preset h hq, keepRequest_of_full (by rwa [hrequests]), pinnedAtNotice_frame]
  generalize (pinnedAtNotice s).fade.channels = channels
  exact ⟨rfl, rfl, rfl, counterOf_countN_self _ _ _⟩

end

/-! ### The run notice taken (R90) -/

section
variable {s : State} {n : Notice}

theorem runNoticeFade_packetsOnly (h : s.transit.runFade = some n) : PacketsOnly (linksOn n s) (runNoticeFade s) := by
  rw [runNoticeFade_of_notice h]
  split
  · exact sendPackets_packetsOnly _
  · exact .refl _

/-- Every PINNED channel takes its pinned level, and no running fade changes (R90). -/
theorem runNoticeFade_channel (h : s.transit.runFade = some n) (c : Channel) :
    (runNoticeFade s).fade.channels[c].fade = s.fade.channels[c].fade ∧
    (runNoticeFade s).fade.channels[c].level =
      if s.image.channels[c].cls = .pinned then s.image.channels[c].pinned else s.fade.channels[c].level := by
  obtain ⟨hlevel, hfade⟩ := (runNoticeFade_packetsOnly h).channels c
  obtain ⟨-, -, -, -, hchannels⟩ := linksOn_links n s
  obtain ⟨hfade', -, hlevel'⟩ := pinnedAtNotice_channel s c
  rw [hchannels] at hlevel hfade
  exact ⟨hfade.trans hfade', hlevel.trans hlevel'⟩

/-- The request list, the next tag, the reads sent and the counters are as the start-up preset's request left them. -/
theorem runNoticeFade_requests (h : s.transit.runFade = some n) :
    (runNoticeFade s).fade.requests = (linksOn n s).fade.requests ∧
    (runNoticeFade s).fade.nextTag = (linksOn n s).fade.nextTag ∧
    (runNoticeFade s).transit.reads = (linksOn n s).transit.reads ∧
    (runNoticeFade s).counters = (linksOn n s).counters := by
  have honly := runNoticeFade_packetsOnly h
  have hfade := honly.fade
  have hstate := honly.state
  exact ⟨by rw [hfade], by rw [hfade], by rw [hstate], by rw [hstate]⟩

/-- Before frame start F_r no packets are due (R90). -/
theorem runNoticeFade_packets_before (h : s.transit.runFade = some n) (hbefore : s.fade.taken < n.serial) :
    (runNoticeFade s).fade.packets = s.fade.packets ∧ (runNoticeFade s).fade.sending = s.fade.sending ∧
    ∀ c : Channel, (runNoticeFade s).fade.channels[c].lastOut = s.fade.channels[c].lastOut := by
  obtain ⟨hpackets, hsending, -, -, hchannels⟩ := linksOn_links n s
  rw [runNoticeFade_of_notice h, if_neg hbefore.not_ge, hpackets, hsending, hchannels]
  exact ⟨rfl, rfl, fun c => (pinnedAtNotice_channel s c).2.1⟩

/-- After it the packets of the current frame go, or are owed (R90). -/
theorem runNoticeFade_packets_after (h : s.transit.runFade = some n) (hafter : n.serial ≤ s.fade.taken) :
    (s.fade.k = none → (runNoticeFade s).fade.packets = .owed ∧ (runNoticeFade s).fade.sending = s.fade.sending ∧
      ∀ c : Channel, (runNoticeFade s).fade.channels[c].lastOut = s.fade.channels[c].lastOut) ∧
    (∀ k : Nat, s.fade.k = some k → (runNoticeFade s).fade.packets = .formed ∧
      (runNoticeFade s).fade.sending = s.fade.sending ++
        [{ frame := s.fade.frame, refresh := false, levels := Vector.ofFn (outputLevel (runNoticeFade s) k) }] ∧
      ∀ c : Channel, (runNoticeFade s).fade.channels[c].lastOut = some (outputLevel (runNoticeFade s) k c)) := by
  obtain ⟨-, hsending, hk, hframe, hchannels⟩ := linksOn_links n s
  obtain ⟨howed, hformed⟩ := sendPackets_gone (linksOn n s)
  rw [hk, hsending] at howed hformed
  rw [hchannels] at howed
  rw [hframe] at hformed
  rw [runNoticeFade_of_notice h, if_pos hafter]
  refine ⟨fun hnone => ?_, hformed⟩
  obtain ⟨hpackets, hsent, hlast⟩ := howed hnone
  exact ⟨hpackets, hsent, fun c => (hlast c).trans (pinnedAtNotice_channel s c).2.1⟩

end

/-- The end of transmission with a frame start that waits, as FADE_FRAME_START takes it (R87). -/
theorem fixturePacketsSent_as_frameStart {s : State} {p : FixtureSend} {e : FrameEvent} {es : List FrameEvent}
    (hsending : s.fade.sending = [p]) (hwaiting : s.fade.waiting = e :: es) (howed : s.fade.packets ≠ .owed) :
    ∃ t, exec .fadeFrameStart { s with
        fade := { s.fade with sending := [], waiting := [] }
        transit := { s.transit with fadeFrames := e :: s.transit.fadeFrames } } = .next t ∧
      exec .fixturePacketsSent s = .next { t with fade := { t.fade with waiting := es } } := by
  let idle : State := { s with fade := { s.fade with sending := [], waiting := [] } }
  let issued : State := { idle with transit := { s.transit with fadeFrames := e :: s.transit.fadeFrames } }
  have hnone : packetsPending issued.fade = false := by
    rw [← Bool.not_eq_true, packetsPending_iff]
    exact fun h => h.2.elim howed fun hsent => hsent rfl
  have htakes : fadeFrameStart issued = fadeFrame e idle :=
    fadeFrameStart_takes (s := issued) (es := s.transit.fadeFrames) rfl hnone rfl
  exact ⟨fadeFrame e idle, congrArg Host.Outcome.next htakes,
    congrArg Host.Outcome.next (fixturePacketsSent_takes hsending hwaiting)⟩

/-- Settles O31: each arrival by what the current frame's packets await, the packet's bytes in order, and the run notice
by its start-up preset and by whether F_r has been taken. -/
theorem packetsAndRunNotice : Obligations.PacketsAndRunNotice := by
  refine ⟨⟨fun s m ms hscales hcurrent howed => ?_, fun s m ms hscales => ⟨fun hlater => ?_, fun hcurrent howed => ?_,
      fun hearlier => ?_⟩, fun s n hnotices hno => ?_, fun s k n hnotices hon hformed hk => ?_,
      fun s p ps hsending => ⟨fun hstays => ?_, ?_⟩⟩,
    fun link p => ⟨packetBytes_length link p, packetBytes_head link p, fun i c hc => packetBytes_level link p hc⟩,
    fun s n hnotice => ?_⟩
  · have hlevels : outputLevel (scaleHeld m.k (fadeScalesLeft ms s)) m.k = outputLevel s m.k :=
      funext fun c => outputLevel_congr rfl rfl rfl m.k
    have hfade := formPackets_fade false m.k (scaleHeld m.k (fadeScalesLeft ms s))
    rw [hlevels] at hfade
    refine ⟨_, congrArg Host.Outcome.next (scaleArrivalFade_owed hscales hcurrent howed), by rw [hfade],
      by rw [hfade]; rfl, fun c => ?_, by rw [hfade]; rfl, formPackets_frame _ _ _, by rw [hfade]; rfl⟩
    rw [formPackets_channel, hlevels]
    rfl
  · exact congrArg Host.Outcome.next (scaleArrivalFade_later hscales hlater)
  · exact congrArg Host.Outcome.next (scaleArrivalFade_held hscales hcurrent howed)
  · exact congrArg Host.Outcome.next (scaleArrivalFade_earlier hscales hearlier)
  · exact congrArg Host.Outcome.next (protectionNotice_of_no_refresh hnotices hno)
  · have hlevels : outputLevel (protNoticesLeft n s) k = outputLevel s k :=
      funext fun c => outputLevel_congr rfl rfl rfl k
    have hfade := formPackets_fade true k (protNoticesLeft n s)
    rw [hlevels] at hfade
    refine ⟨_, congrArg Host.Outcome.next (protectionNotice_refreshes hnotices hon hformed hk),
      by rw [formPackets_frame]; rfl, fun c => ?_, by rw [hfade]; rfl, formPackets_frame _ _ _, ?_⟩
    · rw [formPackets_channel, hlevels]
      rfl
    · rw [hfade, ← hformed]
      rfl
  · exact congrArg Host.Outcome.next (fixturePacketsSent_of_cons hsending hstays)
  · rintro e es rfl hwaiting howed
    exact fixturePacketsSent_as_frameStart hsending hwaiting howed
  · have htaken := (linksOn_taken n s).of_packets (runNoticeFade_packetsOnly hnotice)
    obtain ⟨hrequests, htag, hreads, hcounters⟩ := runNoticeFade_requests hnotice
    refine ⟨runNoticeFade s, rfl, by rw [htaken.fade], by rw [htaken.transit], htaken.state, htaken.transit,
      htaken.fade, runNoticeFade_channel hnotice, htaken.counters, fun hnone => ?_, fun p q hp hq => ⟨fun hroom => ?_,
      fun hfull => ?_⟩, runNoticeFade_packets_before hnotice, runNoticeFade_packets_after hnotice⟩
    · rw [hrequests, htag, hreads, hcounters]
      exact linksOn_of_none hnone n
    · rw [hrequests, htag, hreads, hcounters]
      exact linksOn_of_room hp hq hroom n
    · rw [hrequests, htag, hreads, counterOf, hcounters, ← counterOf]
      exact linksOn_of_full hp hq hfull n

end Sys2Proof.Machine
end

section
/-! The preset store: its buffers and the codes that name them (R101 to R103), and the operation in progress (R106). -/

namespace Sys2Proof.Machine

/-! ### Staging buffers (R101 to R103) -/

theorem bufferOf_setBuffer_self (x : BufferName) (y : StagingBuffer) (p : PresetStore) :
    bufferOf x (setBuffer x y p) = y := by
  cases x <;> rfl

theorem bufferOf_setBuffer_ne {x z : BufferName} (h : z ≠ x) (y : StagingBuffer) (p : PresetStore) :
    bufferOf z (setBuffer x y p) = bufferOf z p :=
  match x, z, h with
  | .a, .b, _ | .b, .a, _ => rfl
  | .a, .a, h | .b, .b, h => absurd rfl h

/-- Writing a buffer writes nothing else of the store. -/
@[simp] theorem setBuffer_keeps (x : BufferName) (y : StagingBuffer) (p : PresetStore) :
    (setBuffer x y p).directory = p.directory ∧ (setBuffer x y p).mapEntry = p.mapEntry ∧
    (setBuffer x y p).ops = p.ops ∧ (setBuffer x y p).reads = p.reads ∧ (setBuffer x y p).serving = p.serving ∧
    (setBuffer x y p).running = p.running ∧ (setBuffer x y p).restartWait = p.restartWait ∧
    (setBuffer x y p).scanning = p.scanning := by
  cases x <;> simp [setBuffer]

/-- Buffer codes 0 and 1 name A and B (R102, R103). -/
theorem bufferOfCode_of_toNat {code : Byte} {x : BufferName} (h : code.toNat = if x = .a then 0 else 1) :
    bufferOfCode code = some x := by
  cases x <;> simp [bufferOfCode, h]

theorem bufferOfCode_of_two_le {code : Byte} (h : 2 ≤ code.toNat) : bufferOfCode code = none := by
  unfold bufferOfCode
  split
  · omega
  · omega
  · rfl

/-! ### The operation in progress (R106) -/

theorem startOperation_of_nil {s : State} (h : s.store.ops = []) : startOperation s = s := by
  rw [startOperation, h]

/-- The head operation leaves the queue and starts (R106). -/
theorem startOperation_of_cons {s : State} {op : ArrayOp} {ops : List ArrayOp} (h : s.store.ops = op :: ops) :
    startOperation s = operationStarted op ops s := by
  cases op with
  | commit x n => cases x <;> simp only [startOperation, h] <;> rfl
  | mapErase | mapProgram => simp only [startOperation, h]; rfl

theorem runningCommit_of_commit {s : State} {c : CommitRun} (h : s.store.running = some (.commit c)) :
    runningCommit s = some c := by
  rw [runningCommit, h]

theorem running_of_runningCommit {s : State} {c : CommitRun} (h : runningCommit s = some c) :
    s.store.running = some (.commit c) := by
  unfold runningCommit at h
  split at h
  next c' hc => cases h; exact hc
  all_goals cases h

theorem runningCommit_of_idle {s : State} (h : s.store.running = none) : runningCommit s = none := by
  rw [runningCommit, h]

/-- The commit that is not suspended, in a phase (R107). -/
theorem commitIn_of_commit {s : State} {c : CommitRun} (h : s.store.running = some (.commit c))
    (hon : c.suspended = false) : commitIn c.phase s = some c := by
  simp [commitIn, h, hon]

theorem commitIn_spec {phase : CommitPhase} {s : State} {c : CommitRun} (h : commitIn phase s = some c) :
    s.store.running = some (.commit c) ∧ c.phase = phase ∧ c.suspended = false := by
  refine ⟨commitIn_some h, ?_⟩
  simp only [commitIn, commitIn_some h] at h
  split at h
  next hboth => exact hboth
  · cases h

end Sys2Proof.Machine
end

section
/-! The COMMITTING marks, the journal and the commit in progress agree (R99, R106, R107, R114), and no operation is
queued or in progress before the start scan has ended (R100, R117): what each operation of the preset store keeps of
both. -/

namespace Sys2Proof.Machine

/-! ### The marks of the operation in progress -/

/-- No directory entry and no buffer is COMMITTING. -/
structure NoneCommitting (p : PresetStore) : Prop where
  entry : ∀ n : Fin 64, p.directory[n].state ≠ .committing
  buffer : ∀ x : BufferName, (bufferOf x p).state ≠ .committing

/-- The entry and the buffer of a commit are COMMITTING, and no others (R106, R107). -/
structure OnlyCommitting (c : CommitRun) (p : PresetStore) : Prop where
  entry : ∀ n : Fin 64, p.directory[n].state = .committing ↔ n = c.preset
  buffer : ∀ x : BufferName, (bufferOf x p).state = .committing ↔ x = c.buffer

/-- The limits on the suspension of a commit (R114). -/
structure SuspendsWithin (c : CommitRun) : Prop where
  count : c.suspends ≤ 8
  suspended : c.suspended = true → c.phase ≠ .verify
  asked : c.asked = true → c.phase ≠ .verify ∧ c.suspended = false ∧ c.suspends < 8

theorem commitsConsistent_iff_of_no_commit {s : State} (h : runningCommit s = none) :
    CommitsConsistent s ↔
      NoneCommitting s.store ∧ (s.store.running.isSome = true → s.flash.journal = some .map) := by
  simp only [CommitsConsistent, h, Option.not_mem_none, false_and, exists_false, iff_false, forall_true_left,
    false_implies, implies_true, true_and]
  exact ⟨fun ⟨hentry, hbuffer, hjournal⟩ => ⟨⟨hentry, hbuffer⟩, hjournal⟩,
    fun ⟨⟨hentry, hbuffer⟩, hjournal⟩ => ⟨hentry, hbuffer, hjournal⟩⟩

theorem commitsConsistent_iff_of_idle {s : State} (h : s.store.running = none) :
    CommitsConsistent s ↔ NoneCommitting s.store := by
  simp [commitsConsistent_iff_of_no_commit (runningCommit_of_idle h), h]

theorem CommitsConsistent.of_idle {s : State} (h : s.store.running = none) (hnone : NoneCommitting s.store) :
    CommitsConsistent s :=
  (commitsConsistent_iff_of_idle h).2 hnone

theorem commitsConsistent_iff_of_commit {s : State} {c : CommitRun} (h : s.store.running = some (.commit c)) :
    CommitsConsistent s ↔
      OnlyCommitting c s.store ∧ s.flash.journal = some (.preset c.preset) ∧ SuspendsWithin c := by
  have hc := runningCommit_of_commit h
  simp only [CommitsConsistent, hc, Option.mem_some_iff, exists_eq_left', forall_eq', reduceCtorEq, false_implies,
    implies_true, and_true]
  refine ⟨fun ⟨hentry, hbuffer, hjournal, hcount, hsuspended, hasked⟩ =>
      ⟨⟨fun n => (hentry n).trans eq_comm, fun x => (hbuffer x).trans eq_comm⟩, hjournal, hcount, hsuspended, hasked⟩,
    fun ⟨⟨hentry, hbuffer⟩, hjournal, hcount, hsuspended, hasked⟩ =>
      ⟨fun n => (hentry n).trans eq_comm, fun x => (hbuffer x).trans eq_comm, hjournal, hcount, hsuspended, hasked⟩⟩

/-- `q` has the COMMITTING marks of `p`. -/
structure SameMarks (p q : PresetStore) : Prop where
  directory : q.directory = p.directory
  buffer : ∀ x : BufferName, (bufferOf x q).state = .committing ↔ (bufferOf x p).state = .committing

theorem SameMarks.refl (p : PresetStore) : SameMarks p p := ⟨rfl, fun _ => .rfl⟩

theorem SameMarks.trans {p q r : PresetStore} (h : SameMarks p q) (h' : SameMarks q r) : SameMarks p r :=
  ⟨h'.directory.trans h.directory, fun x => (h'.buffer x).trans (h.buffer x)⟩

/-- The directory and both buffers as they were. -/
theorem SameMarks.of_eq {p q : PresetStore} (hdirectory : q.directory = p.directory) (ha : q.bufferA = p.bufferA)
    (hb : q.bufferB = p.bufferB) : SameMarks p q where
  directory := hdirectory
  buffer z := by cases z <;> simp [bufferOf, ha, hb]

/-- A buffer written that is COMMITTING neither before nor after, or both. -/
theorem SameMarks.setBuffer {x : BufferName} {y : StagingBuffer} {p : PresetStore}
    (h : y.state = .committing ↔ (bufferOf x p).state = .committing) : SameMarks p (setBuffer x y p) where
  directory := by simp
  buffer z := by
    by_cases hz : z = x
    · rw [hz, bufferOf_setBuffer_self, h]
    · rw [bufferOf_setBuffer_ne hz]

theorem SameMarks.none {p q : PresetStore} (h : SameMarks p q) (hp : NoneCommitting p) : NoneCommitting q where
  entry n := by rw [h.directory]; exact hp.entry n
  buffer z := mt (h.buffer z).1 (hp.buffer z)

theorem NoneCommitting.of_eq {p q : PresetStore} (h : NoneCommitting p) (hdirectory : q.directory = p.directory)
    (ha : q.bufferA = p.bufferA) (hb : q.bufferB = p.bufferB) : NoneCommitting q :=
  (SameMarks.of_eq hdirectory ha hb).none h

theorem SameMarks.only {p q : PresetStore} (h : SameMarks p q) {c : CommitRun} (hp : OnlyCommitting c p) :
    OnlyCommitting c q where
  entry n := by rw [h.directory]; exact hp.entry n
  buffer z := (h.buffer z).trans (hp.buffer z)

theorem OnlyCommitting.of_same {c c' : CommitRun} {p : PresetStore} (h : OnlyCommitting c p)
    (hpreset : c'.preset = c.preset) (hbuffer : c'.buffer = c.buffer) : OnlyCommitting c' p where
  entry n := by rw [hpreset]; exact h.entry n
  buffer z := by rw [hbuffer]; exact h.buffer z

/-- The commit that starts marks its entry and its buffer (R107). -/
theorem NoneCommitting.marked {p : PresetStore} (h : NoneCommitting p) (c : CommitRun) {y : StagingBuffer}
    {e : DirEntry} (hy : y.state = .committing) (he : e.state = .committing) {q : PresetStore}
    (hdirectory : q.directory = setAt p.directory c.preset e)
    (hbuffer : ∀ x, bufferOf x q = bufferOf x (setBuffer c.buffer y p)) : OnlyCommitting c q where
  entry n := by
    rw [hdirectory, setAt_getElem]
    split
    next hn => simp [hn, he]
    next hn => exact iff_of_false (h.entry n) hn
  buffer z := by
    rw [hbuffer]
    by_cases hz : z = c.buffer
    · simp [hz, bufferOf_setBuffer_self, hy]
    · simp [bufferOf_setBuffer_ne hz, hz, h.buffer z]

/-- The commit that ends clears its marks (R108). -/
theorem OnlyCommitting.cleared {c : CommitRun} {p : PresetStore} (h : OnlyCommitting c p) {y : StagingBuffer}
    {e : DirEntry} (hy : y.state ≠ .committing) (he : e.state ≠ .committing) {q : PresetStore}
    (hdirectory : q.directory = setAt p.directory c.preset e)
    (hbuffer : ∀ x, bufferOf x q = bufferOf x (setBuffer c.buffer y p)) : NoneCommitting q where
  entry n := by
    rw [hdirectory, setAt_getElem]
    split
    · exact he
    next hn => exact mt (h.entry n).1 hn
  buffer z := by
    rw [hbuffer]
    by_cases hz : z = c.buffer
    · rwa [hz, bufferOf_setBuffer_self]
    · rw [bufferOf_setBuffer_ne hz]
      exact mt (h.buffer z).1 hz

theorem CommitsConsistent.of_same {s t : State} (h : CommitsConsistent s) (hmarks : SameMarks s.store t.store)
    (hrunning : t.store.running = s.store.running) (hjournal : t.flash.journal = s.flash.journal) :
    CommitsConsistent t := by
  cases hc : runningCommit s with
  | some c =>
    have hrun := running_of_runningCommit hc
    obtain ⟨honly, hnamed, hwithin⟩ := (commitsConsistent_iff_of_commit hrun).1 h
    exact (commitsConsistent_iff_of_commit (hrunning.trans hrun)).2
      ⟨hmarks.only honly, hjournal.trans hnamed, hwithin⟩
  | none =>
    have hnot : runningCommit t = none := by rwa [runningCommit, hrunning]
    obtain ⟨hnone, hnamed⟩ := (commitsConsistent_iff_of_no_commit hc).1 h
    exact (commitsConsistent_iff_of_no_commit hnot).2
      ⟨hmarks.none hnone, by rw [hrunning, hjournal]; exact hnamed⟩

/-- A commit that goes on, in another phase or suspended (R107, R114, R115). -/
theorem CommitsConsistent.of_run {s t : State} (h : CommitsConsistent s) {c c' : CommitRun}
    (hc : s.store.running = some (.commit c)) (hc' : t.store.running = some (.commit c'))
    (hpreset : c'.preset = c.preset) (hbuffer : c'.buffer = c.buffer) (hmarks : SameMarks s.store t.store)
    (hjournal : t.flash.journal = s.flash.journal) (hwithin : SuspendsWithin c → SuspendsWithin c') :
    CommitsConsistent t := by
  obtain ⟨honly, hnamed, hlimits⟩ := (commitsConsistent_iff_of_commit hc).1 h
  exact (commitsConsistent_iff_of_commit hc').2
    ⟨hmarks.only (honly.of_same hpreset hbuffer), by rw [hjournal, hnamed, hpreset], hwithin hlimits⟩

/-! ### What an operation keeps -/

/-- What a command that ends no start scan and lets no operation join keeps of the scan (R100, R117). -/
structure ScanKept (s t : State) : Prop where
  state : t.station.state = s.station.state
  idle : s.store.running = none ∧ s.store.ops = [] → t.store.running = none ∧ t.store.ops = []
  scanning : t.store.scanning = s.store.scanning
  scanEnd : t.transit.scanEnd = s.transit.scanEnd

theorem ScanKept.before {s t : State} (h : ScanKept s t) (hs : ScanBeforeOperations s) : ScanBeforeOperations t := by
  obtain ⟨hloading, hscanning⟩ := hs
  refine ⟨fun hstate => ?_, fun hscan => ?_⟩
  · obtain ⟨hrunning, hops, hscan, hend⟩ := hloading (h.state ▸ hstate)
    obtain ⟨hrunning', hops'⟩ := h.idle ⟨hrunning, hops⟩
    exact ⟨hrunning', hops', h.scanning.trans hscan, h.scanEnd.trans hend⟩
  · obtain ⟨hrunning, hops, hend, hstate⟩ := hscanning (h.scanning ▸ hscan)
    obtain ⟨hrunning', hops'⟩ := h.idle ⟨hrunning, hops⟩
    exact ⟨hrunning', hops', h.scanEnd.trans hend, h.state ▸ hstate⟩

/-- What a command keeps of the marks, the journal and the scan. -/
structure ArrayKept (s t : State) : Prop where
  commits : CommitsConsistent s → CommitsConsistent t
  scan : ScanKept s t

theorem ArrayKept.refl (s : State) : ArrayKept s s := ⟨id, rfl, id, rfl, rfl⟩

theorem ArrayKept.trans {s t u : State} (h : ArrayKept s t) (h' : ArrayKept t u) : ArrayKept s u where
  commits := h'.commits ∘ h.commits
  scan := ⟨h'.scan.state.trans h.scan.state, h'.scan.idle ∘ h.scan.idle, h'.scan.scanning.trans h.scan.scanning,
    h'.scan.scanEnd.trans h.scan.scanEnd⟩

/-- The marks, the operation in progress, the queue and the journal as they were. -/
theorem ArrayKept.of_same {s t : State} (hmarks : SameMarks s.store t.store)
    (hrunning : t.store.running = s.store.running) (hops : t.store.ops = s.store.ops)
    (hscanning : t.store.scanning = s.store.scanning) (hjournal : t.flash.journal = s.flash.journal)
    (hstate : t.station.state = s.station.state) (hend : t.transit.scanEnd = s.transit.scanEnd) : ArrayKept s t where
  commits h := h.of_same hmarks hrunning hjournal
  scan := ⟨hstate, fun ⟨hr, ho⟩ => ⟨hrunning.trans hr, hops.trans ho⟩, hscanning, hend⟩

/-- The preset store and the journal as they were. -/
theorem ArrayKept.of_eq {s t : State} (hstore : t.store = s.store) (hjournal : t.flash.journal = s.flash.journal)
    (hstate : t.station.state = s.station.state) (hend : t.transit.scanEnd = s.transit.scanEnd) : ArrayKept s t :=
  .of_same (hstore ▸ .refl _) (by rw [hstore]) (by rw [hstore]) (by rw [hstore]) hjournal hstate hend

/-- A commit that goes on. -/
theorem ArrayKept.of_run {s t : State} {c c' : CommitRun} (hc : s.store.running = some (.commit c))
    (hstore : t.store = { s.store with running := some (.commit c') }) (hpreset : c'.preset = c.preset)
    (hbuffer : c'.buffer = c.buffer) (hwithin : SuspendsWithin c → SuspendsWithin c')
    (hjournal : t.flash.journal = s.flash.journal) (hstate : t.station.state = s.station.state)
    (hend : t.transit.scanEnd = s.transit.scanEnd) : ArrayKept s t where
  commits h := h.of_run hc (by rw [hstore]) hpreset hbuffer (hstore ▸ .of_eq rfl rfl rfl) hjournal hwithin
  scan := ⟨hstate, fun ⟨hr, _⟩ => absurd (hc.symm.trans hr) (by simp), by rw [hstore], hend⟩

theorem ArrayKept.ite {s t : State} {p : Prop} [Decidable p] (h : ArrayKept s t) :
    ArrayKept s (if p then t else s) := by
  split
  · exact h
  · exact .refl s

/-! ### The arbiter (R106, R113 to R115) -/

theorem answerHeads_arrayKept (s : State) : ArrayKept s (answerHeads s) :=
  .of_same (.of_eq rfl rfl rfl) rfl rfl rfl rfl rfl rfl

theorem serveHead_arrayKept (s : State) : ArrayKept s (serveHead s) := by
  unfold serveHead
  split
  · exact .refl s
  · exact .of_same (.of_eq rfl rfl rfl) rfl rfl rfl rfl rfl rfl

/-- The operation that starts takes its marks and the journal (R106, R107, R111). -/
theorem startOperation_commits {s : State} (hidle : s.store.running = none) (h : CommitsConsistent s) :
    CommitsConsistent (startOperation s) := by
  have hnone := (commitsConsistent_iff_of_idle hidle).1 h
  cases hops : s.store.ops with
  | nil => rwa [startOperation_of_nil hops]
  | cons op ops =>
    rw [startOperation_of_cons hops]
    cases op with
    | commit x n =>
      refine (commitsConsistent_iff_of_commit rfl).2 ⟨?_, rfl, Nat.zero_le _, nofun, nofun⟩
      exact hnone.marked _ rfl rfl rfl fun z => by cases z <;> rfl
    | mapErase | mapProgram =>
      exact (commitsConsistent_iff_of_no_commit rfl).2 ⟨hnone.of_eq rfl rfl rfl, fun _ => rfl⟩

theorem startOperation_scanning (s : State) : (startOperation s).store.scanning = s.store.scanning := by
  cases hops : s.store.ops with
  | nil => rw [startOperation_of_nil hops]
  | cons op ops =>
    rw [startOperation_of_cons hops]
    cases op with
    | commit x n => simp [operationStarted]
    | mapErase | mapProgram => rfl

theorem startOperation_arrayKept {s : State} (hidle : s.store.running = none) : ArrayKept s (startOperation s) where
  commits := startOperation_commits hidle
  scan := ⟨by simp, fun h => by rw [startOperation_of_nil h.2]; exact h, startOperation_scanning s, by simp⟩

theorem arbitrate_arrayKept (s : State) : ArrayKept s (arbitrate s) := by
  have hheads := answerHeads_arrayKept s
  obtain h | h | h | ⟨hidle, -, -, h⟩ | ⟨c, hc, hsuspended, h⟩ | ⟨c, hc, hon, hphase, hcount, -, h⟩ := arbitrate_cases s
  all_goals rw [h]
  · exact .refl s
  · exact hheads
  · exact hheads.trans (serveHead_arrayKept _)
  · exact hheads.trans (startOperation_arrayKept hidle)
  · refine hheads.trans (.of_run (s := answerHeads s) hc rfl rfl rfl (fun hwithin => ?_) rfl rfl rfl)
    exact ⟨hwithin.count, nofun, fun hasked => absurd hsuspended (by simp [(hwithin.asked hasked).2.1])⟩
  · refine hheads.trans (.of_run (s := answerHeads s) hc rfl rfl rfl (fun hwithin => ?_) rfl rfl rfl)
    exact ⟨hwithin.count, hwithin.suspended, fun _ => ⟨hphase, hon, hcount⟩⟩

theorem ArrayKept.arbitrated {s u : State} (h : ArrayKept s u) : ArrayKept s (arbitrate u) :=
  h.trans (arbitrate_arrayKept u)

/-! ### Operations of the preset store -/

theorem takePreset_arrayKept (m : Message) (s : State) : ArrayKept s (takePreset m s) := by
  unfold takePreset
  dsimp only
  split
  · exact .of_eq rfl rfl rfl rfl
  next x _ =>
    split
    next hopen =>
      have hmarks := SameMarks.setBuffer (x := x) (y := writePart (presetFields m) (bufferOf x s.store)) (p := s.store)
        (by rw [show (writePart (presetFields m) (bufferOf x s.store)).state = (bufferOf x s.store).state from rfl])
      exact .of_same hmarks (by simp) (by simp) (by simp) rfl rfl rfl
    all_goals exact .of_eq rfl rfl rfl rfl

theorem takeRead_arrayKept (r : ReadRequest) (s : State) : ArrayKept s (takeRead r s) := by
  unfold takeRead
  split
  · exact .of_eq rfl rfl rfl rfl
  · split
    · exact .of_eq rfl rfl rfl rfl
    · exact .arbitrated (.of_same (.of_eq rfl rfl rfl) rfl rfl rfl rfl rfl rfl)

theorem presetReadRequest_arrayKept (s : State) : ArrayKept s (presetReadRequest s) := by
  unfold presetReadRequest
  split
  · exact .refl s
  next r rs _ =>
    exact .trans (t := { s with transit := { s.transit with reads := rs } }) (.of_eq rfl rfl rfl rfl)
      (takeRead_arrayKept _ _)

theorem arrayReadEnd_arrayKept (s : State) : ArrayKept s (arrayReadEnd s) := by
  unfold arrayReadEnd
  split
  · exact .refl s
  · exact .arbitrated (.of_same (.of_eq rfl rfl rfl) rfl rfl rfl rfl rfl rfl)

/-- A suspension reached counts towards the limit of 8 (R114). -/
theorem suspensionReached_arrayKept (s : State) : ArrayKept s (suspensionReached s) := by
  unfold suspensionReached
  split
  next c hc =>
    split
    next hreached =>
      obtain ⟨hasked, -, hphase⟩ := hreached
      have hheads := ArrayKept.trans
        (.of_run (t := count .suspend
            (setRun { c with suspended := true, asked := false, suspends := c.suspends + 1 } s))
          hc rfl rfl rfl (fun hwithin => ⟨(hwithin.asked hasked).2.2, fun _ => hphase, nofun⟩) rfl rfl rfl)
        (answerHeads_arrayKept _)
      dsimp only
      split
      · exact hheads.arbitrated
      · exact hheads.trans (serveHead_arrayKept _)
    · exact .refl s
  all_goals exact .refl s

theorem eraseEnd_arrayKept (s : State) : ArrayKept s (eraseEnd s) := by
  unfold eraseEnd
  split
  · exact .refl s
  next c hc =>
    obtain ⟨hrun, -, hon⟩ := commitIn_spec hc
    exact .of_run hrun rfl rfl rfl (fun hwithin => ⟨hwithin.count, fun hsuspended => absurd hsuspended (by simp [hon]),
      fun hasked => ⟨nofun, (hwithin.asked hasked).2⟩⟩) rfl rfl rfl

theorem programEnd_arrayKept (s : State) : ArrayKept s (programEnd s) := by
  unfold programEnd
  split
  · exact .refl s
  next c hc =>
    obtain ⟨hrun, -, hon⟩ := commitIn_spec hc
    exact .of_run hrun rfl rfl rfl (fun hwithin => ⟨hwithin.count, fun hsuspended => absurd hsuspended (by simp [hon]),
      nofun⟩) rfl rfl rfl

/-- An operation that ends with no mark left, in a state that had one in progress (R108, R111). -/
theorem finishOperation_arrayKept {s u : State} {r : Running} (hrunning : s.store.running = some r)
    (hmarks : CommitsConsistent s → NoneCommitting u.store) (hscanning : u.store.scanning = s.store.scanning)
    (hstate : u.station.state = s.station.state) (hend : u.transit.scanEnd = s.transit.scanEnd) :
    ArrayKept s (finishOperation u) := by
  refine .arbitrated ⟨fun h => ?_, hstate, fun ⟨hr, _⟩ => absurd (hrunning.symm.trans hr) (by simp), hscanning, hend⟩
  exact .of_idle rfl ((hmarks h).of_eq rfl rfl rfl)

/-- The end of a commit, after a verify has marked its page and the flag (R108 to R110). -/
theorem endCommit_arrayKept {s u : State} {c : CommitRun} (hc : s.store.running = some (.commit c)) {e : DirEntry}
    (he : e.state ≠ .committing) (hstore : u.store = s.store) (hstate : u.station.state = s.station.state)
    (hend : u.transit.scanEnd = s.transit.scanEnd) : ArrayKept s (endCommit c e u) := by
  refine finishOperation_arrayKept hc (fun h => ?_) (by simp [hstore]) hstate hend
  obtain ⟨honly, -, -⟩ := (commitsConsistent_iff_of_commit hc).1 h
  refine honly.cleared (y := { bufferOf c.buffer s.store with state := .opened, target := none }) nofun he
    (by simp [hstore]) fun z => ?_
  rw [hstore]
  cases z <;> cases c.buffer <;> rfl

theorem verifyEnd_arrayKept (success : Bool) (s : State) : ArrayKept s (verifyEnd success s) := by
  unfold verifyEnd
  split
  · exact .refl s
  next c hc =>
    have hrun := commitIn_some hc
    dsimp only
    split
    · exact endCommit_arrayKept hrun nofun rfl rfl rfl
    · exact endCommit_arrayKept hrun nofun rfl rfl rfl

/-- The end of a map operation (R111). -/
theorem endMap_arrayKept {s : State} {r : Running} (hrunning : s.store.running = some r)
    (hmap : runningCommit s = none) (page : Page ChannelSet) (entry : EntryState) :
    ArrayKept s (endMap page entry s) :=
  finishOperation_arrayKept hrunning (fun h =>
    ((commitsConsistent_iff_of_no_commit hmap).1 h).1.of_eq rfl rfl rfl) rfl rfl rfl

theorem mapEraseEnd_arrayKept (s : State) : ArrayKept s (mapEraseEnd s) := by
  unfold mapEraseEnd
  split
  next hrunning => exact endMap_arrayKept hrunning (by rw [runningCommit, hrunning]) _ _
  all_goals exact .refl s

theorem mapProgramEnd_arrayKept (s : State) : ArrayKept s (mapProgramEnd s) := by
  unfold mapProgramEnd
  split
  next hrunning =>
    split
    all_goals exact endMap_arrayKept hrunning (by rw [runningCommit, hrunning]) _ _
  all_goals exact .refl s

theorem restartRequest_arrayKept (s : State) : ArrayKept s (restartRequest s) := by
  unfold restartRequest
  dsimp only
  split
  · exact .refl s
  · split
    · exact .of_same (.of_eq rfl rfl rfl) rfl rfl rfl rfl rfl rfl
    · exact .arbitrated (.of_same (.of_eq rfl rfl rfl) rfl rfl rfl rfl rfl rfl)

end Sys2Proof.Machine
end

section
/-! The scan end on its way to the start-up controller (R117, R183): which operations leave it as it is. -/

namespace Sys2Proof.Machine

@[simp] theorem genlockPulse_scanEnd (now : Nanos) (s : State) :
    (genlockPulse now s).transit.scanEnd = s.transit.scanEnd := by
  unfold genlockPulse pulseLocked pulseUnlocked lockTimebase
  dsimp only
  (repeat' split) <;> simp [issueFrameStart, deliverFrame]

@[simp] theorem lossDeadline_scanEnd (s : State) : (lossDeadline s).transit.scanEnd = s.transit.scanEnd := by
  unfold lossDeadline
  split <;> simp [issueFrameStart, deliverFrame]

@[simp] theorem internalTimerExpiry_scanEnd (s : State) :
    (internalTimerExpiry s).transit.scanEnd = s.transit.scanEnd := by
  unfold internalTimerExpiry
  split <;> simp [issueFrameStart, deliverFrame]

@[simp] theorem seekEnd_scanEnd (s : State) : (seekEnd s).transit.scanEnd = s.transit.scanEnd := by
  unfold seekEnd
  dsimp only
  (repeat' split) <;> simp

@[simp] theorem takeDue_scanEnd (s : State) : (takeDue s).transit.scanEnd = s.transit.scanEnd := by
  simp [takeDue_eq]

@[simp] theorem cueListFrameStart_scanEnd (s : State) :
    (cueListFrameStart s).transit.scanEnd = s.transit.scanEnd := by
  unfold cueListFrameStart
  split <;> simp [cueFrame_eq]

@[simp] theorem runNoticeCueList_scanEnd (s : State) :
    (runNoticeCueList s).transit.scanEnd = s.transit.scanEnd := by
  unfold runNoticeCueList
  dsimp only
  (repeat' split) <;> simp

@[simp] theorem actOnCondition_scanEnd (c : ConditionNo) (v : Bool) (source : StationNo) (s : State) :
    (actOnCondition c v source s).transit.scanEnd = s.transit.scanEnd := by
  unfold actOnCondition
  dsimp only
  split <;> simp

@[simp] theorem takeCond_scanEnd (m : Message) (s : State) : (takeCond m s).transit.scanEnd = s.transit.scanEnd := by
  unfold takeCond
  split <;> simp

@[simp] theorem pinChange_scanEnd (c : ConditionNo) (level : Bool) (s : State) :
    (pinChange c level s).transit.scanEnd = s.transit.scanEnd := by
  simp [pinChange]

@[simp] theorem debouncedChange_scanEnd (pin : Fin 4) (s : State) :
    (debouncedChange pin s).transit.scanEnd = s.transit.scanEnd := by
  unfold debouncedChange
  dsimp only
  (repeat' split) <;> simp

@[simp] theorem samplePin_scanEnd (pin : Fin 4) (s : State) :
    (samplePin pin s).transit.scanEnd = s.transit.scanEnd := by
  unfold samplePin
  (repeat' split) <;> simp

@[simp] theorem enterLook_scanEnd (l : LookNo) (cause : EntryCause) (s : State) :
    (enterLook l cause s).transit.scanEnd = s.transit.scanEnd := by
  simp [enterLook]

@[simp] theorem considerTransition_scanEnd (s : State) :
    (considerTransition s).transit.scanEnd = s.transit.scanEnd := by
  unfold considerTransition
  split <;> simp

@[simp] theorem lookFrameStart_scanEnd (s : State) : (lookFrameStart s).transit.scanEnd = s.transit.scanEnd := by
  unfold lookFrameStart lookFrame firstEntry
  dsimp only
  (repeat' split) <;> simp

@[simp] theorem conditionChangeNotice_scanEnd (s : State) :
    (conditionChangeNotice s).transit.scanEnd = s.transit.scanEnd := by
  unfold conditionChangeNotice
  dsimp only
  (repeat' split) <;> simp

@[simp] theorem runNoticeLook_scanEnd (s : State) : (runNoticeLook s).transit.scanEnd = s.transit.scanEnd := by
  unfold runNoticeLook firstEntry holdConditions samplePins
  dsimp only
  (repeat' split) <;> simp

@[simp] theorem lookHome_scanEnd (s : State) : (lookHome s).transit.scanEnd = s.transit.scanEnd := by
  unfold lookHome
  dsimp only
  (repeat' split) <;> simp

@[simp] theorem keepRequest_scanEnd (atHead : Bool) (r : FadeRequest) (n : Fin 64) (s : State) :
    (keepRequest atHead r n s).transit.scanEnd = s.transit.scanEnd := by
  unfold keepRequest
  split <;> simp

@[simp] theorem fadeStartRequest_scanEnd (origin : Origin) (s : State) :
    (fadeStartRequest origin s).transit.scanEnd = s.transit.scanEnd := by
  unfold fadeStartRequest takeFadeRequest
  (repeat' split) <;> simp

@[simp] theorem contentAnswer_scanEnd (s : State) : (contentAnswer s).transit.scanEnd = s.transit.scanEnd := by
  unfold contentAnswer
  (repeat' split) <;> simp

@[simp] theorem answerWithoutContent_scanEnd (s : State) :
    (answerWithoutContent s).transit.scanEnd = s.transit.scanEnd := by
  unfold answerWithoutContent
  (repeat' split) <;> simp

@[simp] theorem fadeFrameStart_scanEnd (s : State) : (fadeFrameStart s).transit.scanEnd = s.transit.scanEnd := by
  unfold fadeFrameStart
  dsimp only
  (repeat' split) <;> simp

@[simp] theorem scaleArrivalFade_scanEnd (s : State) :
    (scaleArrivalFade s).transit.scanEnd = s.transit.scanEnd := by
  unfold scaleArrivalFade
  dsimp only
  (repeat' split) <;> simp

@[simp] theorem protectionNotice_scanEnd (s : State) :
    (protectionNotice s).transit.scanEnd = s.transit.scanEnd := by
  unfold protectionNotice
  dsimp only
  (repeat' split) <;> simp

@[simp] theorem requestStartPreset_scanEnd (label : FrameNo) (s : State) :
    (requestStartPreset label s).transit.scanEnd = s.transit.scanEnd := by
  unfold requestStartPreset
  split <;> simp

@[simp] theorem runNoticeFade_scanEnd (s : State) : (runNoticeFade s).transit.scanEnd = s.transit.scanEnd := by
  unfold runNoticeFade
  dsimp only
  (repeat' split) <;> simp [setPinnedLevels, enableLinks]

@[simp] theorem setProtection_scanEnd (p : Protection) (s : State) :
    (setProtection p s).transit.scanEnd = s.transit.scanEnd := rfl

@[simp] theorem onAirAssertion_scanEnd (s : State) : (onAirAssertion s).transit.scanEnd = s.transit.scanEnd := by
  unfold onAirAssertion qualifyPin
  split <;> simp

@[simp] theorem onAirDeassertion_scanEnd (s : State) :
    (onAirDeassertion s).transit.scanEnd = s.transit.scanEnd := by
  unfold onAirDeassertion qualifyPin
  split <;> simp

@[simp] theorem takeProtect_scanEnd (m : Message) (s : State) :
    (takeProtect m s).transit.scanEnd = s.transit.scanEnd := by
  unfold takeProtect
  (repeat' split) <;> simp

@[simp] theorem mapCompletionNotice_scanEnd (s : State) :
    (mapCompletionNotice s).transit.scanEnd = s.transit.scanEnd := by
  unfold mapCompletionNotice
  split <;> simp

@[simp] theorem startScanMap_scanEnd (s : State) : (startScanMap s).transit.scanEnd = s.transit.scanEnd := by
  unfold startScanMap
  split <;> simp

@[simp] theorem wallFrameStart_scanEnd (s : State) : (wallFrameStart s).transit.scanEnd = s.transit.scanEnd := by
  unfold wallFrameStart
  dsimp only
  (repeat' split) <;> simp

@[simp] theorem scaleArrivalWall_scanEnd (s : State) :
    (scaleArrivalWall s).transit.scanEnd = s.transit.scanEnd := by
  unfold scaleArrivalWall
  dsimp only
  (repeat' split) <;> simp

@[simp] theorem runNoticeWall_scanEnd (s : State) : (runNoticeWall s).transit.scanEnd = s.transit.scanEnd := by
  unfold runNoticeWall
  dsimp only
  (repeat' split) <;> simp

@[simp] theorem nextWallAction_scanEnd (kind : CueAction → Bool) (s : State) :
    (nextWallAction kind s).transit.scanEnd = s.transit.scanEnd := by
  unfold nextWallAction
  (repeat' split) <;> simp

@[simp] theorem wallProfile_scanEnd (origin : Origin) (s : State) :
    (wallProfile origin s).transit.scanEnd = s.transit.scanEnd := by
  unfold wallProfile lookProfile
  dsimp only
  (repeat' split) <;> simp

@[simp] theorem budgetFrameStart_scanEnd (s : State) :
    (budgetFrameStart s).transit.scanEnd = s.transit.scanEnd := by
  unfold budgetFrameStart budgetFrame settleScale
  dsimp only
  (repeat' split) <;> simp

@[simp] theorem joinNotice_scanEnd (s : State) : (joinNotice s).transit.scanEnd = s.transit.scanEnd := by
  unfold joinNotice
  dsimp only
  (repeat' split) <;> simp

@[simp] theorem takeRestart_scanEnd (m : Message) (s : State) :
    (takeRestart m s).transit.scanEnd = s.transit.scanEnd := by
  unfold takeRestart
  split <;> simp

end Sys2Proof.Machine
end

section
/-! Operations that join the queue (R103, R105), the start scan (R117), restart, SAFE and the way to RUNNING (R180 to
R185): each keeps the marks, the journal and the scan in agreement. -/

namespace Sys2Proof.Machine

/-- The directory, the buffers, the journal, the operation in progress and the start scan in agreement. -/
def ArraySettled (s : State) : Prop := CommitsConsistent s ∧ ScanBeforeOperations s

theorem ArrayKept.settled {s t : State} (h : ArrayKept s t) (hs : ArraySettled s) : ArraySettled t :=
  ⟨h.commits hs.1, h.scan.before hs.2⟩

/-! ### Messages -/

theorem receive_arrayKept {owner : State → State} (h : ∀ x, ArrayKept x (owner x)) (code : BitVec 4) (m : Message)
    (s : State) : ArrayKept s (receive code m owner s) := by
  obtain heq | heq | ⟨c, heq⟩ | heq := receive_cases code m owner s
  all_goals rw [heq]
  · exact .refl s
  · exact .of_eq rfl rfl rfl rfl
  · exact .of_eq rfl rfl rfl rfl
  · exact .trans (t := lineToGap s) (.of_eq rfl rfl rfl rfl) (h (lineToGap s))

/-- What an operation that joins the queue keeps. -/
structure JoinKept (s t : State) : Prop where
  commits : CommitsConsistent s → CommitsConsistent t
  state : t.station.state = s.station.state
  scanning : t.store.scanning = s.store.scanning

theorem ArrayKept.join {s t : State} (h : ArrayKept s t) : JoinKept s t := ⟨h.commits, h.scan.state, h.scan.scanning⟩

theorem JoinKept.trans {s t u : State} (h : JoinKept s t) (h' : JoinKept t u) : JoinKept s u :=
  ⟨h'.commits ∘ h.commits, h'.state.trans h.state, h'.scanning.trans h.scanning⟩

/-- Operations joined at the tail leave the marks and the journal. -/
theorem JoinKept.of_same {s t : State} (hmarks : SameMarks s.store t.store)
    (hrunning : t.store.running = s.store.running) (hscanning : t.store.scanning = s.store.scanning)
    (hjournal : t.flash.journal = s.flash.journal) (hstate : t.station.state = s.station.state) : JoinKept s t :=
  ⟨fun h => h.of_same hmarks hrunning hjournal, hstate, hscanning⟩

theorem JoinKept.of_eq {s t : State} (hstore : t.store = s.store) (hjournal : t.flash.journal = s.flash.journal)
    (hstate : t.station.state = s.station.state) : JoinKept s t :=
  .of_same (hstore ▸ .refl _) (by rw [hstore]) (by rw [hstore]) hjournal hstate

theorem JoinKept.arbitrated {s u : State} (h : JoinKept s u) : JoinKept s (arbitrate u) :=
  h.trans (arbitrate_arrayKept u).join

theorem takeCommit_joinKept (m : Message) (s : State) : JoinKept s (takeCommit m s) := by
  have hcounted (c : Counter) : JoinKept s (count c s) := .of_eq rfl rfl rfl
  unfold takeCommit
  dsimp only
  split
  next x n _ _ =>
    split
    next hopen =>
      split
      · exact hcounted _
      · have hmarks : SameMarks s.store (setBuffer x { bufferOf x s.store with
            state := .queued, target := some n, writePoint := .first } s.store) := .setBuffer (by simp [hopen])
        refine .arbitrated (.of_same (hmarks.trans (.of_eq rfl rfl rfl)) ?_ ?_ rfl rfl)
        all_goals simp
    all_goals exact hcounted _
  next => exact hcounted _

theorem handOverMap_joinKept (op : ArrayOp) (s : State) : JoinKept s (handOverMap op s) := by
  unfold handOverMap
  split
  · exact .arbitrated (.of_same (.of_eq rfl rfl rfl) rfl rfl rfl rfl)
  · exact .of_eq rfl rfl rfl

theorem handOver_joinKept (op : ArrayOp) (s : State) : JoinKept s (handOver op s) := by
  unfold handOver
  dsimp only
  split
  · exact (handOverMap_joinKept op s).trans (.of_eq rfl rfl rfl)
  · exact handOverMap_joinKept op s

theorem mapCompletionNotice_arrayKept (s : State) : ArrayKept s (mapCompletionNotice s) :=
  .of_eq (by simp) (by simp) (by simp) (by simp)

theorem requestMap_joinKept (op : ArrayOp) (s : State) : JoinKept s (requestMap op s) := by
  unfold requestMap
  split
  · exact (mapCompletionNotice_arrayKept s).join.trans (handOver_joinKept op _)
  · exact handOver_joinKept op s

theorem takeMap_joinKept (m : Message) (s : State) : JoinKept s (takeMap m s) := by
  have hcounted (c : Counter) : JoinKept s (count c s) := .of_eq rfl rfl rfl
  unfold takeMap
  split
  · split
    · exact hcounted _
    · exact requestMap_joinKept _ s
  · split
    · exact hcounted _
    · exact requestMap_joinKept _ s
  · exact hcounted _

theorem ScanBeforeOperations.no_scan {s : State} (h : ScanBeforeOperations s) (hscanning : s.station.state ≠ .scanning)
    (hsafe : s.station.state ≠ .safe) : s.store.scanning = false := by
  cases hscan : s.store.scanning with
  | false => rfl
  | true =>
    obtain ⟨-, -, -, hstate⟩ := h.2 hscan
    exact absurd hstate (by simp [hscanning, hsafe])

/-- A state past SETUP and LOADING with no start scan in progress. -/
theorem scanBeforeOperations_of_no_scan {s : State} (hloading : s.station.state ≠ .loading)
    (hsetup : s.station.state ≠ .setup) (hscan : s.store.scanning = false) : ScanBeforeOperations s :=
  ⟨fun hstate => absurd hstate (by simp [hloading, hsetup]), fun hon => absurd hon (by simp [hscan])⟩

/-- COMMIT and MAP are routed in JOINING and RUNNING alone, after the start scan (R24). -/
theorem receive_settled_of_join {k : Kind} (hk : k = .commit ∨ k = .map) {owner : State → State}
    (h : ∀ x, JoinKept x (owner x)) (m : Message) {s : State} (hs : ArraySettled s) :
    ArraySettled (receive (kindCode k) m owner s) := by
  have hgap : ArrayKept s (lineToGap s) := .of_eq rfl rfl rfl rfl
  unfold receive
  split
  · exact hs
  · exact hgap.settled hs
  · exact (ArrayKept.of_eq (t := count _ (lineToGap s)) rfl rfl rfl rfl).settled hs
  next k' hfilter =>
    obtain ⟨hcode, hrouted⟩ := routed_of_filterMessage hfilter
    have hstate : s.station.state = .joining ∨ s.station.state = .running := by
      have hk' : k' = k := by
        have hsome := congrArg kindOfCode hcode
        rw [kindOfCode_kindCode, kindOfCode_kindCode] at hsome
        exact (Option.some.inj hsome).symm
      have hpast := hrouted.state
      obtain rfl | rfl := hk <;> simpa [hk', isRouted] using hpast
    have howner := h (lineToGap s)
    refine ⟨howner.commits (hgap.commits hs.1), scanBeforeOperations_of_no_scan ?_ ?_ ?_⟩
    · rw [howner.state]
      obtain hstate | hstate := hstate <;> simp [hstate]
    · rw [howner.state]
      obtain hstate | hstate := hstate <;> simp [hstate]
    · rw [howner.scanning]
      refine hs.2.no_scan ?_ ?_ <;> obtain hstate | hstate := hstate <;> simp [hstate]

/-! ### The start scan (R98, R117, R120) -/

/-- No page is judged COMMITTING. -/
theorem pageState_ne_committing {α : Type} (p : Page α) : pageState p ≠ .committing := by
  unfold pageState
  (repeat' split) <;> simp

theorem judgePreset_state (p : Page Content) : (judgePreset p).state = pageState p := by
  unfold judgePreset
  split
  next h _ => exact h.symm
  · rfl

theorem judged_getElem (f : FlashArray) (n : Fin 64) : (f.presets.map judgePreset)[n] = judgePreset f.presets[n] := by
  simp

/-- The end of the start scan: the judged directory and map entry, and outside SAFE two deliveries (R117, R120). -/
theorem startScanEnd_of_scanning {s : State} (h : s.store.scanning = true) :
    startScanEnd s = { s with
      store := { s.store with
        directory := s.flash.presets.map judgePreset
        mapEntry := pageState s.flash.mapPage
        scanning := false }
      transit := if s.station.state = .safe then s.transit
        else { s.transit with
          scanMap := some (carriedMap (pageState s.flash.mapPage) s.flash.mapPage)
          scanEnd := true } } := by
  simp only [startScanEnd, h, Bool.true_eq_false, if_false]
  split <;> rfl

theorem startScanEnd_settled {s : State} (hs : ArraySettled s) : ArraySettled (startScanEnd s) := by
  cases hscan : s.store.scanning with
  | false => simpa [startScanEnd, hscan] using hs
  | true =>
    obtain ⟨hidle, -, -, hstate⟩ := hs.2.2 hscan
    have hnone := (commitsConsistent_iff_of_idle hidle).1 hs.1
    rw [startScanEnd_of_scanning hscan]
    refine ⟨.of_idle hidle ⟨fun n => ?_, hnone.buffer⟩, ?_⟩
    · simp only [judged_getElem, judgePreset_state]
      exact pageState_ne_committing _
    · refine scanBeforeOperations_of_no_scan ?_ ?_ rfl
      all_goals obtain hstate | hstate := hstate <;> simp [hstate]

/-- The start scan begins in LOADING, with no operation queued or in progress (R117, R181). -/
theorem startStation_settled (image : Image) (now : Nanos) {s : State} (hs : ArraySettled s)
    (hloading : s.station.state = .loading) : ArraySettled (startStation image now s) := by
  obtain ⟨hidle, hops, -, hend⟩ := hs.2.1 (.inl hloading)
  have hnone := (commitsConsistent_iff_of_idle hidle).1 hs.1
  exact ⟨.of_idle hidle (hnone.of_eq rfl rfl rfl), nofun,
    fun _ => ⟨hidle, hops, hend, .inl rfl⟩⟩

/-! ### SAFE entry (R120, R185) -/

theorem bufferAtSafe_committing_iff (y : StagingBuffer) :
    (bufferAtSafe y).state = .committing ↔ y.state = .committing := by
  rw [bufferAtSafe_eq]
  split
  next h => simp [h]
  · rfl

theorem storeAtSafe_marks (p : PresetStore) : SameMarks p (storeAtSafe p) where
  directory := rfl
  buffer x := by rw [bufferOf_storeAtSafe, bufferAtSafe_committing_iff]

theorem enterSafe_settled (cause : SafeCause) (failed : Option Nat) {s : State} (hs : ArraySettled s) :
    ArraySettled (enterSafe cause failed s) := by
  obtain ⟨hcommits, -, hscan⟩ := hs
  refine ⟨?_, nofun, fun hon => ?_⟩
  · cases hc : runningCommit s with
    | some c =>
      have hrun := running_of_runningCommit hc
      refine hcommits.of_run hrun (storeAtSafe_running_of_commit hrun) rfl rfl (storeAtSafe_marks s.store) rfl
        fun hwithin => ⟨hwithin.count, fun hsuspended => ?_, fun hasked => ?_⟩
      · exact hwithin.suspended ((Bool.and_eq_true _ _).mp hsuspended).1
      · obtain ⟨hphase, hon, hcount⟩ := hwithin.asked hasked
        exact ⟨hphase, by simp [hon], hcount⟩
    | none => exact hcommits.of_same (storeAtSafe_marks s.store) (storeAtSafe_running_of_no_commit hc) rfl
  · obtain ⟨hidle, -, hend, -⟩ := hscan hon
    exact ⟨by simp [enterSafe, storeAtSafe, hidle], rfl, hend, .inr rfl⟩

theorem strapChange_settled (strap : Fin 5) {s : State} (hs : ArraySettled s) : ArraySettled (strapChange strap s) := by
  obtain heq | heq := strapChange_cases strap s
  · rw [heq]
    exact enterSafe_settled _ _ hs
  · rwa [heq]

theorem loadingEnd_settled (now : Nanos) {s : State} (hs : ArraySettled s) : ArraySettled (loadingEnd now s) := by
  have hfailed (cause : SafeCause) (failed : Option Nat) : ArraySettled (failImage cause failed s) :=
    enterSafe_settled cause failed (ArrayKept.settled (.of_eq rfl rfl rfl rfl) hs)
  unfold loadingEnd
  split
  next hloading =>
    split
    · exact hfailed _ _
    · split
      · exact hfailed _ _
      · exact startStation_settled _ _ hs hloading.2
  next => exact hs

/-! ### Restart (R180) -/

/-- A preset store at its restart values, with nothing on its way (R100, R101, R105). -/
theorem settled_of_restarted {s : State} (hstore : s.store = storeAtRestart) (hend : s.transit.scanEnd = false) :
    ArraySettled s := by
  have hidle : s.store.running = none := by rw [hstore]; rfl
  have hnone := (commitsConsistent_iff_of_idle (s := State.reset) rfl).1 reset_commitsConsistent
  refine ⟨.of_idle hidle (hstore ▸ hnone), fun _ => ?_, fun hscan => ?_⟩
  · rw [hstore]
    exact ⟨rfl, rfl, rfl, hend⟩
  · rw [hstore] at hscan
    cases hscan

theorem resetPinAssertion_settled {s : State} (hs : ArraySettled s) : ArraySettled (resetPinAssertion s) := by
  unfold resetPinAssertion
  dsimp only
  split
  · exact settled_of_restarted rfl rfl
  · exact hs

theorem resetPinDeassertion_settled (straps : Straps) {s : State} (hs : ArraySettled s) :
    ArraySettled (resetPinDeassertion straps s) := by
  unfold resetPinDeassertion
  dsimp only
  split
  · split
    · exact settled_of_restarted rfl rfl
    · exact hs
  · exact hs

theorem arrayQuiet_settled (straps : Straps) {s : State} (hs : ArraySettled s) :
    ArraySettled (arrayQuiet straps s) := by
  unfold arrayQuiet
  split
  · split
    · unfold restartByMessage
      dsimp only
      split <;> exact settled_of_restarted rfl rfl
    · exact hs
  · exact hs

/-! ### The way to RUNNING (R183, R184) -/

theorem scanEndNotice_settled {s : State} (hs : ArraySettled s) : ArraySettled (scanEndNotice s) := by
  unfold scanEndNotice
  split
  next hend =>
    have hscan : s.store.scanning = false := by
      cases hon : s.store.scanning with
      | false => rfl
      | true =>
        obtain ⟨-, -, hoff, -⟩ := hs.2.2 hon
        exact absurd (hend.symm.trans hoff) (by simp)
    dsimp only
    split
    · exact ⟨hs.1, scanBeforeOperations_of_no_scan nofun nofun hscan⟩
    · refine ⟨hs.1, fun hstate => ?_, fun hon => absurd (hscan.symm.trans hon) (by simp)⟩
      obtain ⟨hidle, hops, hoff, -⟩ := hs.2.1 hstate
      exact ⟨hidle, hops, hoff, rfl⟩
  next => exact hs

/-- A frame start leaves the controller's state, or moves it on from SEEKING or JOINING (R183, R184). -/
theorem controllerCounts_moves (e : FrameEvent) (s : State) :
    (controllerCounts e s).station.state = s.station.state ∨
      (s.station.state ≠ .scanning ∧ s.station.state ≠ .safe) ∧
        ((controllerCounts e s).station.state = .joining ∨ (controllerCounts e s).station.state = .running) := by
  unfold controllerCounts
  split
  next hseeking =>
    dsimp only
    split
    · exact .inr ⟨by simp [hseeking], .inl rfl⟩
    · split
      · exact .inr ⟨by simp [hseeking], .inl rfl⟩
      · exact .inl rfl
  next hjoining =>
    dsimp only
    split
    · exact .inr ⟨by simp [hjoining], .inr rfl⟩
    · exact .inl rfl
  all_goals exact .inl rfl

theorem controllerCounts_scanEnd (e : FrameEvent) (s : State) :
    (controllerCounts e s).transit.scanEnd = s.transit.scanEnd := by
  unfold controllerCounts
  dsimp only
  (repeat' split) <;> rfl

theorem controllerCounts_settled (e : FrameEvent) {s : State} (hs : ArraySettled s) :
    ArraySettled (controllerCounts e s) := by
  obtain hsame | ⟨⟨hscanning, hsafe⟩, hmoved⟩ := controllerCounts_moves e s
  · exact ArrayKept.settled (.of_eq (by simp) (by simp) hsame (controllerCounts_scanEnd e s)) hs
  · refine ⟨hs.1.of_same (by simpa using SameMarks.refl s.store) (by simp) (by simp), ?_⟩
    refine scanBeforeOperations_of_no_scan ?_ ?_ (by simpa using hs.2.no_scan hscanning hsafe)
    all_goals obtain hmoved | hmoved := hmoved <;> simp [hmoved]

theorem controllerFrameStart_settled {s : State} (hs : ArraySettled s) : ArraySettled (controllerFrameStart s) := by
  unfold controllerFrameStart
  split
  · exact hs
  next e es _ =>
    have htaken : ArraySettled (setControllerFrame e { s with transit := { s.transit with ctrlFrames := es } }) :=
      ArrayKept.settled (.of_eq rfl rfl rfl rfl) hs
    exact controllerCounts_settled e htaken

/-! ### Commands -/

/-- Every command keeps the marks, the journal and the scan in agreement: those of the preset store, the MAP messages
and the start-up controller one by one, and the rest by their frames. -/
theorem exec_keeps_arraySettled {c : Instr} {s t : State} (hs : ArraySettled s) (h : exec c s = .next t) :
    ArraySettled t := by
  cases c
  case powerOn | powerLoss => cases h; exact settled_of_restarted rfl rfl
  case resetPinAssertion => cases h; exact resetPinAssertion_settled hs
  case resetPinDeassertion straps => cases h; exact resetPinDeassertion_settled straps hs
  case arrayQuiet straps => cases h; exact arrayQuiet_settled straps hs
  case loadingEnd now => cases h; exact loadingEnd_settled now hs
  case strapChange strap => cases h; exact strapChange_settled strap hs
  case scanEndNotice => cases h; exact scanEndNotice_settled hs
  case controllerFrameStart => cases h; exact controllerFrameStart_settled hs
  case seekFramesEnd | joinFramesEnd =>
    cases h
    split
    · exact controllerFrameStart_settled hs
    · exact hs
  case startScanEnd => cases h; exact startScanEnd_settled hs
  case commit m => cases h; exact receive_settled_of_join (.inl rfl) (takeCommit_joinKept m) m hs
  case mapErase m | mapProgram m | mapCodeError m =>
    cases h
    split
    · exact receive_settled_of_join (.inr rfl) (takeMap_joinKept m) m hs
    · exact hs
  all_goals refine ArrayKept.settled ?_ hs
  case preset m => cases h; exact receive_arrayKept (takePreset_arrayKept m) _ _ _
  case presetReadRequest => cases h; exact presetReadRequest_arrayKept s
  case arrayReadEnd => cases h; exact arrayReadEnd_arrayKept s
  case suspensionReached => cases h; exact suspensionReached_arrayKept s
  case eraseEnd => cases h; exact eraseEnd_arrayKept s
  case programEnd => cases h; exact programEnd_arrayKept s
  case verifyEnd success => cases h; exact verifyEnd_arrayKept success s
  case mapEraseEnd => cases h; exact mapEraseEnd_arrayKept s
  case mapProgramEnd => cases h; exact mapProgramEnd_arrayKept s
  case restartRequest => cases h; exact restartRequest_arrayKept s
  case restart m =>
    cases h
    exact receive_arrayKept (fun x => .of_eq (by simp) (by simp) (takeRestart_state m x) (by simp)) _ _ _
  case stnEdge strap level now =>
    cases h
    exact .of_eq (by simp) (by simp) (stnEdge_state strap level now s) (by simp)
  case time | reportReceived | cond | demand =>
    cases h
    exact receive_arrayKept (fun x => .of_eq (by simp) (by simp) (by simp) (by simp)) _ _ _
  case checkValueMismatch | unknownKind | take =>
    cases h
    split
    · exact .refl s
    · exact receive_arrayKept (fun x => .of_eq (by simp) (by simp) (by simp) (by simp)) _ _ _
  case cancel | protectOn | protectOff | protectCodeError =>
    cases h
    exact .ite (receive_arrayKept (fun x => .of_eq (by simp) (by simp) (by simp) (by simp)) _ _ _)
  all_goals
    cases h
    refine .of_eq ?_ ?_ ?_ ?_
    · simp [apply_ite State.store]
    · simp [apply_ite State.flash]
    · simp [apply_ite State.station]
    · simp [apply_ite State.transit, apply_ite Transit.scanEnd]

/-- Settles O7: what each command keeps of the marks, the journal and the scan. -/
theorem stepKeepsCommitsConsistent : Obligations.StepKeepsCommitsConsistent := fun s _ hcommits hscan h =>
  step_induction (R := ArraySettled) h ⟨hcommits, hscan⟩ fun _ rest hexec =>
    exec_keeps_arraySettled (s := { s with pending := rest }) ⟨hcommits, hscan⟩ hexec

end Sys2Proof.Machine
end

section
/-! PRESET: the payload's fields (R194) and the part that an OPEN buffer takes (R102). -/

namespace Sys2Proof.Machine

/-! ### The payload of a PRESET (R194) -/

theorem levelsFrom_length (n : Nat) (bs : List Byte) : (levelsFrom n bs).length = n := by
  induction n generalizing bs with
  | zero => rfl
  | succ n ih => rw [levelsFrom, List.length_cons, ih]

/-- Level `i` is the two bytes at offset `2i`. -/
theorem levelsFrom_getElem? {n i : Nat} {bs : List Byte} {l : Level} (h : (levelsFrom n bs)[i]? = some l) :
    l = BitVec.ofNat 16 (fieldAt bs (2 * i) 2) := by
  induction n generalizing bs i with
  | zero => simp [levelsFrom] at h
  | succ n ih =>
    cases i with
    | zero => simpa [levelsFrom, eq_comm] using h
    | succ i =>
      rw [levelsFrom, List.getElem?_cons_succ] at h
      rw [ih h, fieldAt, fieldAt, List.drop_drop, Nat.mul_succ, Nat.add_comm]

theorem getLsbD_one_iff (y : Byte) : y.getLsbD 1 = true ↔ y.toNat / 2 % 2 = 1 := by
  rw [BitVec.getLsbD, Nat.testBit_succ, Nat.testBit_zero, decide_eq_true_iff]

theorem presetFields_holdsFields (m : Message) :
    HoldsFields m.body [(4, 1, (presetFields m).buffer.toNat), (5, 1, (presetFields m).firstChannel.toNat),
      (7, 3, (presetFields m).mask.toNat)] := by
  have haddressed : isAddressed .preset = true := rfl
  intro f hf
  simp only [List.mem_cons, List.not_mem_nil, or_false] at hf
  obtain rfl | rfl | rfl := hf
  · exact (toNat_byteAt_payload haddressed m 0).symm
  · exact (toNat_byteAt_payload haddressed m 1).symm
  · exact (toNat_fieldAt_payload haddressed m 3 (by norm_num)).symm

theorem presetFields_continuation_iff (m : Message) :
    (presetFields m).continuation = true ↔ ofBytes ((m.body.drop 6).take 1) % 2 = 1 := by
  have hflags := toNat_byteAt_payload (k := .preset) rfl m 2
  rw [← hflags]
  exact getLsbD_zero_iff _

theorem presetFields_airSafe_iff (m : Message) :
    (presetFields m).airSafe = true ↔ ofBytes ((m.body.drop 6).take 1) / 2 % 2 = 1 := by
  have hflags := toNat_byteAt_payload (k := .preset) rfl m 2
  rw [← hflags]
  exact getLsbD_one_iff _

theorem presetFields_levels_length (m : Message) : (presetFields m).levels.length = (m.body.length - 10) / 2 :=
  levelsFrom_length _ _

/-- Level `i` stands at payload offset `6 + 2i`. -/
theorem presetFields_level {m : Message} {i : Nat} {l : Level} (h : (presetFields m).levels[i]? = some l) :
    HoldsFields m.body [(10 + 2 * i, 2, l.toNat)] := by
  have hfield : fieldAt ((payload .preset m).drop 6) (2 * i) 2 = fieldAt (payload .preset m) (6 + 2 * i) 2 := by
    rw [fieldAt, fieldAt, List.drop_drop]
  have hoffset : 10 + 2 * i = 4 + (6 + 2 * i) := by omega
  intro f hf
  obtain rfl := List.mem_singleton.1 hf
  dsimp only
  rw [levelsFrom_getElem? h, hfield, toNat_fieldAt_payload rfl m _ (by norm_num), hoffset]

/-! ### The part written (R102) -/

/-- Channels counted from one channel number repeat after 128. -/
theorem channelMod_ne {ch j : Nat} (hpos : 0 < j) (hj : j < 128) : channelMod (ch + j) ≠ channelMod ch := by
  intro h
  have hval : (ch + j) % 128 = ch % 128 := congrArg Fin.val h
  omega

/-- What one level and its mask entry write. -/
theorem writeLevels_cons (mask : BitVec 24) (ch i : Nat) (l : Level) (ls : List Level) (c : Content) :
    ∃ c' : Content, writeLevels mask ch i (l :: ls) c = writeLevels mask (ch + 1) (i + 1) ls c' ∧
      c'.airSafe = c.airSafe ∧
      (∀ k : Channel, c'.levels[k] = if k = channelMod ch then l else c.levels[k]) ∧
      ∀ k : Channel, c'.mask.getLsbD k.val = if k = channelMod ch then mask.getLsbD i else c.mask.getLsbD k.val :=
  ⟨_, rfl, rfl, fun k => setAt_getElem _ _ k _, fun k => getLsbD_pinWritten _ _ k _⟩

theorem writeLevels_airSafe (mask : BitVec 24) (ch i : Nat) (ls : List Level) (c : Content) :
    (writeLevels mask ch i ls c).airSafe = c.airSafe := by
  induction ls generalizing ch i c with
  | nil => rfl
  | cons l ls ih =>
    obtain ⟨c', heq, hair, -, -⟩ := writeLevels_cons mask ch i l ls c
    rw [heq, ih, hair]

/-- A channel that no level names keeps its level and its mask entry. -/
theorem writeLevels_other {mask : BitVec 24} {ch i : Nat} {ls : List Level} {c : Content} {k : Channel}
    (h : ∀ j < ls.length, channelMod (ch + j) ≠ k) :
    (writeLevels mask ch i ls c).levels[k] = c.levels[k] ∧
      (writeLevels mask ch i ls c).mask.getLsbD k.val = c.mask.getLsbD k.val := by
  induction ls generalizing ch i c with
  | nil => exact ⟨rfl, rfl⟩
  | cons l ls ih =>
    obtain ⟨c', heq, -, hlevels, hmask⟩ := writeLevels_cons mask ch i l ls c
    have hk : k ≠ channelMod ch := fun hk => h 0 (by simp) hk.symm
    have hrest : ∀ j < ls.length, channelMod (ch + 1 + j) ≠ k := fun j hj => by
      rw [Nat.add_assoc, Nat.add_comm 1]
      exact h (j + 1) (by simpa using hj)
    obtain ⟨hsame, hsameMask⟩ := ih (i := i + 1) (c := c') hrest
    rw [heq, hsame, hsameMask, hlevels, hmask, if_neg hk, if_neg hk]
    exact ⟨rfl, rfl⟩

/-- The channel that level `j` names takes it, and the mask entry of its number. -/
theorem writeLevels_named {mask : BitVec 24} {ch i j : Nat} {ls : List Level} {c : Content} {l : Level} {k : Channel}
    (hlen : ls.length ≤ 128) (hl : ls[j]? = some l) (hk : k = channelMod (ch + j)) :
    (writeLevels mask ch i ls c).levels[k] = l ∧
      (writeLevels mask ch i ls c).mask.getLsbD k.val = mask.getLsbD (i + j) := by
  induction ls generalizing ch i j c with
  | nil => simp at hl
  | cons x ls ih =>
    rw [List.length_cons] at hlen
    obtain ⟨c', heq, -, hlevels, hmask⟩ := writeLevels_cons mask ch i x ls c
    rw [heq]
    cases j with
    | zero =>
      obtain rfl : x = l := by simpa using hl
      rw [Nat.add_zero] at hk
      have hrest : ∀ j < ls.length, channelMod (ch + 1 + j) ≠ k := fun j hj => by
        rw [hk, Nat.add_assoc]
        exact channelMod_ne (by omega) (by omega)
      obtain ⟨hsame, hsameMask⟩ := writeLevels_other (mask := mask) (i := i + 1) (c := c') hrest
      rw [hsame, hsameMask, hlevels, hmask, if_pos hk, if_pos hk]
      exact ⟨rfl, rfl⟩
    | succ j =>
      have hnext := ih (ch := ch + 1) (i := i + 1) (c := c') (j := j) (by omega) (by simpa using hl)
        (by rw [hk, Nat.add_assoc, Nat.add_comm 1])
      rwa [Nat.add_assoc i, Nat.add_comm 1] at hnext

/-- A part is the levels and mask entries written over the buffer's content; the first part of a content brings the
air-safe mark. -/
theorem writePart_content (f : PresetFields) (y : StagingBuffer) :
    (writePart f y).content = { writeLevels f.mask f.firstChannel.toNat 0 f.levels y.content with
      airSafe := if y.writePoint = .first then f.airSafe else y.content.airSafe } := by
  obtain ⟨content, writePoint, state, target⟩ := y
  cases writePoint with
  | first => rfl
  | next => simp [writePart, ← writeLevels_airSafe f.mask f.firstChannel.toNat 0 f.levels content]

/-! ### PRESET at the preset store -/

theorem takePreset_of_badCode {m : Message} (s : State) (h : 2 ≤ (presetFields m).buffer.toNat) :
    takePreset m s = count .argErr s := by
  simp [takePreset, bufferOfCode_of_two_le h]

theorem takePreset_of_closed {m : Message} {s : State} {x : BufferName}
    (h : (presetFields m).buffer.toNat = if x = .a then 0 else 1) (hclosed : (bufferOf x s.store).state ≠ .opened) :
    takePreset m s = count .bufferBusy s := by
  simp only [takePreset, bufferOfCode_of_toNat h]
  split
  next hopen => exact absurd hopen hclosed
  all_goals rfl

theorem takePreset_of_open {m : Message} {s : State} {x : BufferName}
    (h : (presetFields m).buffer.toNat = if x = .a then 0 else 1) (hopen : (bufferOf x s.store).state = .opened) :
    takePreset m s = { s with store := setBuffer x (writePart (presetFields m) (bufferOf x s.store)) s.store } := by
  simp only [takePreset, bufferOfCode_of_toNat h, hopen]
  rfl

/-- Settles O33: the cases of the buffer code and the buffer's state, the part channel by channel, and the payload. -/
theorem presetWritesOpenBuffer : Obligations.PresetWritesOpenBuffer := by
  refine ⟨fun m s hrouted => ?_, fun f y hlen => ?_, fun m hmin hmax heven => ?_⟩
  · intro gap f
    have hexec : exec (.preset m) s = .next (takePreset m gap) :=
      congrArg Host.Outcome.next (receive_routed hrouted _)
    rw [hexec]
    exact ⟨fun hcode => congrArg Host.Outcome.next (takePreset_of_badCode gap hcode), fun x hcode =>
      ⟨fun hclosed => congrArg Host.Outcome.next (takePreset_of_closed (s := gap) hcode hclosed),
        fun hopen => congrArg Host.Outcome.next (takePreset_of_open (s := gap) hcode hopen)⟩⟩
  · dsimp only
    rw [writePart_content]
    refine ⟨fun i l hl => ?_, fun k hk => writeLevels_other hk, rfl, rfl, rfl, rfl⟩
    have hnamed := writeLevels_named (mask := f.mask) (ch := f.firstChannel.toNat) (i := 0) (c := y.content)
      (hlen.trans (by norm_num)) hl rfl
    rwa [Nat.zero_add] at hnamed
  · refine ⟨presetFields_holdsFields m, presetFields_continuation_iff m, presetFields_airSafe_iff m, ?_,
      fun i l => presetFields_level⟩
    rw [presetFields_levels_length]
    omega

end Sys2Proof.Machine
end

section
/-! Reads (R112 to R115) and the arbiter, case by case (R106, R119). -/

namespace Sys2Proof.Machine

/-! ### Head reads that need no array (R113) -/

theorem flatAnswer_of_flat {e : EntryState} (h : e = .empty ∨ e = .bad) :
    flatAnswer e = some (if e = .empty then .empty else .bad) := by
  obtain rfl | rfl := h <;> rfl

theorem flatAnswer_of_held {e : EntryState} (h : e ≠ .empty ∧ e ≠ .bad) : flatAnswer e = none := by
  cases e with
  | empty => exact absurd rfl h.1
  | bad => exact absurd rfl h.2
  | valid | committing => rfl

theorem not_flat_of_valid {e : EntryState} (h : e = .valid) : e ≠ .empty ∧ e ≠ .bad := by
  subst h
  decide

/-- The read queue splits into the head reads answered at once and the reads that stay. -/
theorem reads_split (dir : Vector DirEntry 64) (reads : List ReadRequest) :
    ∃ flat rest : List ReadRequest, reads = flat ++ rest ∧
      (∀ r ∈ flat, dir[r.preset].state = .empty ∨ dir[r.preset].state = .bad) ∧
      (∀ r ∈ rest.head?, dir[r.preset].state ≠ .empty ∧ dir[r.preset].state ≠ .bad) ∧
      dropFlat dir reads = rest ∧
      flatAnswers dir reads = flat.map fun r =>
        { tag := r.tag, kind := if dir[r.preset].state = .empty then .empty else .bad } := by
  induction reads with
  | nil => exact ⟨[], [], rfl, nofun, nofun, rfl, rfl⟩
  | cons r rs ih =>
    by_cases hflat : dir[r.preset].state = .empty ∨ dir[r.preset].state = .bad
    · obtain ⟨flat, rest, hsplit, hall, hhead, hdrop, hanswers⟩ := ih
      refine ⟨r :: flat, rest, by rw [hsplit, List.cons_append], List.forall_mem_cons.2 ⟨hflat, hall⟩, hhead, ?_, ?_⟩
      · simp only [dropFlat, flatAnswer_of_flat hflat, hdrop]
      · simp only [flatAnswers, flatAnswer_of_flat hflat, hanswers, List.map_cons]
    · have hheld := not_or.1 hflat
      refine ⟨[], r :: rs, rfl, nofun, fun x hx => ?_, ?_, ?_⟩
      · obtain rfl : r = x := by simpa using hx
        exact hheld
      · simp only [dropFlat, flatAnswer_of_held hheld]
      · simp only [flatAnswers, flatAnswer_of_held hheld, List.map_nil]

theorem answerHeads_headsAnswered (s : State) : HeadsAnswered s (answerHeads s) := by
  obtain ⟨flat, rest, hsplit, hall, hhead, hdrop, hanswers⟩ := reads_split s.store.directory s.store.reads
  exact ⟨flat, rest, hsplit, hall, hhead, by rw [answerHeads, hdrop, hanswers]⟩

/-- With a head read of a VALID or COMMITTING preset none is answered. -/
theorem answerHeads_of_held {s : State} {r : ReadRequest} {rs : List ReadRequest} (hreads : s.store.reads = r :: rs)
    (hheld : s.store.directory[r.preset].state ≠ .empty ∧ s.store.directory[r.preset].state ≠ .bad) :
    answerHeads s = s := by
  have hstore : { s.store with reads := r :: rs } = s.store := by rw [← hreads]
  simp only [answerHeads, hreads, dropFlat, flatAnswers, flatAnswer_of_held hheld, List.append_nil, hstore]

/-- One read that needs no array, and no other. -/
theorem answerHeads_of_one {s : State} {r : ReadRequest} (hreads : s.store.reads = [r])
    (hflat : s.store.directory[r.preset].state = .empty ∨ s.store.directory[r.preset].state = .bad) :
    answerHeads s = { s with
      store := { s.store with reads := [] }
      transit := { s.transit with answers := s.transit.answers ++
        [{ tag := r.tag, kind := if s.store.directory[r.preset].state = .empty then .empty else .bad }] } } := by
  simp only [answerHeads, hreads, dropFlat, flatAnswers, flatAnswer_of_flat hflat]

/-! ### What the arbiter decides (R106, R113 to R115, R119) -/

theorem arbitrate_of_serving {s : State} (h : s.store.serving ≠ none) : arbitrate s = s :=
  if_pos (Option.isSome_iff_ne_none.2 h)

theorem arbitrate_of_not_serving {s : State} (h : s.store.serving = none) :
    arbitrate s = arbitrateHead (answerHeads s) :=
  if_neg (by simp [h])

theorem serveHead_of_cons {u : State} {r : ReadRequest} {rs : List ReadRequest} (h : u.store.reads = r :: rs) :
    serveHead u = { u with store := { u.store with reads := rs, serving := some r } } := by
  simp only [serveHead, h]
  rfl

/-- A free array goes to the head read. -/
theorem arbitrateHead_serves {u : State} {r : ReadRequest} {rs : List ReadRequest} (hidle : u.store.running = none)
    (hreads : u.store.reads = r :: rs) :
    arbitrateHead u = { u with store := { u.store with reads := rs, serving := some r } } := by
  simp [arbitrateHead, hidle, hreads, serveHead_of_cons hreads]

/-- With a restart wait open, or in SAFE, a free array stays free. -/
theorem arbitrateHead_stays_free {u : State} (hidle : u.store.running = none) (hreads : u.store.reads = [])
    (hblocked : u.store.restartWait = true ∨ u.station.state = .safe) : arbitrateHead u = u := by
  simp [arbitrateHead, hidle, hreads, hblocked]

theorem arbitrateHead_starts {u : State} (hidle : u.store.running = none) (hreads : u.store.reads = [])
    (hwait : u.store.restartWait = false) (hsafe : u.station.state ≠ .safe) : arbitrateHead u = startOperation u := by
  simp [arbitrateHead, hidle, hreads, hwait, hsafe]

/-- With no read and no operation there is nothing to decide. -/
theorem arbitrateHead_of_empty {u : State} (hidle : u.store.running = none) (hreads : u.store.reads = [])
    (hops : u.store.ops = []) : arbitrateHead u = u := by
  by_cases hblocked : u.store.restartWait = true ∨ u.station.state = .safe
  · exact arbitrateHead_stays_free hidle hreads hblocked
  · obtain ⟨hwait, hsafe⟩ := not_or.1 hblocked
    rw [arbitrateHead_starts hidle hreads (by simpa using hwait) hsafe, startOperation_of_nil hops]

theorem arbitrateHead_resumes {u : State} {c : CommitRun} (hc : u.store.running = some (.commit c))
    (hsuspended : c.suspended = true) (hnext : u.store.reads = [] ∨ u.store.restartWait = true) :
    arbitrateHead u = { u with store := { u.store with running := some (.commit { c with suspended := false }) } } := by
  have hresume : u.store.reads.isEmpty = true ∨ u.store.restartWait = true := by simpa using hnext
  simp only [arbitrateHead, hc, hsuspended, if_true, if_pos hresume]
  rfl

theorem arbitrateHead_serves_suspended {u : State} {c : CommitRun} {r : ReadRequest} {rs : List ReadRequest}
    (hc : u.store.running = some (.commit c)) (hsuspended : c.suspended = true) (hreads : u.store.reads = r :: rs)
    (hwait : u.store.restartWait = false) :
    arbitrateHead u = { u with store := { u.store with reads := rs, serving := some r } } := by
  simp [arbitrateHead, hc, hsuspended, hreads, hwait, serveHead_of_cons hreads]

/-- A commit that may suspend is asked to for a read (R114). -/
theorem arbitrateHead_asks {u : State} {c : CommitRun} (hc : u.store.running = some (.commit c))
    (hon : c.suspended = false) (hreads : u.store.reads ≠ []) (hphase : c.phase ≠ .verify) (hcount : c.suspends < 8)
    (hwait : u.store.restartWait = false) :
    arbitrateHead u = { u with store := { u.store with running := some (.commit { c with asked := true }) } } := by
  simp [arbitrateHead, hc, hon, hreads, maySuspend, hphase, hcount, hwait, setRun, setStore]

theorem arbitrateHead_commit_goes_on {u : State} {c : CommitRun} (hc : u.store.running = some (.commit c))
    (hon : c.suspended = false)
    (hnot : u.store.reads = [] ∨ c.phase = .verify ∨ 8 ≤ c.suspends ∨ u.store.restartWait = true) :
    arbitrateHead u = u := by
  have hno : ¬ (u.store.reads.isEmpty = false ∧ maySuspend u.store.restartWait c = true) := by
    rintro ⟨hreads, hmay⟩
    simp only [maySuspend, Bool.and_eq_true, bne_iff_ne, decide_eq_true_eq, Bool.not_eq_true'] at hmay
    obtain ⟨⟨hphase, hcount⟩, hwait⟩ := hmay
    obtain h | h | h | h := hnot
    · simp [h] at hreads
    · exact hphase h
    · omega
    · simp [h] at hwait
  simp only [arbitrateHead, hc, hon, Bool.false_eq_true, if_false, if_neg hno]

theorem arbitrateHead_map_goes_on {u : State}
    (h : u.store.running = some .mapErase ∨ ∃ first mask, u.store.running = some (.mapProgram first mask)) :
    arbitrateHead u = u := by
  obtain h | ⟨first, mask, h⟩ := h <;> simp [arbitrateHead, h]

/-- With no read queued the arbiter of a free array or a suspended commit decides on the state as it is. -/
theorem arbitrate_of_no_reads {s : State} (hserving : s.store.serving = none) (hreads : s.store.reads = []) :
    arbitrate s = arbitrateHead s := by
  rw [arbitrate_of_not_serving hserving, answerHeads_of_no_reads hreads]

/-! ### Read requests (R112) -/

theorem forwardingBuffer_of_commit {s : State} {c : CommitRun} (h : runningCommit s = some c) :
    forwardingBuffer c.preset s.store = some c.buffer := by
  simp [forwardingBuffer, running_of_runningCommit h]

theorem forwardingBuffer_of_other {s : State} {n : Fin 64} (h : ∀ c ∈ runningCommit s, c.preset ≠ n) :
    forwardingBuffer n s.store = none := by
  unfold forwardingBuffer
  split
  next c hc => exact if_neg (h c (runningCommit_of_commit hc))
  all_goals rfl

/-- The state with the oldest read request off its way. -/
def readTaken (rs : List ReadRequest) (s : State) : State := { s with transit := { s.transit with reads := rs } }

theorem presetReadRequest_of_cons {s : State} {r : ReadRequest} {rs : List ReadRequest}
    (h : s.transit.reads = r :: rs) : presetReadRequest s = takeRead r (readTaken rs s) := by
  simp only [presetReadRequest, h]
  rfl

/-- A read of the preset being committed is answered from the buffer. -/
theorem takeRead_forwarded {s : State} {c : CommitRun} {r : ReadRequest} (h : runningCommit s = some c)
    (hpreset : c.preset = r.preset) :
    takeRead r s = answerRead r.tag (.content (bufferOf c.buffer s.store).content) s := by
  simp only [takeRead, ← hpreset, forwardingBuffer_of_commit h]

theorem takeRead_refused {s : State} {r : ReadRequest} (h : ∀ c ∈ runningCommit s, c.preset ≠ r.preset)
    (hfull : 8 ≤ s.store.reads.length) : takeRead r s = answerRead r.tag .refused (count .readOverrun s) := by
  simp only [takeRead, forwardingBuffer_of_other h, if_pos hfull]

theorem takeRead_joins {s : State} {r : ReadRequest} (h : ∀ c ∈ runningCommit s, c.preset ≠ r.preset)
    (hroom : s.store.reads.length < 8) :
    takeRead r s = arbitrate { s with store := { s.store with reads := s.store.reads ++ [r] } } := by
  simp only [takeRead, forwardingBuffer_of_other h, if_neg (Nat.not_le.2 hroom)]
  rfl

/-- The state with one read in the queue. -/
def readQueued (r : ReadRequest) (s : State) : State := { s with store := { s.store with reads := [r] } }

theorem takeRead_of_empty_queue {s : State} {r : ReadRequest} (h : ∀ c ∈ runningCommit s, c.preset ≠ r.preset)
    (hserving : s.store.serving = none) (hreads : s.store.reads = []) :
    takeRead r s = arbitrateHead (answerHeads (readQueued r s)) := by
  rw [takeRead_joins h (by simp [hreads]), hreads, List.nil_append]
  exact arbitrate_of_not_serving (s := readQueued r s) hserving

/-- An idle array: a read of an EMPTY or BAD preset is answered and nothing follows (R113). -/
theorem takeRead_idle_flat {s : State} {r : ReadRequest} {e : EntryState} (hidle : s.store.running = none)
    (hserving : s.store.serving = none) (hreads : s.store.reads = []) (hops : s.store.ops = [])
    (hentry : s.store.directory[r.preset].state = e) (hflat : e = .empty ∨ e = .bad) :
    takeRead r s = answerRead r.tag (if e = .empty then .empty else .bad) s := by
  subst hentry
  have hstore : { s.store with reads := [] } = s.store := by rw [← hreads]
  rw [takeRead_of_empty_queue (by simp [runningCommit_of_idle hidle]) hserving hreads,
    answerHeads_of_one (s := readQueued r s) rfl hflat]
  refine (arbitrateHead_of_empty (by exact hidle) (by rfl) (by exact hops)).trans ?_
  simp only [readQueued, hstore]
  rfl

/-- An idle array goes to a read of a VALID preset (R113). -/
theorem takeRead_idle_valid {s : State} {r : ReadRequest} (hidle : s.store.running = none)
    (hserving : s.store.serving = none) (hreads : s.store.reads = [])
    (hvalid : s.store.directory[r.preset].state = .valid) :
    takeRead r s = { s with store := { s.store with serving := some r } } := by
  have hstore : { s.store with reads := [], serving := some r } = { s.store with serving := some r } := by
    rw [← hreads]
  rw [takeRead_of_empty_queue (by simp [runningCommit_of_idle hidle]) hserving hreads,
    answerHeads_of_held (s := readQueued r s) rfl (not_flat_of_valid hvalid),
    arbitrateHead_serves (u := readQueued r s) hidle rfl]
  simp only [readQueued, hstore]

/-- Behind a commit in ERASE or PROGRAM a read of a VALID preset asks for a suspension, below the limit (R114). -/
theorem takeRead_asks {s : State} {r : ReadRequest} {c : CommitRun} (hc : s.store.running = some (.commit c))
    (hpreset : c.preset ≠ r.preset) (hphase : c.phase ≠ .verify) (hon : c.suspended = false)
    (hserving : s.store.serving = none) (hreads : s.store.reads = []) (hwait : s.store.restartWait = false)
    (hvalid : s.store.directory[r.preset].state = .valid) :
    takeRead r s = { s with store := { s.store with
      reads := [r], running := some (.commit { c with asked := c.asked || decide (c.suspends < 8) }) } } := by
  rw [takeRead_of_empty_queue (by simp [runningCommit_of_commit hc, hpreset]) hserving hreads,
    answerHeads_of_held (s := readQueued r s) rfl (not_flat_of_valid hvalid)]
  by_cases hcount : c.suspends < 8
  · rw [arbitrateHead_asks (u := readQueued r s) hc hon (by simp [readQueued]) hphase hcount hwait]
    simp [readQueued, hcount]
  · rw [arbitrateHead_commit_goes_on (u := readQueued r s) hc hon (.inr (.inr (.inl (Nat.not_lt.1 hcount))))]
    simp [readQueued, hcount, ← hc]

/-! ### A suspension reached (R114) and the end of an array read (R113, R115) -/

/-- The state with a commit suspended and the suspension counted (R114). -/
def commitSuspended (c : CommitRun) (s : State) : State :=
  count .suspend { s with store := { s.store with
    running := some (.commit { c with suspended := true, asked := false, suspends := c.suspends + 1 }) } }

theorem suspensionReached_of_asked {s : State} {c : CommitRun} (hc : s.store.running = some (.commit c))
    (hasked : c.asked = true) (hon : c.suspended = false) (hphase : c.phase ≠ .verify) :
    suspensionReached s =
      if (answerHeads (commitSuspended c s)).store.reads.isEmpty then arbitrate (answerHeads (commitSuspended c s))
      else serveHead (answerHeads (commitSuspended c s)) := by
  simp only [suspensionReached, hc, hasked, hon, hphase, ne_eq, not_false_eq_true, and_self, if_true]
  rfl

theorem suspensionReached_of_no_reads {s : State} {c : CommitRun} (hc : s.store.running = some (.commit c))
    (hasked : c.asked = true) (hon : c.suspended = false) (hphase : c.phase ≠ .verify)
    (hreads : (answerHeads (commitSuspended c s)).store.reads = []) :
    suspensionReached s = arbitrate (answerHeads (commitSuspended c s)) := by
  rw [suspensionReached_of_asked hc hasked hon hphase, if_pos (by simp [hreads])]

theorem suspensionReached_of_read {s : State} {c : CommitRun} {r : ReadRequest} {rs : List ReadRequest}
    (hc : s.store.running = some (.commit c)) (hasked : c.asked = true) (hon : c.suspended = false)
    (hphase : c.phase ≠ .verify) (hreads : (answerHeads (commitSuspended c s)).store.reads = r :: rs) :
    suspensionReached s = { answerHeads (commitSuspended c s) with
      store := { (answerHeads (commitSuspended c s)).store with reads := rs, serving := some r } } := by
  rw [suspensionReached_of_asked hc hasked hon hphase, if_neg (by simp [hreads]), serveHead_of_cons hreads]

/-- The state with the array's read answered with a content (R113). -/
def readAnswered (r : ReadRequest) (x : Content) (s : State) : State :=
  { s with
    store := { s.store with serving := none }
    transit := { s.transit with answers := s.transit.answers ++ [{ tag := r.tag, kind := .content x }] } }

theorem arrayReadEnd_of_programmed {s : State} {r : ReadRequest} {x : Content} (hserving : s.store.serving = some r)
    (hpage : s.flash.presets[r.preset].body = .programmed x) : arrayReadEnd s = arbitrate (readAnswered r x s) := by
  simp only [arrayReadEnd, hserving, readPage, hpage]
  rfl

/-- Settles O35: the read request by what stands in the array, the suspension and the read's end, and the arbiter's
cases. -/
theorem readsAreServed : Obligations.ReadsAreServed := by
  refine ⟨fun s r rs htransit => ?_, ⟨fun s c r rs hc hasked hon hphase hreads hvalid => ?_,
    fun s r c x hserving hpage hreads hc hsuspended => ?_⟩,
    ⟨fun s r x hserving hpage => congrArg Host.Outcome.next (arrayReadEnd_of_programmed hserving hpage),
      fun s r rs htransit hother hroom => ?_, fun s c hc hasked hon hphase => ?_⟩,
    fun s => ⟨arbitrate_of_serving, fun hserving => ?_⟩⟩
  · intro taken answered
    have hexec : exec .presetReadRequest s = .next (takeRead r taken) :=
      congrArg Host.Outcome.next (presetReadRequest_of_cons htransit)
    rw [hexec]
    refine ⟨fun c hc hpreset => congrArg Host.Outcome.next (takeRead_forwarded (s := taken) hc hpreset),
      fun hother hfull => congrArg Host.Outcome.next (takeRead_refused (s := taken) hother hfull),
      fun hidle hserving hreads hops =>
        ⟨fun hempty => congrArg Host.Outcome.next
          (takeRead_idle_flat (s := taken) hidle hserving hreads hops hempty (.inl rfl)),
        fun hbad => congrArg Host.Outcome.next
          (takeRead_idle_flat (s := taken) hidle hserving hreads hops hbad (.inr rfl)),
        fun hvalid => congrArg Host.Outcome.next (takeRead_idle_valid (s := taken) hidle hserving hreads hvalid)⟩,
      fun c hc hpreset hphase hon hserving hreads hwait hvalid =>
        congrArg Host.Outcome.next (takeRead_asks (s := taken) hc hpreset hphase hon hserving hreads hwait hvalid)⟩
  · have hheads : answerHeads (commitSuspended c s) = commitSuspended c s :=
      answerHeads_of_held (s := commitSuspended c s) hreads (not_flat_of_valid hvalid)
    refine congrArg Host.Outcome.next
      ((suspensionReached_of_read hc hasked hon hphase (r := r) (rs := rs) (by rw [hheads]; exact hreads)).trans ?_)
    rw [hheads]
    rfl
  · exact congrArg Host.Outcome.next ((arrayReadEnd_of_programmed hserving hpage).trans
      ((arbitrate_of_no_reads (s := readAnswered r x s) rfl hreads).trans
        (arbitrateHead_resumes (u := readAnswered r x s) hc hsuspended (.inl hreads))))
  · exact congrArg Host.Outcome.next ((presetReadRequest_of_cons htransit).trans
      (takeRead_joins (s := readTaken rs s) hother hroom))
  · exact ⟨_, answerHeads_headsAnswered (commitSuspended c s),
      fun hreads => congrArg Host.Outcome.next (suspensionReached_of_no_reads hc hasked hon hphase hreads),
      fun r rs hreads => congrArg Host.Outcome.next (suspensionReached_of_read hc hasked hon hphase hreads)⟩
  · rw [arbitrate_of_not_serving hserving]
    refine ⟨answerHeads s, answerHeads_headsAnswered s, fun hidle => ⟨fun r rs => arbitrateHead_serves hidle,
      fun hreads => ⟨?_, fun op ops hwait hsafe hops => ?_⟩⟩,
      fun c hc => ⟨fun hsuspended => ⟨arbitrateHead_resumes (u := answerHeads s) hc hsuspended,
        fun r rs => arbitrateHead_serves_suspended (u := answerHeads s) hc hsuspended⟩,
        fun hon => ⟨fun hreads hphase hcount hwait =>
          arbitrateHead_asks (u := answerHeads s) hc hon hreads hphase hcount hwait,
          arbitrateHead_commit_goes_on (u := answerHeads s) hc hon⟩⟩,
      arbitrateHead_map_goes_on (u := answerHeads s)⟩
    · rintro (hwait | hsafe | hops)
      · exact arbitrateHead_stays_free (u := answerHeads s) hidle hreads (.inl hwait)
      · exact arbitrateHead_stays_free (u := answerHeads s) hidle hreads (.inr hsafe)
      · exact arbitrateHead_of_empty (u := answerHeads s) hidle hreads hops
    · exact (arbitrateHead_starts (u := answerHeads s) hidle hreads hwait hsafe).trans
        (startOperation_of_cons (s := answerHeads s) hops)

end Sys2Proof.Machine
end

section
/-! COMMIT and MAP: operations that join the queue or are refused (R103, R105, R129), and start at once on a free array
(R106). -/

namespace Sys2Proof.Machine

/-! ### The arbiter once an operation has joined (R106) -/

/-- With no read queued an operation in progress goes on, unless it is a suspended commit. -/
theorem arbitrate_of_running {u : State} {r : Running} (hserving : u.store.serving = none) (hreads : u.store.reads = [])
    (hrunning : u.store.running = some r) (hon : ∀ c ∈ runningCommit u, c.suspended = false) : arbitrate u = u := by
  rw [arbitrate_of_no_reads hserving hreads]
  cases r with
  | commit c => exact arbitrateHead_commit_goes_on hrunning (hon c (runningCommit_of_commit hrunning)) (.inl hreads)
  | mapErase => exact arbitrateHead_map_goes_on (.inl hrunning)
  | mapProgram first mask => exact arbitrateHead_map_goes_on (.inr ⟨first, mask, hrunning⟩)

/-- With no read queued and no restart wait a free array starts the one operation in the queue. -/
theorem arbitrate_of_one_operation {u : State} {op : ArrayOp} (hserving : u.store.serving = none)
    (hreads : u.store.reads = []) (hidle : u.store.running = none) (hops : u.store.ops = [op])
    (hwait : u.store.restartWait = false) (hsafe : u.station.state ≠ .safe) :
    arbitrate u = operationStarted op [] u := by
  rw [arbitrate_of_no_reads hserving hreads, arbitrateHead_starts hidle hreads hwait hsafe,
    startOperation_of_cons hops]

/-- COMMIT and MAP are not routed in SAFE (R24). -/
theorem Routed.not_safe {k : Kind} {m : Message} {s : State} (h : Routed k m s) (hk : k = .commit ∨ k = .map) :
    s.station.state ≠ .safe := by
  intro hsafe
  have hstate := h.state
  obtain rfl | rfl := hk <;> simp [hsafe, isRouted] at hstate

/-! ### COMMIT (R103) -/

theorem takeCommit_of_badCode {m : Message} (s : State)
    (h : 2 ≤ (commitBuffer m).toNat ∨ 64 ≤ (commitPreset m).toNat) : takeCommit m s = count .argErr s := by
  obtain h | h := h
  · simp [takeCommit, bufferOfCode_of_two_le h]
  · simp [takeCommit, presetOfByte_of_large h]

theorem takeCommit_of_closed {m : Message} {s : State} {x : BufferName} {n : Fin 64}
    (hx : (commitBuffer m).toNat = if x = .a then 0 else 1) (hn : (commitPreset m).toNat = n.val)
    (hclosed : (bufferOf x s.store).state ≠ .opened) : takeCommit m s = count .bufferBusy s := by
  simp only [takeCommit, bufferOfCode_of_toNat hx, presetOfByte_of_toNat hn]
  split
  next hopen => exact absurd hopen hclosed
  all_goals rfl

theorem takeCommit_of_full {m : Message} {s : State} {x : BufferName} {n : Fin 64}
    (hx : (commitBuffer m).toNat = if x = .a then 0 else 1) (hn : (commitPreset m).toNat = n.val)
    (hopen : (bufferOf x s.store).state = .opened) (hfull : 4 ≤ s.store.ops.length) :
    takeCommit m s = count .opqFull s := by
  simp only [takeCommit, bufferOfCode_of_toNat hx, presetOfByte_of_toNat hn, hopen, if_pos hfull]

/-- The state with a commit queued: its buffer QUEUED with its target, and its write point FIRST (R103). -/
def commitQueued (x : BufferName) (n : Fin 64) (s : State) : State :=
  { s with store :=
    { setBuffer x { bufferOf x s.store with state := .queued, target := some n, writePoint := .first } s.store with
      ops := s.store.ops ++ [.commit x n] } }

theorem takeCommit_of_room {m : Message} {s : State} {x : BufferName} {n : Fin 64}
    (hx : (commitBuffer m).toNat = if x = .a then 0 else 1) (hn : (commitPreset m).toNat = n.val)
    (hopen : (bufferOf x s.store).state = .opened) (hroom : s.store.ops.length < 4) :
    takeCommit m s = arbitrate (commitQueued x n s) := by
  simp only [takeCommit, bufferOfCode_of_toNat hx, presetOfByte_of_toNat hn, hopen, if_neg (Nat.not_le.2 hroom)]
  rfl

/-- Queuing a commit leaves the rest of the store. -/
theorem commitQueued_store (x : BufferName) (n : Fin 64) (s : State) :
    (commitQueued x n s).store.serving = s.store.serving ∧ (commitQueued x n s).store.reads = s.store.reads ∧
      (commitQueued x n s).store.running = s.store.running ∧
      (commitQueued x n s).store.restartWait = s.store.restartWait := by
  simp [commitQueued]

theorem commitQueued_runs_on {x : BufferName} {n : Fin 64} {s : State} {r : Running}
    (hserving : s.store.serving = none) (hreads : s.store.reads = []) (hrunning : s.store.running = some r)
    (hon : ∀ c ∈ runningCommit s, c.suspended = false) :
    arbitrate (commitQueued x n s) = commitQueued x n s := by
  obtain ⟨hserving', hreads', hrunning', -⟩ := commitQueued_store x n s
  refine arbitrate_of_running (hserving'.trans hserving) (hreads'.trans hreads) (hrunning'.trans hrunning) ?_
  rwa [runningCommit, hrunning']

/-- A commit on a free array starts: buffer and directory entry COMMITTING, journal, ERASE (R106, R107). -/
theorem commitQueued_starts {x : BufferName} {n : Fin 64} {s : State} (hserving : s.store.serving = none)
    (hreads : s.store.reads = []) (hidle : s.store.running = none) (hops : s.store.ops = [])
    (hwait : s.store.restartWait = false) (hsafe : s.station.state ≠ .safe) :
    arbitrate (commitQueued x n s) = { s with
      flash := { s.flash with journal := some (.preset n) }
      store := { setBuffer x { bufferOf x s.store with state := .committing, target := some n, writePoint := .first }
          s.store with
        directory := setAt s.store.directory n { state := .committing, airSafe := false }
        running := some (.commit { buffer := x, preset := n, phase := .erase, suspended := false,
                                   asked := false, suspends := 0 }) } } := by
  obtain ⟨hserving', hreads', hidle', hwait'⟩ := commitQueued_store x n s
  rw [arbitrate_of_one_operation (hserving'.trans hserving) (hreads'.trans hreads) (hidle'.trans hidle)
    (op := .commit x n) (by simp [commitQueued, hops]) (hwait'.trans hwait) hsafe]
  cases x <;> simp [operationStarted, commitQueued, setBuffer, bufferOf, hops]

theorem commit_holdsFields (m : Message) :
    HoldsFields m.body [(4, 1, (commitBuffer m).toNat), (5, 1, (commitPreset m).toNat)] := by
  have haddressed : isAddressed .commit = true := rfl
  intro f hf
  simp only [List.mem_cons, List.not_mem_nil, or_false] at hf
  obtain rfl | rfl := hf
  · exact (toNat_byteAt_payload haddressed m 0).symm
  · exact (toNat_byteAt_payload haddressed m 1).symm

/-- Settles O34: the cases of the codes, the buffer and the queue, and what the arbiter makes of the queued commit. -/
theorem commitJoinsOrStarts : Obligations.CommitJoinsOrStarts := by
  have hexec {m : Message} {s : State} (hrouted : Routed .commit m s) :
      exec (.commit m) s = .next (takeCommit m { s with line := { s.line with lineState := .gap } }) :=
    congrArg Host.Outcome.next (receive_routed hrouted _)
  refine ⟨fun m s hrouted => ?_, fun m s x n hrouted hx hn hopen hroom => ?_, fun m _ => commit_holdsFields m⟩
  · intro gap
    rw [hexec hrouted]
    refine ⟨fun hcodes => congrArg Host.Outcome.next (takeCommit_of_badCode gap hcodes), fun x n hx hn =>
      ⟨fun hclosed => congrArg Host.Outcome.next (takeCommit_of_closed (s := gap) hx hn hclosed),
        fun hopen hfull => congrArg Host.Outcome.next (takeCommit_of_full (s := gap) hx hn hopen hfull),
        fun hopen hroom hserving hreads => ?_⟩⟩
    rw [takeCommit_of_room (s := gap) hx hn hopen hroom]
    exact ⟨fun r hrunning hon =>
        congrArg Host.Outcome.next (commitQueued_runs_on (s := gap) hserving hreads hrunning hon),
      fun hidle hops hwait => congrArg Host.Outcome.next
        (commitQueued_starts (s := gap) hserving hreads hidle hops hwait (hrouted.not_safe (.inl rfl)))⟩
  · rw [hexec hrouted]
    exact congrArg Host.Outcome.next (takeCommit_of_room (s := { s with line := { s.line with lineState := .gap } })
      hx hn hopen hroom)

/-! ### MAP (R129) -/

/-- `c` is the command of a MAP with code 0 or 1, and `op` its operation. -/
def MapRequest (m : Message) (c : Instr) (op : ArrayOp) : Prop :=
  (mapCode m = 0 ∧ c = .mapErase m ∧ op = .mapErase) ∨
    (mapCode m = 1 ∧ c = .mapProgram m ∧
      op = .mapProgram (channelMod (mapFirstChannel m).toNat) (mapReleaseMask m))

/-- A MAP routed with code 0 or 1 is refused on air, or forms its operation. -/
theorem exec_mapRequest {m : Message} {s : State} {c : Instr} {op : ArrayOp} (hrouted : Routed .map m s)
    (h : MapRequest m c op) :
    exec c s = .next (if s.protection.pin then count .mapRefused (lineToGap s) else requestMap op (lineToGap s)) := by
  obtain ⟨hcode, rfl, rfl⟩ | ⟨hcode, rfl, rfl⟩ := h
  all_goals
    have hval := congrArg BitVec.toNat hcode
    refine congrArg Host.Outcome.next ((if_pos hval).trans ((receive_routed hrouted _).trans ?_))
    simp only [takeMap, hcode]
    rfl

theorem exec_mapCodeError {m : Message} {s : State} (hrouted : Routed .map m s) (h : 1 < (mapCode m).toNat) :
    exec (.mapCodeError m) s = .next (count .argErr (lineToGap s)) := by
  refine congrArg Host.Outcome.next ((if_pos h).trans ((receive_routed hrouted _).trans ?_))
  unfold takeMap
  split
  · omega
  · omega
  · rfl

/-- The state with a map operation queued (R105). -/
def mapQueued (op : ArrayOp) (s : State) : State := { s with store := { s.store with ops := s.store.ops ++ [op] } }

/-- An operation handed over to a queue with room joins it, the arbiter decides, and it counts as outstanding
(R106, R129). -/
theorem handOver_of_room {op : ArrayOp} {s : State} (hroom : s.store.ops.length < 4) :
    handOver op s = { arbitrate (mapQueued op s) with
      protection := { s.protection with outstanding := s.protection.outstanding + 1 } } := by
  have hprotection : (arbitrate (mapQueued op s)).protection = s.protection := by simp [mapQueued]
  have hhanded : handOverMap op s = arbitrate (mapQueued op s) := if_pos (decide_eq_true hroom)
  have haccepts : acceptsOp s = true := decide_eq_true hroom
  simp only [handOver, haccepts, if_true, hhanded, hprotection]

theorem requestMap_of_few {op : ArrayOp} {s : State} (few : s.protection.outstanding < 5)
    (hroom : s.store.ops.length < 4) :
    requestMap op s = { arbitrate (mapQueued op s) with
      protection := { s.protection with outstanding := s.protection.outstanding + 1 } } := by
  rw [requestMap, if_neg fun h => Nat.not_le.2 few h.1, handOver_of_room hroom]

/-- With five outstanding the completion notice that waits is taken first (R129, log 45). -/
theorem requestMap_of_five {op : ArrayOp} {s : State} (five : 5 ≤ s.protection.outstanding)
    (hroom : s.store.ops.length < 4) :
    requestMap op s = { arbitrate (mapQueued op (mapCompletionNotice s)) with
      protection := { (mapCompletionNotice s).protection with
        outstanding := (mapCompletionNotice s).protection.outstanding + 1 } } := by
  rw [requestMap, if_pos ⟨five, decide_eq_true hroom⟩, handOver_of_room (by simpa using hroom)]

theorem map_holdsFields (m : Message) :
    HoldsFields m.body [(4, 1, (mapCode m).toNat), (5, 1, (mapFirstChannel m).toNat),
      (6, 4, (mapReleaseMask m).toNat)] := by
  have haddressed : isAddressed .map = true := rfl
  intro f hf
  simp only [List.mem_cons, List.not_mem_nil, or_false] at hf
  obtain rfl | rfl | rfl := hf
  · exact (toNat_byteAt_payload haddressed m 0).symm
  · exact (toNat_byteAt_payload haddressed m 1).symm
  · exact (toNat_fieldAt_payload haddressed m 2 (by norm_num)).symm

/-- A map operation in progress (R105, R106). -/
theorem operationStarted_map {m : Message} {c : Instr} {op : ArrayOp} (h : MapRequest m c op) (u : State) :
    operationStarted op [] u = { u with
      flash := { u.flash with journal := some .map }
      store := { u.store with
        ops := []
        running := if c = .mapErase m then some .mapErase
          else some (.mapProgram (channelMod (mapFirstChannel m).toNat) (mapReleaseMask m)) } } := by
  obtain ⟨-, rfl, rfl⟩ | ⟨-, rfl, rfl⟩ := h
  · simp [operationStarted]
  · simp [operationStarted]

/-- Settles O41: the refusals, and the operation handed over with fewer than five outstanding and with five. -/
theorem mapMessages : Obligations.MapMessages := by
  refine ⟨fun m s hrouted => ?_, fun m s c op hrouted hc hpin few hroom => ?_,
    fun m s c op hrouted hc hpin five hroom => ?_, fun m _ => map_holdsFields m⟩
  · intro gap
    refine ⟨exec_mapCodeError hrouted, fun c op hc => ?_⟩
    rw [exec_mapRequest hrouted hc]
    refine ⟨fun hpin => congrArg Host.Outcome.next (if_pos hpin), fun hpin hfull => ?_,
      fun hpin few hroom hserving hreads => ?_⟩
    · rw [if_neg (by simp [hpin])]
      exact congrArg Host.Outcome.next (requestMap_refused op (s := gap) (decide_eq_false (Nat.not_lt.2 hfull)))
    · rw [if_neg (by simp [hpin]), show requestMap op (lineToGap s) = _ from requestMap_of_few (s := gap) few hroom]
      refine ⟨fun r hrunning hon => ?_, fun hidle hops hwait => ?_⟩
      · rw [arbitrate_of_running (u := mapQueued op gap) hserving hreads hrunning hon]
        rfl
      · rw [arbitrate_of_one_operation (u := mapQueued op gap) (op := op) hserving hreads hidle
          (by simp [mapQueued, gap, hops]) hwait (hrouted.not_safe (.inr rfl)), operationStarted_map hc]
        simp [mapQueued, gap, hops]
  · rw [exec_mapRequest hrouted hc, if_neg (by simp [hpin])]
    exact congrArg Host.Outcome.next
      (requestMap_of_few (s := { s with line := { s.line with lineState := .gap } }) few hroom)
  · rw [exec_mapRequest hrouted hc, if_neg (by simp [hpin])]
    exact ⟨mapCompletionNotice (lineToGap s), rfl, congrArg Host.Outcome.next
      (requestMap_of_five (s := lineToGap s) five hroom)⟩

end Sys2Proof.Machine
end

section
/-! The ends of work: the phases of a commit (R107 to R110), map operations (R111, R130, R131) and the start scan (R98,
R117, R120, R128). -/

namespace Sys2Proof.Machine

/-! ### What the arbiter leaves (R106) -/

/-- The arbiter moves the preset store, the journal and the answers alone. -/
theorem arbitrate_frame (s : State) : arbitrate s = { s with
    flash := (arbitrate s).flash, store := (arbitrate s).store, transit := (arbitrate s).transit } := by
  have hkeeps := arbitrate_keeps s
  generalize arbitrate s = t at hkeeps ⊢
  cases s
  cases t
  simp only [State.mk.injEq] at hkeeps ⊢
  tauto

theorem counterOf_arbitrate (s : State) (x : Counter) : counterOf (arbitrate s) x = counterOf s x := by
  simp [counterOf]

theorem startOperation_leaves (s : State) :
    (startOperation s).flash.presets = s.flash.presets ∧ (startOperation s).flash.mapPage = s.flash.mapPage ∧
      ∀ x, (bufferOf x (startOperation s).store).content = (bufferOf x s.store).content := by
  cases hops : s.store.ops with
  | nil => rw [startOperation_of_nil hops]; exact ⟨rfl, rfl, fun _ => rfl⟩
  | cons op ops =>
    rw [startOperation_of_cons hops]
    cases op with
    | commit z n => exact ⟨rfl, rfl, fun x => by cases z <;> cases x <;> rfl⟩
    | mapErase | mapProgram => exact ⟨rfl, rfl, fun x => by cases x <;> rfl⟩

/-- The arbiter writes no page and no buffer's content (R106, R107). -/
theorem arbitrate_leaves (s : State) :
    (arbitrate s).flash.presets = s.flash.presets ∧ (arbitrate s).flash.mapPage = s.flash.mapPage ∧
      ∀ x, (bufferOf x (arbitrate s).store).content = (bufferOf x s.store).content := by
  have hheads (x) : (bufferOf x (answerHeads s).store).content = (bufferOf x s.store).content := by cases x <;> rfl
  obtain h | h | h | ⟨-, -, -, h⟩ | ⟨c, -, -, h⟩ | ⟨c, -, -, -, -, -, h⟩ := arbitrate_cases s
  all_goals rw [h]
  · exact ⟨rfl, rfl, fun _ => rfl⟩
  · exact ⟨rfl, rfl, hheads⟩
  · unfold serveHead
    split
    · exact ⟨rfl, rfl, hheads⟩
    · exact ⟨rfl, rfl, fun x => by cases x <;> rfl⟩
  · obtain ⟨hpresets, hmap, hcontent⟩ := startOperation_leaves (answerHeads s)
    exact ⟨hpresets, hmap, fun x => (hcontent x).trans (hheads x)⟩
  · exact ⟨rfl, rfl, fun x => by cases x <;> rfl⟩
  · exact ⟨rfl, rfl, fun x => by cases x <;> rfl⟩

/-- With nothing waiting the array stays free (R106). -/
theorem arbitrate_of_nothing {s : State} (hidle : s.store.running = none) (hserving : s.store.serving = none)
    (hreads : s.store.reads = []) (hops : s.store.ops = []) : arbitrate s = s := by
  rw [arbitrate_of_no_reads hserving hreads, arbitrateHead_of_empty hidle hreads hops]

/-! ### ERASE and PROGRAM (R107) -/

theorem eraseEnd_of_commit {s : State} {c : CommitRun} (hc : s.store.running = some (.commit c))
    (hon : c.suspended = false) (hphase : c.phase = .erase) :
    eraseEnd s = { s with
      flash := { s.flash with presets := setAt s.flash.presets c.preset { void := false, body := .erased } }
      store := { s.store with running := some (.commit { c with phase := .program }) } } := by
  have hin : commitIn .erase s = some c := hphase ▸ commitIn_of_commit hc hon
  simp only [eraseEnd, hin]
  rfl

theorem programEnd_of_commit {s : State} {c : CommitRun} (hc : s.store.running = some (.commit c))
    (hon : c.suspended = false) (hphase : c.phase = .program) :
    programEnd s = { s with
      flash := { s.flash with
        presets := setAt s.flash.presets c.preset
          { s.flash.presets[c.preset] with body := .programmed (bufferOf c.buffer s.store).content } }
      store := { s.store with running := some (.commit { c with phase := .verify, asked := false }) } } := by
  have hin : commitIn .program s = some c := hphase ▸ commitIn_of_commit hc hon
  simp only [programEnd, hin]
  rfl

/-! ### VERIFY (R108 to R110) -/

/-- The state after a verify: its page, its directory entry and COMMIT_FAIL as the outcome leaves them, the journal
cleared and the buffer OPEN. -/
def commitEnded (c : CommitRun) (page : Page Content) (entry : DirEntry) (failed : Bool) (s : State) : State :=
  { s with
    flash := { s.flash with presets := setAt s.flash.presets c.preset page, journal := none }
    store := { setBuffer c.buffer { bufferOf c.buffer s.store with state := .opened, target := none } s.store with
      directory := setAt s.store.directory c.preset entry, running := none }
    flags := { s.flags with commitFail := failed }
    transit := { s.transit with arrayQuiet := s.transit.arrayQuiet || s.store.restartWait } }

/-- The outcome of a verify before the arbiter decides: success (R109) or failure (R110). -/
def verified (success : Bool) (c : CommitRun) (s : State) : State :=
  if success then
    commitEnded c { void := false, body := .programmed (bufferOf c.buffer s.store).content }
      { state := .valid, airSafe := (bufferOf c.buffer s.store).content.airSafe } false s
  else count .commitFail (commitEnded c { void := true, body := .damaged } { state := .bad, airSafe := false } true s)

theorem verifyEnd_of_commit {s : State} {c : CommitRun} (hc : s.store.running = some (.commit c))
    (hon : c.suspended = false) (hphase : c.phase = .verify) (success : Bool) :
    verifyEnd success s = arbitrate (verified success c s) := by
  have hin : commitIn .verify s = some c := hphase ▸ commitIn_of_commit hc hon
  simp only [verifyEnd, hin, endCommit, finishOperation, verified, commitEnded]
  cases success <;> simp [raiseCommitFail, setPage, count, countN, setStore]

/-- Either way the journal is cleared, no operation is in progress and the buffer is OPEN with its content (R108). -/
theorem verified_store (success : Bool) (c : CommitRun) (s : State) :
    (verified success c s).store =
      { setBuffer c.buffer { bufferOf c.buffer s.store with state := .opened, target := none } s.store with
        directory := setAt s.store.directory c.preset (if success then
          { state := .valid, airSafe := (bufferOf c.buffer s.store).content.airSafe }
          else { state := .bad, airSafe := false })
        running := none } := by
  cases success <;> rfl

theorem verified_flash (success : Bool) (c : CommitRun) (s : State) :
    (verified success c s).flash = { s.flash with
      presets := setAt s.flash.presets c.preset (if success then
        { void := false, body := .programmed (bufferOf c.buffer s.store).content }
        else { void := true, body := .damaged })
      journal := none } := by
  cases success <;> rfl

theorem verified_transit (success : Bool) (c : CommitRun) (s : State) :
    (verified success c s).transit =
      { s.transit with arrayQuiet := s.transit.arrayQuiet || s.store.restartWait } := by
  cases success <;> rfl

theorem verified_flags (success : Bool) (c : CommitRun) (s : State) :
    (verified success c s).flags = { s.flags with commitFail := !success } := by
  cases success <;> rfl

theorem verified_frame (success : Bool) (c : CommitRun) (s : State) : verified success c s = { s with
    flash := (verified success c s).flash, store := (verified success c s).store
    flags := (verified success c s).flags, counters := (verified success c s).counters
    transit := (verified success c s).transit } := by
  cases success <;> rfl

theorem verified_counterOf_commitFail (success : Bool) (c : CommitRun) (s : State) :
    counterOf (verified success c s) .commitFail =
      if success then counterOf s .commitFail else saturatingAdd (counterOf s .commitFail) 1 := by
  cases success
  · exact counterOf_countN_self _ _ _
  · rfl

theorem verified_counterOf_ne {x : Counter} (h : x ≠ .commitFail) (success : Bool) (c : CommitRun) (s : State) :
    counterOf (verified success c s) x = counterOf s x := by
  cases success
  · exact counterOf_countN_ne h _ _
  · rfl

/-- The commit's buffer keeps its content. -/
theorem verified_buffer (success : Bool) (c : CommitRun) (s : State) :
    bufferOf c.buffer (verified success c s).store =
      { bufferOf c.buffer s.store with state := .opened, target := none } := by
  rw [verified_store]
  cases c.buffer <;> rfl

/-- Settles O36: the ends of ERASE and PROGRAM, and the verify's outcome with what the arbiter leaves of it. -/
theorem commitPhasesEnd : Obligations.CommitPhasesEnd := by
  refine ⟨fun s c hc hon => ⟨fun hphase => congrArg Host.Outcome.next (eraseEnd_of_commit hc hon hphase),
      fun hphase => congrArg Host.Outcome.next (programEnd_of_commit hc hon hphase)⟩,
    fun s c success hc hon hphase => ?_, fun s c hc hon hphase => ?_⟩
  · obtain ⟨hpresets, hmap, hcontent⟩ := arbitrate_leaves (verified success c s)
    have hflags : (arbitrate (verified success c s)).flags = { s.flags with commitFail := !success } := by
      simp [verified_flags]
    have hpage := (congrArg (·[c.preset]) (hpresets.trans (by rw [verified_flash]))).trans (setAt_getElem_self _ _ _)
    refine ⟨arbitrate (verified success c s), congrArg Host.Outcome.next (verifyEnd_of_commit hc hon hphase success),
      ?_, by rw [hflags], fun x hx => by rw [counterOf_arbitrate, verified_counterOf_ne hx],
      by rw [hmap, verified_flash], ?_, ?_, fun n hn => ?_, by rw [hcontent, verified_buffer], fun hserving hreads hops => ?_⟩
    · rw [arbitrate_frame, verified_frame]
    · rintro rfl
      refine ⟨by rw [hflags]; rfl, ?_, hpage⟩
      rw [counterOf_arbitrate, verified_counterOf_commitFail, if_pos rfl]
    · rintro rfl
      refine ⟨by rw [hflags]; rfl, congrArg Page.void hpage, ?_⟩
      rw [counterOf_arbitrate, verified_counterOf_commitFail]
      rfl
    · rw [hpresets, verified_flash]
      exact setAt_getElem_ne _ _ hn
    · have hstore := verified_store success c s
      rw [arbitrate_of_nothing (by rw [hstore]) (by simp [hstore, hserving]) (by simp [hstore, hreads])
        (by simp [hstore, hops]), verified_buffer, verified_transit]
      refine ⟨by rw [verified_flash], by rw [hstore], ?_, rfl, rfl, rfl⟩
      rw [hstore]
      exact setAt_getElem_self _ _ _
  · have hend := verifyEnd_of_commit hc hon hphase
    exact ⟨congrArg Host.Outcome.next (hend true), .damaged, congrArg Host.Outcome.next (hend false)⟩

/-! ### Map operations (R111, R130, R131) -/

/-- The state after a map operation: its page and map entry, the journal cleared and the completion notice on its
way. -/
def mapEnded (page : Page ChannelSet) (entry : EntryState) (notice : ChannelSet) (s : State) : State :=
  { s with
    flash := { s.flash with mapPage := page, journal := none }
    store := { s.store with mapEntry := entry, running := none }
    transit := { s.transit with
      mapDone := s.transit.mapDone ++ [notice]
      arrayQuiet := s.transit.arrayQuiet || s.store.restartWait } }

theorem mapEraseEnd_of_erase {s : State} (h : s.store.running = some .mapErase) :
    mapEraseEnd s = arbitrate (mapEnded { void := false, body := .erased } .empty 0 s) := by
  simp only [mapEraseEnd, h]
  rfl

theorem mapProgramEnd_of_bad {s : State} {first : Channel} {mask : BitVec 32}
    (h : s.store.running = some (.mapProgram first mask)) (hbad : s.store.mapEntry = .bad) :
    mapProgramEnd s = arbitrate (mapEnded s.flash.mapPage .bad 0 s) := by
  simp only [mapProgramEnd, h, hbad]
  rfl

/-- The releases are written over the map of an EMPTY or VALID page (R131). -/
theorem mapProgramEnd_of_map {s : State} {first : Channel} {mask : BitVec 32} {old : ChannelSet}
    (h : s.store.running = some (.mapProgram first mask))
    (hold : (s.store.mapEntry = .empty ∧ old = 0) ∨
      (s.store.mapEntry = .valid ∧ s.flash.mapPage.body = .programmed old)) :
    mapProgramEnd s = arbitrate (mapEnded { void := false, body := .programmed (releaseChannels first mask old) } .valid
      (releaseChannels first mask old) s) := by
  obtain ⟨hentry, rfl⟩ | ⟨hentry, hbody⟩ := hold
  · simp only [mapProgramEnd, h, hentry]
    rfl
  · simp only [mapProgramEnd, h, hentry, carriedMap, hbody]
    rfl

theorem releaseFrom_getLsbD (first : Channel) (mask : BitVec 32) (n : Nat) (old : ChannelSet) (k : Channel) :
    (releaseFrom first mask n old).getLsbD k.val = true ↔ old.getLsbD k.val = true ∨
      ∃ i : Nat, i < n ∧ mask.getLsbD i = true ∧ channelMod (first.val + i) = k := by
  induction n with
  | zero => simp [releaseFrom]
  | succ n ih =>
    have hpin := getLsbD_pinWritten (releaseFrom first mask n old) (channelMod (first.val + n)) k true
    rw [if_pos rfl] at hpin
    rw [releaseFrom, Nat.exists_lt_succ_right, ← or_assoc, ← ih]
    split
    next hset =>
      rw [hpin]
      split
      next hk => simp [hset, hk]
      next hk => simp [Ne.symm hk]
    next hclear => simp [hclear]

theorem releaseChannels_getLsbD (first : Channel) (mask : BitVec 32) (old : ChannelSet) (k : Channel) :
    (releaseChannels first mask old).getLsbD k.val = true ↔ old.getLsbD k.val = true ∨
      ∃ i : Nat, i < 32 ∧ mask.getLsbD i = true ∧ channelMod (first.val + i) = k :=
  releaseFrom_getLsbD first mask 32 old k

/-- With nothing waiting the array is free after a map operation. -/
theorem arbitrate_mapEnded {s : State} (hserving : s.store.serving = none) (hreads : s.store.reads = [])
    (hops : s.store.ops = []) (page : Page ChannelSet) (entry : EntryState) (notice : ChannelSet) :
    arbitrate (mapEnded page entry notice s) = mapEnded page entry notice s :=
  arbitrate_of_nothing rfl hserving hreads hops

/-- Settles O37: the page and the notice of each map operation, with nothing waiting and with the arbiter's decision. -/
theorem mapOperationsEnd : Obligations.MapOperationsEnd := by
  refine ⟨fun s hserving hreads hops => ?_, fun s => ?_⟩
  · intro ended
    have hfree (page entry notice) : arbitrate (mapEnded page entry notice s) = ended page entry notice :=
      arbitrate_mapEnded hserving hreads hops page entry notice
    exact ⟨fun h => congrArg Host.Outcome.next ((mapEraseEnd_of_erase h).trans (hfree _ _ _)),
      fun first mask h => ⟨fun hbad => congrArg Host.Outcome.next ((mapProgramEnd_of_bad h hbad).trans (hfree _ _ _)),
        fun old hold => ⟨releaseChannels first mask old,
          congrArg Host.Outcome.next ((mapProgramEnd_of_map h hold).trans (hfree _ _ _)),
          releaseChannels_getLsbD first mask old⟩⟩⟩
  · exact ⟨fun h => congrArg Host.Outcome.next (mapEraseEnd_of_erase h),
      fun first mask h => ⟨fun hbad => congrArg Host.Outcome.next (mapProgramEnd_of_bad h hbad),
        fun old hold => ⟨releaseChannels first mask old, congrArg Host.Outcome.next (mapProgramEnd_of_map h hold),
          releaseChannels_getLsbD first mask old⟩⟩⟩

/-! ### The start scan's end (R98, R117, R120, R128) -/

theorem startScanMap_of_some {s : State} {m : ChannelSet} (h : s.transit.scanMap = some m) :
    startScanMap s = { s with
      protection := { s.protection with map := m }
      transit := { s.transit with scanMap := none } } := by
  simp only [startScanMap, h]

/-- Settles O38: each page by its void mark and its fields. -/
theorem startScanJudgesPages : Obligations.StartScanJudgesPages := by
  refine ⟨fun s hscan => ?_, fun s m h => congrArg Host.Outcome.next (startScanMap_of_some h)⟩
  intro mapState map
  have hmap : pageState s.flash.mapPage = mapState ∧ carriedMap (pageState s.flash.mapPage) s.flash.mapPage = map := by
    unfold mapState map
    cases s.flash.mapPage with
    | mk void body => cases void <;> cases body <;> exact ⟨rfl, rfl⟩
  obtain ⟨hstate, hcarried⟩ := hmap
  refine ⟨startScanEnd s, rfl, ?_, fun n => ?_⟩
  · rw [startScanEnd_of_scanning hscan, hcarried, hstate]
  · rw [startScanEnd_of_scanning hscan]
    refine (judged_getElem s.flash n).trans ?_
    cases s.flash.presets[n] with
    | mk void body => cases void <;> cases body <;> rfl

end Sys2Proof.Machine
end

section
/-! Supply and RESET: what they break off (R99, R118, R188) and the restart that follows (R179, R180). -/

namespace Sys2Proof.Machine

/-! ### The array broken off (R99, R118) -/

theorem breakOff_flash (s : State) : (breakOff s).flash = breakOffArray s.store s.flash := by
  unfold breakOff
  dsimp only
  split <;> rfl

theorem breakOffArray_of_idle {p : PresetStore} (h : p.running = none) (f : FlashArray) : breakOffArray p f = f := by
  rw [breakOffArray, h]

theorem breakOffArray_of_verify {p : PresetStore} {c : CommitRun} (h : p.running = some (.commit c))
    (hphase : c.phase = .verify) (f : FlashArray) : breakOffArray p f = f := by
  simp only [breakOffArray, h, if_pos hphase]

theorem breakOffArray_of_commit {p : PresetStore} {c : CommitRun} (h : p.running = some (.commit c))
    (hphase : c.phase ≠ .verify) (f : FlashArray) :
    breakOffArray p f = { f with
      presets := setAt f.presets c.preset { f.presets[c.preset] with body := .damaged } } := by
  simp only [breakOffArray, h, if_neg hphase]

/-- A map erase or a map program is broken off in the map page. -/
theorem breakOffArray_of_map {s : State} (h : s.store.running.isSome = true) (hmap : runningCommit s = none)
    (f : FlashArray) : breakOffArray s.store f = { f with mapPage := { f.mapPage with body := .damaged } } := by
  cases hr : s.store.running with
  | none => simp [hr] at h
  | some r =>
    cases r with
    | commit c => simp [runningCommit_of_commit hr] at hmap
    | mapErase | mapProgram => simp only [breakOffArray, hr]

theorem arrayBrokenOff_of_flash {s t : State} (h : t.flash = breakOffArray s.store s.flash) : ArrayBrokenOff s t := by
  cases hr : s.store.running with
  | none =>
    have hno := runningCommit_of_idle hr
    rw [breakOffArray_of_idle hr] at h
    exact ⟨by rw [h], fun n _ => by rw [h], by simp [hno], by simp [h, hr], fun _ => h⟩
  | some r =>
    cases hc : runningCommit s with
    | none =>
      have hsome : s.store.running.isSome = true := by rw [hr]; rfl
      rw [breakOffArray_of_map hsome hc] at h
      exact ⟨by rw [h], fun n _ => by rw [h], by simp [hc], by simp [h, hsome, hc], by simp [hr]⟩
    | some c =>
      have hrun := running_of_runningCommit hc
      by_cases hphase : c.phase = .verify
      · rw [breakOffArray_of_verify hrun hphase] at h
        exact ⟨by rw [h], fun n _ => by rw [h], by simp [hc, hphase], by simp [h, hc], fun _ => h⟩
      · rw [breakOffArray_of_commit hrun hphase] at h
        refine ⟨by rw [h], fun n hn => ?_, fun c' hc' _ => ?_, by simp [h, hc], by simp [hr]⟩
        · have hne : n ≠ c.preset := fun heq => hphase (hn c hc heq.symm)
          rw [h]
          exact setAt_getElem_ne _ _ hne
        · obtain rfl : c = c' := Option.some.inj (hc.symm.trans hc')
          rw [h]
          exact setAt_getElem_self _ _ _

/-! ### The row broken off (R188) -/

theorem breakOff_configStore_of_no_row {s : State} (h : NoRowProgramming s) :
    (breakOff s).configStore = s.configStore := by
  unfold breakOff
  rw [NoRowProgramming] at h
  simp [h]

theorem breakOff_configStore_of_row {s : State} {r : RowBuffer} (hbusy : s.setup.busy = true)
    (hrow : s.setup.rowBuffer = some r) :
    (breakOff s).configStore = breakOffBytes s.freeIndex r s.configStore := by
  simp only [breakOff, hbusy, hrow]

/-- The store with some of a row's bytes written, in a list of byte numbers. -/
def writeSome (reached : Fin 64 → Bool) (base : Nat) (bytes : Vector Byte 64) (m : Memory) (l : List (Fin 64)) :
    Memory :=
  l.foldl (fun m i => if reached i then memWrite m (base + i.val) bytes[i] else m) m

theorem breakOffBytes_eq (index : Nat) (r : RowBuffer) (m : Memory) :
    breakOffBytes index r m =
      writeSome (Config.rowByteReachedNew index) (64 * r.row.toNat) r.bytes m (List.finRange 64) := rfl

/-- Each byte of the store keeps its value, or holds the row's byte of its place. -/
theorem memRead_writeSome (reached : Fin 64 → Bool) (base : Nat) (bytes : Vector Byte 64) {m : Memory}
    (hwf : memWf m = true) (l : List (Fin 64)) (a : Nat) :
    memRead (writeSome reached base bytes m l) a = memRead m a ∨
      ∃ i : Fin 64, a = base + i.val ∧ memRead (writeSome reached base bytes m l) a = bytes[i] := by
  induction l generalizing m with
  | nil => exact .inl rfl
  | cons i l ih =>
    rw [writeSome, List.foldl_cons, ← writeSome]
    split
    · obtain hkept | hnew := ih (memWrite_wf m (base + i.val) bytes[i] hwf)
      · rw [hkept, memRead_write m _ _ _ hwf]
        split
        next ha => exact .inr ⟨i, ha, rfl⟩
        next => exact .inl rfl
      · exact .inr hnew
    · exact ih hwf

/-- A row broken off holds in each byte its old or its new value, and every other byte of the store its old one. -/
theorem memRead_breakOffBytes {m : Memory} (hwf : memWf m = true) (index : Nat) (r : RowBuffer) (a : Nat) :
    (∀ i : Fin 64, a = 64 * r.row.toNat + i.val →
      memRead (breakOffBytes index r m) a = memRead m a ∨ memRead (breakOffBytes index r m) a = r.bytes[i]) ∧
    (a < 64 * r.row.toNat ∨ 64 * r.row.toNat + 64 ≤ a → memRead (breakOffBytes index r m) a = memRead m a) := by
  rw [breakOffBytes_eq]
  obtain hkept | ⟨j, hj, hnew⟩ := memRead_writeSome (Config.rowByteReachedNew index) (64 * r.row.toNat) r.bytes hwf
    (List.finRange 64) a
  · exact ⟨fun _ _ => .inl hkept, fun _ => hkept⟩
  · refine ⟨fun i hi => ?_, fun houtside => ?_⟩
    · obtain rfl : j = i := Fin.ext (by omega)
      exact .inr hnew
    · have := j.isLt
      omega

/-! ### Supply and RESET (R179, R180) -/

theorem powerOn_atRestart (pins : Pins) (s : State) : AtRestart pins.stn (powerOn pins s) :=
  restart_atRestart { stn := pins.stn, setup := pins.setup } .powerOn none _

theorem powerOn_station (pins : Pins) (s : State) :
    RestartedStation (powerOn pins s).station (loadingOrSetup pins.setup) pins.stn .powerOn none :=
  restart_station { stn := pins.stn, setup := pins.setup } .powerOn none _

theorem powerLoss_atRestart (s : State) : AtRestart s.station.number (powerLoss s) :=
  restartBlocks_atRestart (stationAtRestart s.station.number s.station.restartCause s.station.restartSource) _

theorem resetPinAssertion_of_powered {s : State} (h : s.power.powered = true) :
    resetPinAssertion s = restartBlocks (stationAtRestart s.station.number .resetPin none)
      (breakOff { s with power := { s.power with resetHeld := true } }) :=
  if_pos h

theorem resetPinDeassertion_of_held (straps : Straps) {s : State} (hpowered : s.power.powered = true)
    (hheld : s.power.resetHeld = true) :
    resetPinDeassertion straps s =
      restart straps .resetPin none { s with power := { s.power with resetHeld := false } } := by
  simp only [resetPinDeassertion, hheld, hpowered, if_true]

/-- What power-on, power loss and RESET leave of the configuration store. -/
theorem exec_configStore_of_row {s t : State} {c : Instr} {r : RowBuffer} (hbusy : s.setup.busy = true)
    (hrow : s.setup.rowBuffer = some r) (hpowered : s.power.powered = true)
    (hc : c = .powerLoss ∨ c = .resetPinAssertion ∨ ∃ pins, c = .powerOn pins) (h : exec c s = .next t) :
    t.configStore = breakOffBytes s.freeIndex r s.configStore := by
  obtain rfl | rfl | ⟨pins, rfl⟩ := hc
  · cases h
    exact breakOff_configStore_of_row hbusy hrow
  · cases h
    rw [resetPinAssertion_of_powered hpowered]
    exact breakOff_configStore_of_row (s := { s with power := { s.power with resetHeld := true } }) hbusy hrow
  · cases h
    exact breakOff_configStore_of_row hbusy hrow

/-- Settles O51: each event breaks off and restarts, and the row's bytes are old or new. -/
theorem supplyAndResetRestart : Obligations.SupplyAndResetRestart := by
  refine ⟨fun s => ⟨fun pins => ?_, ?_, fun hpowered => ?_, fun straps hpowered hheld => ?_⟩,
    fun s t c r a hbusy hrow hwf hpowered hc h => ?_⟩
  · exact ⟨powerOn pins s, rfl, powerOn_atRestart pins s, arrayBrokenOff_of_flash (breakOff_flash s),
      powerOn_station pins s, rfl, rfl, breakOff_configStore_of_no_row⟩
  · exact ⟨powerLoss s, rfl, powerLoss_atRestart s, arrayBrokenOff_of_flash (breakOff_flash s), rfl,
      breakOff_configStore_of_no_row⟩
  · refine ⟨resetPinAssertion s, rfl, ?_⟩
    rw [resetPinAssertion_of_powered hpowered]
    refine ⟨restartBlocks_atRestart (stationAtRestart s.station.number .resetPin none) _,
      arrayBrokenOff_of_flash (breakOff_flash _),
      ⟨rfl, rfl, rfl, rfl, rfl, rfl, rfl, rfl, rfl, rfl⟩, by simp [isLive],
      fun h => breakOff_configStore_of_no_row (s := { s with power := { s.power with resetHeld := true } }) h⟩
  · refine ⟨resetPinDeassertion straps s, rfl, ?_⟩
    rw [resetPinDeassertion_of_held straps hpowered hheld]
    exact ⟨restart_atRestart straps .resetPin none _, restart_station straps .resetPin none _,
      by simp [isLive, hpowered], rfl, rfl⟩
  · rw [exec_configStore_of_row hbusy hrow hpowered hc h]
    exact memRead_breakOffBytes hwf _ r a

end Sys2Proof.Machine
end

section
/-! The protection unit: the ON-AIR pin (R124, R125, R132), the map copy (R128) and PROTECT (R126, R127). -/

namespace Sys2Proof.Machine

/-! ### Notices of protection in force (R125) -/

theorem inForce_of_deasserted {p : Protection} (h : p.pin = false) : inForce p = p.latch := by
  rw [inForce, h, Bool.false_or]

/-- A change that leaves protection in force sends a notice when it was not in force before. -/
theorem setProtection_into_force {p : Protection} {s : State} (h : inForce p = true) :
    setProtection p s = { s with
      protection := p
      transit := { s.transit with protNotices := s.transit.protNotices +
        (if inForce s.protection then 0 else 1) } } := by
  have hnotices : (if inForce p = inForce s.protection then 0 else 1) = if inForce s.protection then 0 else 1 := by
    rw [h]
    cases inForce s.protection <;> rfl
  rw [setProtection, hnotices]

/-- A change that leaves protection out of force sends a notice when it was in force before. -/
theorem setProtection_out_of_force {p : Protection} {s : State} (h : inForce p = false) :
    setProtection p s = { s with
      protection := p
      transit := { s.transit with protNotices := s.transit.protNotices +
        (if inForce s.protection then 1 else 0) } } := by
  have hnotices : (if inForce p = inForce s.protection then 0 else 1) = if inForce s.protection then 1 else 0 := by
    rw [h]
    cases inForce s.protection <;> rfl
  rw [setProtection, hnotices]

/-! ### The ON-AIR pin (R124, R125, R132) -/

theorem onAirEdge_of_started {s : State} (h : s.protection.started = true) (level : Bool) (now : Nanos) :
    onAirEdge level now s = { s with
      pins := { s.pins with onAir := level }
      protection := { s.protection with
        candidate := if level = s.protection.pin then none else some { level := level, since := now } } } :=
  if_pos h

theorem candidateIs_of_some {p : Protection} {level : Bool} {since : Nanos}
    (h : p.candidate = some { level := level, since := since }) : candidateIs level p = true := by
  simp [candidateIs, h]

/-- The pin asserted puts protection in force, whatever the latch. -/
theorem qualifyPin_asserted (s : State) : qualifyPin true s = { s with
    protection := { s.protection with pin := true, candidate := none }
    transit := { s.transit with protNotices := s.transit.protNotices +
      (if s.protection.pin || s.protection.latch then 0 else 1) } } :=
  setProtection_into_force rfl

/-- The pin deasserted takes protection out of force when the latch is clear. -/
theorem qualifyPin_deasserted (s : State) : qualifyPin false s = { s with
    protection := { s.protection with pin := false, candidate := none }
    transit := { s.transit with protNotices := s.transit.protNotices +
      (if s.protection.pin && !s.protection.latch then 1 else 0) } } := by
  have hforce : inForce { s.protection with pin := false, candidate := none } = s.protection.latch := rfl
  cases hlatch : s.protection.latch with
  | false =>
    rw [qualifyPin, setProtection_out_of_force (hforce.trans hlatch)]
    simp [inForce, hlatch]
  | true =>
    rw [qualifyPin, setProtection_into_force (hforce.trans hlatch)]
    simp [inForce, hlatch]

theorem onAirAssertion_of_candidate {s : State} {since : Nanos} (hstarted : s.protection.started = true)
    (h : s.protection.candidate = some { level := true, since := since }) :
    onAirAssertion s = countN .mapLateAir s.protection.outstanding (qualifyPin true s) :=
  if_pos ⟨hstarted, candidateIs_of_some h⟩

theorem onAirDeassertion_of_candidate {s : State} {since : Nanos} (hstarted : s.protection.started = true)
    (h : s.protection.candidate = some { level := false, since := since }) :
    onAirDeassertion s = qualifyPin false s :=
  if_pos ⟨hstarted, candidateIs_of_some h⟩

/-! ### The map copy (R128) -/

theorem mapCompletionNotice_of_cons {s : State} {m : ChannelSet} {ms : List ChannelSet}
    (h : s.transit.mapDone = m :: ms) : mapCompletionNotice s = { s with
      protection := { s.protection with map := m, outstanding := s.protection.outstanding - 1 }
      transit := { s.transit with
        mapDone := ms
        protNotices := s.transit.protNotices + (if m = s.protection.map then 0 else 1) } } := by
  simp only [mapCompletionNotice, h]

/-- Settles O39: the edge, the candidate of each level, and the completion notice. -/
theorem onAirPinAndMapCopy : Obligations.OnAirPinAndMapCopy := by
  refine ⟨fun s hstarted => ⟨fun level now => congrArg Host.Outcome.next (onAirEdge_of_started hstarted level now),
    fun since h => ?_, fun since h => ?_⟩, fun s m ms h => ?_⟩
  · refine congrArg Host.Outcome.next ((onAirAssertion_of_candidate hstarted h).trans ?_)
    rw [qualifyPin_asserted]
  · exact congrArg Host.Outcome.next ((onAirDeassertion_of_candidate hstarted h).trans (qualifyPin_deasserted s))
  · refine congrArg Host.Outcome.next ((mapCompletionNotice_of_cons h).trans ?_)
    have hcount : s.protection.outstanding - 1 =
        if 0 < s.protection.outstanding then s.protection.outstanding - 1 else 0 := by split <;> omega
    rw [← hcount, add_ite, Nat.add_zero]

/-! ### PROTECT (R126, R127) -/

theorem takeProtect_on {m : Message} (h : protectCode m = 1) (s : State) :
    takeProtect m s = setProtection { s.protection with latch := true } s := by
  rw [takeProtect, h]
  rfl

theorem takeProtect_off {m : Message} (h : protectCode m = 0) (s : State) : takeProtect m s =
    if s.protection.pin then count .protectOffRefused s else setProtection { s.protection with latch := false } s := by
  rw [takeProtect, h]
  rfl

theorem takeProtect_of_codeError {m : Message} (h : 1 < (protectCode m).toNat) (s : State) :
    takeProtect m s = count .argErr s := by
  unfold takeProtect
  split
  · omega
  · omega
  · rfl

/-- Each of the three PROTECT commands is completed by the unit that the message is routed to. -/
theorem exec_protect {m : Message} {s : State} {c : Instr} (hrouted : Routed .protect m s)
    (h : (protectCode m = 1 ∧ c = .protectOn m) ∨ (protectCode m = 0 ∧ c = .protectOff m) ∨
      (1 < (protectCode m).toNat ∧ c = .protectCodeError m)) :
    exec c s = .next (takeProtect m (lineToGap s)) := by
  have hreceive := receive_routed hrouted (takeProtect m)
  obtain ⟨hcode, rfl⟩ | ⟨hcode, rfl⟩ | ⟨hcode, rfl⟩ := h
  · exact congrArg Host.Outcome.next ((if_pos (congrArg BitVec.toNat hcode)).trans hreceive)
  · exact congrArg Host.Outcome.next ((if_pos (congrArg BitVec.toNat hcode)).trans hreceive)
  · exact congrArg Host.Outcome.next ((if_pos hcode).trans hreceive)

theorem protect_holdsFields (m : Message) : HoldsFields m.body [(4, 1, (protectCode m).toNat)] := by
  intro f hf
  obtain rfl := List.mem_singleton.1 hf
  exact (toNat_byteAt_payload (k := .protect) rfl m 0).symm

/-- Settles O40: the code, and for OFF the pin. -/
theorem protectMessages : Obligations.ProtectMessages := by
  refine ⟨fun m s hrouted => ?_, fun m _ => protect_holdsFields m⟩
  intro gap
  refine ⟨fun hcode => ?_, fun hcode => ⟨fun hpin => ?_, fun hpin => ?_⟩, fun hcode => ?_⟩
  · rw [exec_protect hrouted (.inl ⟨hcode, rfl⟩), takeProtect_on hcode]
    exact congrArg Host.Outcome.next (setProtection_into_force (s := gap) (Bool.or_true _))
  · rw [exec_protect hrouted (.inr (.inl ⟨hcode, rfl⟩)), takeProtect_off hcode]
    exact congrArg Host.Outcome.next (if_pos hpin)
  · rw [exec_protect hrouted (.inr (.inl ⟨hcode, rfl⟩)), takeProtect_off hcode]
    refine congrArg Host.Outcome.next ((if_neg (by simp [hpin])).trans ?_)
    have hclear : inForce { gap.protection with latch := false } = false := inForce_of_deasserted hpin
    refine (setProtection_out_of_force (s := gap) hclear).trans ?_
    rw [inForce_of_deasserted (p := gap.protection) hpin]
  · rw [exec_protect hrouted (.inr (.inr ⟨hcode, rfl⟩)), takeProtect_of_codeError hcode]
    rfl

end Sys2Proof.Machine
end

section
/-! The own demand (R165): what X_own and S_own sum, and what a change of protection moves between them (R135, R155). -/

namespace Sys2Proof.Machine

/-- The fixed channels: PINNED, UNSCALED, and those protected while protection is in force (R165). -/
theorem isFixed_iff (s : State) (c : Channel) : isFixed s c = true ↔ s.image.channels[c].cls ≠ .scaled ∨
    ((s.protection.pin = true ∨ s.protection.latch = true) ∧ s.protection.map.getLsbD c.val = false) := by
  rw [isFixed, ← protectedInForce_iff]
  cases s.image.channels[c].cls <;> simp

/-- A channel's forecast, and so its demand, does not depend on protection (R135). -/
theorem demandOf_protection (s : State) (p : Protection) (target : FrameNo) :
    demandOf { s with protection := p } target = demandOf s target := by
  funext c
  exact congrArg (channelDemand · s.image.channels[c].rated) (forecastLevel_congr rfl rfl target c)

theorem ceilDiv_succ (a b : Nat) : ceilDiv a (b + 1) = (a + b) / (b + 1) := rfl

theorem demandOf_eq (s : State) (target : FrameNo) (c : Channel) : demandOf s target c =
    (forecastLevel s target c * s.image.channels[c].rated.toNat + 65534) / 65535 :=
  ceilDiv_succ _ 65534

theorem wallDemand_eq (luma load : Nat) : wallDemand luma load = (luma * load + 1022) / 1023 :=
  ceilDiv_succ _ 1022

/-- The channels with a property and those without it sum to all 128. -/
theorem sumChannels_add_not (p : Channel → Bool) (f : Channel → Nat) :
    sumChannels p f + sumChannels (fun c => !p c) f = ((List.finRange 128).map f).sum := by
  rw [sumChannels, sumChannels, ← List.sum_map_add]
  congr 2
  funext c
  cases p c <;> simp

/-- Raw X_own and raw S_own together are the demand of every channel and of the wall, whichever channels are
protected (R135). -/
theorem rawFixed_add_rawScalable (s : State) (target : FrameNo) : rawFixed s target + rawScalable s target =
    ((List.finRange 128).map (demandOf s target)).sum + wallDemand (demandLuma s.wall) s.image.wallFullLoad := by
  rw [rawFixed, rawScalable, ← Nat.add_assoc, sumChannels_add_not]

theorem demandLuma_of_muted {w : WallFeed} (h : w.muted = true) : demandLuma w = 0 := if_pos h

theorem demandLuma_of_live {w : WallFeed} (hmuted : w.muted = false) (h : w.frozen = true ∨ w.load ≠ .complete) :
    demandLuma w = w.liveLuma := by
  cases hfrozen : w.frozen with
  | true => simp [demandLuma, hmuted, hfrozen]
  | false => simp [demandLuma, hmuted, hfrozen, h.resolve_left (by simp [hfrozen])]

theorem demandLuma_of_complete {w : WallFeed} (hmuted : w.muted = false) (hfrozen : w.frozen = false)
    (h : w.load = .complete) : demandLuma w = w.luma := by
  simp [demandLuma, hmuted, hfrozen, h]

/-- Settles O49: the two sums by `isFixed_iff`, and their total, which does not read protection. -/
theorem protectionMovesDemand : Obligations.ProtectionMovesDemand := by
  refine ⟨fun s p g => ?_, fun w => ⟨demandLuma_of_muted, fun hmuted =>
    ⟨demandLuma_of_live hmuted, demandLuma_of_complete hmuted⟩⟩⟩
  intro fixed demand
  have hdemand : demandOf { s with protection := p } g = demand :=
    (demandOf_protection s p g).trans (funext (demandOf_eq s g))
  have hfixed (c : Channel) : isFixed { s with protection := p } c = true ↔ fixed c := isFixed_iff _ c
  refine ⟨?_, ?_, ?_⟩
  · simp only [rawFixed, sumChannels, hdemand, hfixed]
  · simp only [rawScalable, sumChannels, hdemand, Bool.not_eq_true', ← Bool.not_eq_true, hfixed, ite_not,
      wallDemand_eq]
  · rw [rawFixed_add_rawScalable, rawFixed_add_rawScalable, demandOf_protection s p]

end Sys2Proof.Machine
end

section
/-! The wall feed, operation by operation: what line errors, stored pixels, frame starts and scales make of its record
(R140 to R153). -/

namespace Sys2Proof.Machine

/-! ### Line errors (R146) -/

theorem countIf_eq (b : Bool) (c : Counter) (s : State) : countIf b c s = countN c b.toNat s := by
  cases b
  · exact (countN_zero c s).symm
  · rfl

theorem abandonLoad_eq (w : WallFeed) :
    abandonLoad w = { w with load := if w.load = .filling then .empty else w.load } := by
  unfold abandonLoad
  split <;> rfl

theorem lineError_eq (s : State) : lineError s = countIf (!s.wall.errSeen) .inputErr { s with
    wall := { s.wall with load := if s.wall.load = .filling then .empty else s.wall.load, errSeen := true } } := by
  rw [lineError, abandonLoad_eq]
  rfl

/-! ### A pixel stored (R141, R142, R145) -/

theorem setLoadBank_eq (b : Bank) (w : WallFeed) : setLoadBank b w =
    { w with bank0 := if w.live then b else w.bank0, bank1 := if w.live then w.bank1 else b } := by
  unfold setLoadBank
  split <;> rfl

theorem advancePointer_eq (i : Image) (w : WallFeed) : advancePointer i w = { w with
    pointerCol := if w.pointerCol + 1 < segmentWidth i then w.pointerCol + 1 else 0
    pointerRow := if w.pointerCol + 1 < segmentWidth i then w.pointerRow else w.pointerRow + 1 } := by
  unfold advancePointer
  split <;> rfl

theorem atLastPixel_iff {i : Image} {w : WallFeed} : atLastPixel i w = true ↔
    w.pointerCol + 1 = segmentWidth i ∧ w.pointerRow + 1 = segmentHeight i := by
  simp [atLastPixel]

/-- Everything that a stored pixel changes, field by field. -/
theorem storePixel_eq (i : Image) (p : Pixel) (w : WallFeed) : storePixel i p w =
    let g := pointerGains i w
    let q := correctPixel p g
    let stored := bankWrite (loadBank w) w.pointerCol w.pointerRow q
    { w with
      bank0 := if w.live then stored else w.bank0
      bank1 := if w.live then w.bank1 else stored
      load := if atLastPixel i w then .complete else w.load
      luma := if atLastPixel i w then (w.luma + luma q) / pixelCount i else w.luma + luma q
      pointerCol := if w.pointerCol + 1 < segmentWidth i then w.pointerCol + 1 else 0
      pointerRow := if w.pointerCol + 1 < segmentWidth i then w.pointerRow else w.pointerRow + 1
      satR := w.satR || clamps p.r g.r
      satG := w.satG || clamps p.g g.g
      satB := w.satB || clamps p.b g.b } := by
  unfold storePixel
  dsimp only
  rw [setLoadBank_eq, advancePointer_eq]
  cases atLastPixel i w <;> rfl

theorem storePixel_loadBank (i : Image) (p : Pixel) (w : WallFeed) : loadBank (storePixel i p w) =
    bankWrite (loadBank w) w.pointerCol w.pointerRow (correctPixel p (pointerGains i w)) := by
  rw [storePixel_eq]
  cases hlive : w.live <;> simp [loadBank, hlive]

theorem storePixel_liveBank (i : Image) (p : Pixel) (w : WallFeed) : liveBank (storePixel i p w) = liveBank w := by
  rw [storePixel_eq]
  cases hlive : w.live <;> simp [liveBank, hlive]

/-! ### A frame start (R147, R148, R153) -/

/-- A frame start settles no more than the mute request (R147). -/
theorem settleMute_frame (e : FrameEvent) (w : WallFeed) : settleMute e w =
    { w with muted := (settleMute e w).muted, muteRequest := (settleMute e w).muteRequest } := by
  unfold settleMute
  split
  · rfl
  · split <;> rfl

theorem settleMute_of_none {e : FrameEvent} {w : WallFeed} (h : w.muteRequest = none) : settleMute e w = w := by
  rw [settleMute, h]

theorem settleMute_of_settled {e : FrameEvent} {w : WallFeed} {r : MuteRequest} (h : w.muteRequest = some r)
    (hsettled : isBefore r.label e.frame = true ∨ e.adopted = true) :
    settleMute e w = { w with muted := r.mute, muteRequest := none } := by
  simp only [settleMute, h, Bool.or_eq_true, if_pos hsettled]

theorem settleMute_of_held {e : FrameEvent} {w : WallFeed} {r : MuteRequest} (h : w.muteRequest = some r)
    (hafter : isBefore r.label e.frame = false) (hadopted : e.adopted = false) : settleMute e w = w := by
  simp [settleMute, h, hafter, hadopted]

/-- The wall feed after the bank decision of a frame start: swapped, or as it was (R148). -/
def banksDecided (w : WallFeed) : WallFeed :=
  if w.frozen = false ∧ w.load = .complete then emptyLoad { w with live := !w.live, liveLuma := w.luma } else w

/-- How many repeats the bank decision counts (R148). -/
def repeatsCounted (w : WallFeed) : Nat := if w.frozen = false ∧ w.load ≠ .complete then 1 else 0

theorem decideBanks_eq (s : State) :
    decideBanks s = countN .repeated (repeatsCounted s.wall) { s with wall := banksDecided s.wall } := by
  unfold decideBanks repeatsCounted banksDecided
  cases hfrozen : s.wall.frozen with
  | true => simp
  | false => cases hload : s.wall.load <;> simp [count, setWall, hfrozen, hload]

theorem beginScan_eq (w : WallFeed) : beginScan w =
    { w with scan := if w.k.isSome then some w.frame else w.scan, scanOwed := w.k.isNone } := by
  unfold beginScan
  split
  next h => simp [h]
  next h => simp [h]

/-- The wall feed with a frame start's number, serial and scale (R147, R171). -/
def frameTaken (e : FrameEvent) (w : WallFeed) : WallFeed :=
  { w with
    frame := e.frame
    taken := e.serial
    k := scaleFor e.serial w.scales
    scales := laterScales e.serial w.scales }

/-- A frame start changes the wall feed and counts repeats. -/
theorem wallFrame_eq (e : FrameEvent) (s : State) : wallFrame e s = countN .repeated (repeatsCounted s.wall) { s with
    wall := beginScan (banksDecided (settleMute e (frameTaken e s.wall))) } := by
  have hrepeats : repeatsCounted (settleMute e (frameTaken e s.wall)) = repeatsCounted s.wall := by
    rw [settleMute_frame]
    rfl
  rw [← hrepeats]
  unfold wallFrame
  rw [decideBanks_eq]
  rfl

end Sys2Proof.Machine
end

section
/-! The configuration store and the wall banks stay in canonical form (R143, R181, R187, R188). -/

namespace Sys2Proof.Machine

/-! ### The configuration store (R181, R187, R188) -/

theorem breakOffBytes_wf (index : Nat) (r : RowBuffer) {m : Memory} (h : memWf m = true) :
    memWf (breakOffBytes index r m) = true := by
  refine List.foldlRecOn (motive := fun m => memWf m = true) _ _ h fun m hm i _ => ?_
  split
  · exact memWrite_wf m _ _ hm
  · exact hm

theorem breakOff_configStore_wf {s : State} (h : memWf s.configStore = true) :
    memWf (breakOff s).configStore = true := by
  unfold breakOff
  split
  · exact breakOffBytes_wf _ _ h
  · exact h

theorem rowProgrammingEnd_configStore_wf {s : State} (h : memWf s.configStore = true) :
    memWf (rowProgrammingEnd s).configStore = true := by
  unfold rowProgrammingEnd
  split
  · exact memWriteBytes_wf _ _ _ h
  · exact h

/-! ### The banks (R143) -/

/-- Both banks are in canonical form. -/
structure BanksCanonical (w : WallFeed) : Prop where
  bank0 : bankWf w.bank0 = true
  bank1 : bankWf w.bank1 = true

theorem storesCanonical_iff {s : State} :
    StoresCanonical s ↔ memWf s.configStore = true ∧ BanksCanonical s.wall :=
  ⟨fun ⟨hconfig, h0, h1⟩ => ⟨hconfig, h0, h1⟩, fun ⟨hconfig, h⟩ => ⟨hconfig, h.bank0, h.bank1⟩⟩

theorem BanksCanonical.loadBank {w : WallFeed} (h : BanksCanonical w) : bankWf (loadBank w) = true := by
  unfold Machine.loadBank
  split
  · exact h.bank0
  · exact h.bank1

/-- A restart and a good image leave both banks black (R143). -/
theorem wallAtRestart_banks (profile : Fin 4) : BanksCanonical (wallAtRestart profile) := ⟨rfl, rfl⟩

/-- What every wall operation but a stored pixel does to the banks: nothing. -/
structure BanksKept (w w' : WallFeed) : Prop where
  bank0 : w'.bank0 = w.bank0
  bank1 : w'.bank1 = w.bank1

theorem BanksKept.canonical {w w' : WallFeed} (h : BanksKept w w') (hw : BanksCanonical w) : BanksCanonical w' :=
  ⟨h.bank0 ▸ hw.bank0, h.bank1 ▸ hw.bank1⟩

theorem BanksKept.refl (w : WallFeed) : BanksKept w w := ⟨rfl, rfl⟩

theorem BanksKept.trans {w w' w'' : WallFeed} (h : BanksKept w w') (h' : BanksKept w' w'') : BanksKept w w'' :=
  ⟨h'.bank0.trans h.bank0, h'.bank1.trans h.bank1⟩

theorem BanksKept.after {f : State → State} (h : ∀ x, BanksKept x.wall (f x).wall) {s s' : State}
    (hs : s'.wall = s.wall) : BanksKept s.wall (f s').wall := hs ▸ h s'

theorem lineError_banksKept (s : State) : BanksKept s.wall (lineError s).wall := by
  rw [lineError_eq, countIf_wall]
  exact ⟨rfl, rfl⟩

theorem rasterFrameStart_banksKept (s : State) : BanksKept s.wall (rasterFrameStart s).wall := by
  unfold rasterFrameStart
  dsimp only
  (repeat' split) <;> exact ⟨rfl, rfl⟩

theorem lineMarker_banksKept (s : State) : BanksKept s.wall (lineMarker s).wall := by
  unfold lineMarker
  split
  · dsimp only
    split
    · exact (lineError_banksKept s).trans ⟨rfl, rfl⟩
    · exact ⟨rfl, rfl⟩
  · exact .refl _

theorem codeError_banksKept (s : State) : BanksKept s.wall (codeError s).wall := by
  unfold codeError
  split
  · exact lineError_banksKept s
  · exact .refl _

theorem settleMute_banksKept (e : FrameEvent) (w : WallFeed) : BanksKept w (settleMute e w) := by
  rw [settleMute_frame]
  exact ⟨rfl, rfl⟩

theorem banksDecided_banksKept (w : WallFeed) : BanksKept w (banksDecided w) := by
  unfold banksDecided
  split <;> exact ⟨rfl, rfl⟩

theorem beginScan_banksKept (w : WallFeed) : BanksKept w (beginScan w) := by
  rw [beginScan_eq]
  exact ⟨rfl, rfl⟩

theorem wallFrame_banksKept (e : FrameEvent) (s : State) : BanksKept s.wall (wallFrame e s).wall := by
  rw [wallFrame_eq, countN_wall]
  have htaken : BanksKept s.wall (frameTaken e s.wall) := ⟨rfl, rfl⟩
  exact htaken.trans <| (settleMute_banksKept e _).trans <| (banksDecided_banksKept _).trans (beginScan_banksKept _)

theorem wallFrameStart_banksKept (s : State) : BanksKept s.wall (wallFrameStart s).wall := by
  unfold wallFrameStart
  split
  · exact .refl _
  · dsimp only
    split
    · exact ⟨rfl, rfl⟩
    · exact .after (wallFrame_banksKept _) rfl

theorem scaleArrivalWall_banksKept (s : State) : BanksKept s.wall (scaleArrivalWall s).wall := by
  unfold scaleArrivalWall
  split
  · exact .refl _
  · simp only [beginScan_eq]
    (repeat' split) <;> exact ⟨rfl, rfl⟩

theorem scanEnd_banksKept (s : State) : BanksKept s.wall (scanEnd s).wall := by
  unfold scanEnd
  split
  · exact .refl _
  · dsimp only
    split
    · exact ⟨rfl, rfl⟩
    · refine .trans ?_ (wallFrame_banksKept _ _)
      exact ⟨rfl, rfl⟩

theorem runNoticeWall_banksKept (s : State) : BanksKept s.wall (runNoticeWall s).wall := by
  unfold runNoticeWall
  split
  · exact .refl _
  · rw [setWall_wall]
    split <;> exact ⟨rfl, rfl⟩

theorem takeProfile_banksKept (b : Byte) (s : State) : BanksKept s.wall (takeProfile b s).wall := by
  unfold takeProfile
  split <;> exact ⟨rfl, rfl⟩

theorem freezeWall_banksKept (w : WallFeed) : BanksKept w (freezeWall w) := by
  unfold freezeWall
  split <;> exact ⟨rfl, rfl⟩

theorem takeWallAction_banksKept (a : WallAction) (s : State) : BanksKept s.wall (takeWallAction a s).wall := by
  unfold takeWallAction
  split
  · exact .refl _
  · split
    case h_1 => exact freezeWall_banksKept _
    case h_5 => exact takeProfile_banksKept _ s
    all_goals exact ⟨rfl, rfl⟩

theorem nextWallAction_banksKept (kind : CueAction → Bool) (s : State) :
    BanksKept s.wall (nextWallAction kind s).wall := by
  unfold nextWallAction
  split
  · exact .refl _
  · split
    · exact .after (takeWallAction_banksKept _) rfl
    · exact .refl _

theorem wallProfile_banksKept (origin : Origin) (s : State) : BanksKept s.wall (wallProfile origin s).wall := by
  cases origin with
  | cueList => exact nextWallAction_banksKept _ s
  | lookMachine =>
    change BanksKept s.wall (lookProfile s).wall
    unfold lookProfile
    split
    · exact .refl _
    · dsimp only
      split
      · exact .refl _
      · exact .after (takeProfile_banksKept _) rfl

theorem wallAtSafe_banksKept (w : WallFeed) : BanksKept w (wallAtSafe w) := by
  rw [wallAtSafe_eq]
  exact ⟨rfl, rfl⟩

/-- A stored pixel writes the LOAD bank alone, by a bank write (R145). -/
theorem storePixel_banks (i : Image) (p : Pixel) {w : WallFeed} (h : BanksCanonical w) :
    BanksCanonical (storePixel i p w) := by
  have hstored := bankWrite_wf _ w.pointerCol w.pointerRow (correctPixel p (pointerGains i w)) h.loadBank
  rw [storePixel_eq]
  cases hlive : w.live
  · exact ⟨by simpa using h.bank0, by simpa using hstored⟩
  · exact ⟨by simpa using hstored, by simpa using h.bank1⟩

theorem rasterPixel_banks (p : Pixel) {s : State} (h : BanksCanonical s.wall) :
    BanksCanonical (rasterPixel p s).wall := by
  have herror := (lineError_banksKept s).canonical h
  unfold rasterPixel takePixel
  split
  next =>
    dsimp only
    split
    · exact ⟨herror.bank0, herror.bank1⟩
    · split
      · exact ⟨herror.bank0, herror.bank1⟩
      · split
        · have hstored := storePixel_banks s.image p h
          exact ⟨hstored.bank0, hstored.bank1⟩
        · exact ⟨h.bank0, h.bank1⟩
  next => exact h

/-! ### Restart, LOADING and SAFE (R143, R180, R181, R185) -/

theorem enterSafe_stores (cause : SafeCause) (failed : Option Nat) {s : State} (hs : StoresCanonical s) :
    StoresCanonical (enterSafe cause failed s) := by
  obtain ⟨hconfig, hbanks⟩ := storesCanonical_iff.1 hs
  exact storesCanonical_iff.2 ⟨hconfig, (wallAtSafe_banksKept s.wall).canonical hbanks⟩

theorem powerOn_stores (pins : Pins) {s : State} (hs : StoresCanonical s) : StoresCanonical (powerOn pins s) :=
  storesCanonical_iff.2 ⟨breakOff_configStore_wf hs.1, wallAtRestart_banks 0⟩

theorem powerLoss_stores {s : State} (hs : StoresCanonical s) : StoresCanonical (powerLoss s) :=
  storesCanonical_iff.2 ⟨breakOff_configStore_wf hs.1, wallAtRestart_banks 0⟩

theorem resetPinAssertion_stores {s : State} (hs : StoresCanonical s) : StoresCanonical (resetPinAssertion s) := by
  unfold resetPinAssertion
  dsimp only
  split
  · exact storesCanonical_iff.2 ⟨breakOff_configStore_wf hs.1, wallAtRestart_banks 0⟩
  · exact hs

theorem resetPinDeassertion_stores (straps : Straps) {s : State} (hs : StoresCanonical s) :
    StoresCanonical (resetPinDeassertion straps s) := by
  unfold resetPinDeassertion
  dsimp only
  split
  · split
    · exact storesCanonical_iff.2 ⟨hs.1, wallAtRestart_banks 0⟩
    · exact hs
  · exact hs

theorem arrayQuiet_stores (straps : Straps) {s : State} (hs : StoresCanonical s) :
    StoresCanonical (arrayQuiet straps s) := by
  unfold arrayQuiet
  split
  · split
    · unfold restartByMessage
      dsimp only
      split <;> exact storesCanonical_iff.2 ⟨hs.1, wallAtRestart_banks 0⟩
    · exact hs
  · exact hs

theorem strapChange_stores (strap : Fin 5) {s : State} (hs : StoresCanonical s) :
    StoresCanonical (strapChange strap s) := by
  obtain h | h := strapChange_cases strap s
  · rw [h]
    exact enterSafe_stores _ _ hs
  · rwa [h]

theorem loadingEnd_stores (now : Nanos) {s : State} (hs : StoresCanonical s) :
    StoresCanonical (loadingEnd now s) := by
  obtain ⟨cause, failed, h⟩ | h | h := loadingEnd_cases now s
  · rw [h]
    exact enterSafe_stores _ _ (storesCanonical_iff.2 ⟨hs.1, wallAtRestart_banks 0⟩)
  · rw [h]
    exact storesCanonical_iff.2 ⟨hs.1, wallAtRestart_banks _⟩
  · rwa [h]

/-! ### Commands -/

theorem StoresCanonical.of_kept {s t : State} (hs : StoresCanonical s) (hconfig : t.configStore = s.configStore)
    (hbanks : BanksKept s.wall t.wall) : StoresCanonical t := by
  obtain ⟨hwf, hcanonical⟩ := storesCanonical_iff.1 hs
  exact storesCanonical_iff.2 ⟨hconfig ▸ hwf, hbanks.canonical hcanonical⟩

theorem StoresCanonical.of_eq {s t : State} (hs : StoresCanonical s) (hconfig : t.configStore = s.configStore)
    (hwall : t.wall = s.wall) : StoresCanonical t :=
  hs.of_kept hconfig (hwall ▸ .refl s.wall)

/-- Every command keeps the stores in canonical form: those of supply, RESET, LOADING, SAFE, the setup port's row and
the wall feed one by one, and the rest by their frames. -/
theorem exec_keeps_storesCanonical {c : Instr} {s t : State} (hs : StoresCanonical s) (h : exec c s = .next t) :
    StoresCanonical t := by
  obtain ⟨hconfig, hbanks⟩ := storesCanonical_iff.1 hs
  cases c
  case powerOn pins => cases h; exact powerOn_stores pins hs
  case powerLoss => cases h; exact powerLoss_stores hs
  case resetPinAssertion => cases h; exact resetPinAssertion_stores hs
  case resetPinDeassertion straps => cases h; exact resetPinDeassertion_stores straps hs
  case arrayQuiet straps => cases h; exact arrayQuiet_stores straps hs
  case loadingEnd now => cases h; exact loadingEnd_stores now hs
  case strapChange strap => cases h; exact strapChange_stores strap hs
  case rowProgrammingEnd =>
    cases h
    exact storesCanonical_iff.2 ⟨rowProgrammingEnd_configStore_wf hconfig, by simpa using hbanks⟩
  case rasterPixel p =>
    cases h
    exact storesCanonical_iff.2 ⟨by simpa using hconfig, rasterPixel_banks p hbanks⟩
  case rasterFrameStart => cases h; exact hs.of_kept (by simp) (rasterFrameStart_banksKept s)
  case lineMarker => cases h; exact hs.of_kept (by simp) (lineMarker_banksKept s)
  case codeError => cases h; exact hs.of_kept (by simp) (codeError_banksKept s)
  case wallFrameStart => cases h; exact hs.of_kept (by simp) (wallFrameStart_banksKept s)
  case scaleArrivalWall => cases h; exact hs.of_kept (by simp) (scaleArrivalWall_banksKept s)
  case scanEnd => cases h; exact hs.of_kept (by simp) (scanEnd_banksKept s)
  case runNoticeWall => cases h; exact hs.of_kept (by simp) (runNoticeWall_banksKept s)
  case wallFreeze | wallRun | wallMute | wallUnmute =>
    cases h
    exact hs.of_kept (by simp) (nextWallAction_banksKept _ s)
  case wallProfile origin => cases h; exact hs.of_kept (by simp) (wallProfile_banksKept origin s)
  all_goals
    cases h
    refine hs.of_eq ?_ ?_
    · simp [apply_ite State.configStore]
    · simp [apply_ite State.wall]

/-- Settles O3: what each command keeps of the configuration store and the banks. -/
theorem stepKeepsStoresCanonical : Obligations.StepKeepsStoresCanonical := fun s _ hs h =>
  step_induction h hs fun _ rest hexec => exec_keeps_storesCanonical (s := { s with pending := rest }) hs hexec

end Sys2Proof.Machine
end

section
/-! Raster symbols: frame starts, line markers and code errors (R140, R144, R146), and the pixels that fill the load
(R140 to R142, R145). -/

namespace Sys2Proof.Machine

/-! ### Raster frame starts (R140, R144) -/

section
variable {s : State} (htakes : takesRaster s = true)
include htakes

theorem rasterFrameStart_of_frozen (h : s.wall.frozen = true) : rasterFrameStart s = { s with
    wall := { s.wall with raster := some { row := none, column := 0 }, errSeen := false } } := by
  simp [rasterFrameStart, htakes, h, setWall]

/-- Outside a freeze the load state decides: a load begins, or the frame is dropped. -/
theorem rasterFrameStart_of_running (h : s.wall.frozen = false) :
    let fresh : WallFeed := { s.wall with raster := some { row := none, column := 0 }, errSeen := false }
    rasterFrameStart s = match s.wall.load with
      | .empty => { s with wall := beginLoad fresh }
      | .filling => count .inputShort { s with wall := beginLoad fresh }
      | .complete => count .inputDrop { s with wall := fresh } := by
  simp only [rasterFrameStart, htakes, h, Bool.true_eq_false, Bool.false_eq_true, if_false]
  rfl

/-! ### Line markers and code errors (R140, R146) -/

theorem codeError_of_takes : codeError s = lineError s := if_pos htakes

theorem lineMarker_of_good {p : RasterPosition} (h : s.wall.raster = some p)
    (hgood : ¬ markerError s.image p = true) : lineMarker s = { s with
      wall := { s.wall with raster := some { row := some (nextRow p), column := 0 } } } := by
  simp only [lineMarker, htakes, h, if_neg hgood]
  rfl

theorem lineMarker_of_error {p : RasterPosition} (h : s.wall.raster = some p)
    (herror : markerError s.image p = true) : lineMarker s = { lineError s with
      wall := { (lineError s).wall with raster := some { row := some (nextRow p), column := 0 } } } := by
  simp only [lineMarker, htakes, h, if_pos herror]
  rfl

end

theorem markerError_iff {i : Image} {p : RasterPosition} : markerError i p = true ↔
    (p.row ≠ none ∧ p.column < i.rasterColumns) ∨ i.rasterRows ≤ nextRow p := by
  simp [markerError, Option.isSome_iff_ne_none]

/-- Settles O42: a frame start by the load state, a marker by its line error, a code error as one. -/
theorem rasterMarkersAndErrors : Obligations.RasterMarkersAndErrors := by
  intro s htakes fresh erred begun
  have herred : lineError s = erred := lineError_eq s
  refine ⟨fun hfrozen => congrArg Host.Outcome.next (rasterFrameStart_of_frozen htakes hfrozen),
    fun hrunning => ?_, fun p hp => ?_, congrArg Host.Outcome.next ((codeError_of_takes htakes).trans herred)⟩
  · have hstart := rasterFrameStart_of_running htakes hrunning
    refine ⟨fun hload => ?_, fun hload => ?_, fun hload => ?_⟩ <;>
      · rw [hload] at hstart
        exact congrArg Host.Outcome.next hstart
  · obtain ⟨row, column⟩ := p
    intro next bad
    have hnext : next = { row := some (nextRow { row := row, column := column }), column := 0 } := by
      cases row <;> rfl
    have hbad : markerError s.image { row := row, column := column } = true ↔ bad := by
      rw [markerError_iff]
      cases row <;> rfl
    rw [hnext, ← herred]
    exact ⟨fun hgood => congrArg Host.Outcome.next (lineMarker_of_good htakes hp (hbad.not.2 hgood)),
      fun herror => congrArg Host.Outcome.next (lineMarker_of_error htakes hp (hbad.2 herror))⟩

/-! ### Raster pixels (R140 to R142, R145) -/

/-- Where a raster pixel ends: a line error, a pixel that passes, or one stored (R140, R145). -/
theorem rasterPixel_eq {s : State} {row : Option Nat} {col : Nat} (p : Pixel) (htakes : takesRaster s = true)
    (h : s.wall.raster = some { row := row, column := col }) :
    let s' := match row with
      | none => lineError s
      | some r => if s.image.rasterColumns ≤ col then lineError s else takePixel p col r s
    rasterPixel p s = { s' with wall := { s'.wall with raster := some { row := row, column := col + 1 } } } := by
  simp only [rasterPixel, htakes, h]
  rfl

section
variable {s : State} {row : Option Nat} {col : Nat} (p : Pixel) (htakes : takesRaster s = true)
  (h : s.wall.raster = some { row := row, column := col })
include htakes h

/-- Before the first line marker or past the last column: a line error (R140, R146). -/
theorem rasterPixel_of_error (herror : row = none ∨ s.image.rasterColumns ≤ col) :
    rasterPixel p s = countN .inputErr (!s.wall.errSeen).toNat { s with wall := { s.wall with
      load := if s.wall.load = .filling then .empty else s.wall.load
      errSeen := true
      raster := some { row := row, column := col + 1 } } } := by
  rw [rasterPixel_eq p htakes h]
  cases row with
  | none => rw [lineError_eq, countIf_eq]; rfl
  | some r =>
    have hpast := herror.resolve_left (Option.some_ne_none r)
    simp only [if_pos hpast]
    rw [lineError_eq, countIf_eq]
    rfl

/-- In a line, a pixel that is no window pixel of a FILLING load moves the column alone. -/
theorem rasterPixel_of_passed {r : Nat} (hrow : row = some r) (hcol : col < s.image.rasterColumns)
    (hpass : s.wall.load ≠ .filling ∨ inWindow s.image col r = false) : rasterPixel p s = { s with
      wall := { s.wall with raster := some { row := row, column := col + 1 } } } := by
  subst hrow
  have hkept : takePixel p col r s = s := if_neg fun ⟨hload, hwindow⟩ =>
    hpass.elim (· hload) (by simp [hwindow])
  rw [rasterPixel_eq p htakes h]
  simp only [if_neg hcol.not_ge, hkept]

/-- A window pixel of a FILLING load is stored, and first clamps are counted. -/
theorem rasterPixel_of_stored {r : Nat} (hrow : row = some r) (hcol : col < s.image.rasterColumns)
    (hload : s.wall.load = .filling) (hwindow : inWindow s.image col r = true) :
    rasterPixel p s = countN .gainSat (firstClamps p (pointerGains s.image s.wall) s.wall) { s with
      wall := { storePixel s.image p s.wall with raster := some { row := row, column := col + 1 } } } := by
  subst hrow
  have htaken : takePixel p col r s = countN .gainSat (firstClamps p (pointerGains s.image s.wall) s.wall)
      { s with wall := storePixel s.image p s.wall } := if_pos ⟨hload, hwindow⟩
  rw [rasterPixel_eq p htakes h]
  simp only [if_neg hcol.not_ge, htaken]
  rfl

/-- Whatever a pixel does, it moves the column, and changes the wall feed and two counters alone. -/
theorem rasterPixel_frame :
    (rasterPixel p s).wall.raster = some { row := row, column := col + 1 } ∧
    rasterPixel p s = { s with wall := (rasterPixel p s).wall, counters := (rasterPixel p s).counters } ∧
    ∀ x : Counter, x ≠ .inputErr → x ≠ .gainSat → counterOf (rasterPixel p s) x = counterOf s x := by
  by_cases herror : row = none ∨ s.image.rasterColumns ≤ col
  · rw [rasterPixel_of_error p htakes h herror]
    exact ⟨rfl, rfl, fun x hx _ => counterOf_countN_ne hx _ _⟩
  · obtain ⟨hrow, hcol⟩ := not_or.1 herror
    obtain ⟨r, hr⟩ := Option.ne_none_iff_exists'.1 hrow
    by_cases hstored : s.wall.load = .filling ∧ inWindow s.image col r = true
    · rw [rasterPixel_of_stored p htakes h hr (not_le.1 hcol) hstored.1 hstored.2]
      exact ⟨rfl, rfl, fun x _ hx => counterOf_countN_ne hx _ _⟩
    · rw [rasterPixel_of_passed p htakes h hr (not_le.1 hcol) (by simpa [imp_iff_not_or] using hstored)]
      exact ⟨rfl, rfl, fun x _ _ => rfl⟩

end

/-- One count for each component that clamps for the first time (R141). -/
theorem firstClamps_eq (p : Pixel) (g : Gains) (w : WallFeed) : firstClamps p g w =
    (if w.satR = false ∧ clamps p.r g.r = true then 1 else 0) +
    (if w.satG = false ∧ clamps p.g g.g = true then 1 else 0) +
    (if w.satB = false ∧ clamps p.b g.b = true then 1 else 0) := by
  have hcount (a b : Bool) : (!a && b).toNat = if a = false ∧ b = true then 1 else 0 := by
    cases a <;> cases b <;> rfl
  simp only [firstClamps, hcount]

/-- The count of a condition that is not met before. -/
theorem saturatingAdd_toNat_not (c : BitVec 16) (b : Bool) :
    saturatingAdd c (!b).toNat = if b then c else saturatingAdd c 1 := by
  cases b
  · rfl
  · exact saturatingAdd_zero c

/-- Settles O43: a line error, a pixel that passes or a pixel stored, each from its law. -/
theorem pixelsFillTheLoad : Obligations.PixelsFillTheLoad := by
  intro s p row col htakes h
  obtain ⟨hraster, hframe, hcounters⟩ := rasterPixel_frame p htakes h
  refine ⟨rasterPixel p s, rfl, hraster, hframe, hcounters, fun herror => ?_, fun r hrow hcol =>
    ⟨rasterPixel_of_passed p htakes h hrow hcol, fun hload hwindow => ?_⟩, fun herror => ?_⟩
  · rw [rasterPixel_of_error p htakes h herror]
    refine ⟨rfl, fun hload => if_pos hload, ?_⟩
    rw [counterOf_countN_self, saturatingAdd_toNat_not]
    rfl
  · have hlast := atLastPixel_iff (i := s.image) (w := s.wall)
    rw [rasterPixel_of_stored p htakes h hrow hcol hload hwindow, countN_wall]
    refine ⟨storePixel_loadBank _ p s.wall, storePixel_liveBank _ p s.wall, ?_⟩
    rw [counterOf_countN_self, firstClamps_eq, storePixel_eq]
    exact ⟨fun hend => ⟨if_pos (hlast.2 hend), if_pos (hlast.2 hend)⟩,
      fun hmore => ⟨(if_neg (hlast.not.2 hmore)).trans hload, if_neg (hlast.not.2 hmore)⟩,
      fun hline => ⟨if_pos hline, if_pos hline⟩,
      fun hend => ⟨if_neg (not_lt.2 hend), if_neg (not_lt.2 hend)⟩,
      ⟨rfl, rfl, rfl, rfl⟩, counterOf_countN_ne (by decide) _ _, rfl⟩
  · rw [rasterPixel_of_error p htakes h herror]
    refine ⟨counterOf_countN_ne (by decide) _ _, ?_⟩
    cases s.wall.load <;> rfl

end Sys2Proof.Machine
end

section
/-! What the panel links carry: stored components and luma (R141, R142), panel pixels, and the rows of each link (R139,
R153). -/

namespace Sys2Proof.Machine

/-! ### Stored components and luma (R141, R142) -/

theorem correct_toNat (c : BitVec 10) (g : BitVec 16) :
    (correct c g).toNat = min 1023 ((c.toNat * g.toNat + 16384) / 32768) := by
  rw [correct, gainProduct, BitVec.toNat_ofNat]
  omega

/-- At gain 1.0 a component is stored as it is. -/
theorem correct_unity (c : BitVec 10) : correct c 32768 = c := by
  have hlt := c.isLt
  have hunity : (32768 : BitVec 16).toNat = 32768 := rfl
  refine BitVec.eq_of_toNat_eq ?_
  rw [correct_toNat, hunity]
  omega

theorem correct_zero (c : BitVec 10) : correct c 0 = 0 := by
  refine BitVec.eq_of_toNat_eq ?_
  rw [correct_toNat]
  simp

/-- The weights sum to 256, so the luma is no more than the largest component. -/
theorem luma_le (p : Pixel) : luma p ≤ 1023 := by
  have hr := p.r.isLt
  have hg := p.g.isLt
  have hb := p.b.isLt
  rw [luma]
  omega

/-! ### Panel pixels (R153) -/

/-- A component is no larger scaled: as a level, it obeys R88's bound. -/
theorem component_scaled_le {k : Nat} (hk : k ≤ 32768) (c : BitVec 10) : c.toNat * k / 32768 ≤ c.toNat := by
  have hle := scaled_le (c.setWidth 16) hk
  rwa [BitVec.toNat_setWidth_of_le (by decide)] at hle

theorem scaleComponent_toNat {k : Nat} (hk : k ≤ 32768) (c : BitVec 10) :
    (scaleComponent k c).toNat = c.toNat * k / 32768 := by
  have hle := component_scaled_le hk c
  have hlt := c.isLt
  rw [scaleComponent, BitVec.toNat_ofNat, Nat.mod_eq_of_lt (by omega)]

theorem scaleComponent_toNat_le {k : Nat} (hk : k ≤ 32768) (c : BitVec 10) :
    (scaleComponent k c).toNat ≤ c.toNat :=
  (scaleComponent_toNat hk c).trans_le (component_scaled_le hk c)

theorem panelPixel_of_muted {w : WallFeed} (h : w.muted = true) (col row : Nat) : panelPixel w col row = black := by
  unfold panelPixel
  split
  · simp [h]
  · rfl

/-- In a scan of an ENABLED, unmuted panel output each component is scaled by k. -/
theorem panelPixel_of_scan {w : WallFeed} {k : Nat} (hk : w.k = some k) (henabled : w.enabled = true)
    (hmuted : w.muted = false) (hscan : w.scan ≠ none) (col row : Nat) :
    let p := bankRead (liveBank w) col row
    panelPixel w col row = { r := scaleComponent k p.r, g := scaleComponent k p.g, b := scaleComponent k p.b } := by
  obtain ⟨f, hf⟩ := Option.ne_none_iff_exists'.1 hscan
  simp [panelPixel, hf, hk, henabled, hmuted]

/-! ### The rows of a link (R139, R153) -/

/-- A link with no rows is past the panel rows. -/
theorem lt_panelRows_iff (i : Image) (n : Nat) : n < panelRows i ↔ 64 * n < segmentHeight i := by
  rw [panelRows]
  omega

/-- The rows of link r: 64 of them from 64 r, or as many as the segment has from there. -/
theorem panelLinkRows_eq (i : Image) (r : Fin 9) :
    panelLinkRows i r = List.range' (64 * r.val) (min 64 (segmentHeight i - 64 * r.val)) := by
  have hfilter : (panelLinkRows i r).SortedLT :=
    (List.Pairwise.filter _ (List.sortedLT_range (segmentHeight i)).pairwise).sortedLT
  refine hfilter.eq_of_mem_iff (List.sortedLT_range' _ _ (by decide)) fun row => ?_
  rw [panelLinkRows, List.mem_filter, List.mem_range, List.mem_range'_1, beq_iff_eq]
  omega

theorem panelRow_length (s : State) (row : Nat) : (panelRow s row).length = segmentWidth s.image := by
  simp [panelRow]

theorem panelRow_getElem {s : State} {row col : Nat} {q : Pixel} (h : (panelRow s row)[col]? = some q) :
    q = panelPixel s.wall col row := by
  obtain ⟨hcol, rfl⟩ := List.getElem?_eq_some_iff.1 h
  simp [panelRow]

theorem panelLink_of_scan {s : State} {link : Fin 9} {f : FrameNo} (hscan : s.wall.scan = some f)
    (hrows : 64 * link.val < segmentHeight s.image) :
    panelLink s link = .scanFrame f ((panelLinkRows s.image link).map (panelRow s)) := by
  rw [panelLink, hscan]
  exact if_pos ((lt_panelRows_iff _ _).2 hrows)

theorem panelLink_of_black {s : State} {link : Fin 9}
    (h : s.wall.scan = none ∨ segmentHeight s.image ≤ 64 * link.val) : panelLink s link = .black := by
  unfold panelLink
  split
  next hscan =>
    have hpast := h.resolve_left (by simp [hscan])
    exact if_neg ((lt_panelRows_iff _ _).not.2 (not_lt.2 hpast))
  next => rfl

/-- Settles O44: the component's bounds, the panel pixel by what blacks it, and the link's rows as a range. -/
theorem pixelArithmetic : Obligations.PixelArithmetic := by
  refine ⟨⟨correct_toNat, fun c => ⟨correct_unity c, correct_zero c⟩, fun p => ⟨rfl, luma_le p⟩⟩,
    fun w col row k hk hheld => ⟨fun hblack => ?_, fun henabled hmuted hscan => ?_⟩,
    fun s link => ⟨panelLink_of_black, fun f hscan hrows => ⟨_, panelLink_of_scan hscan hrows, ?_, ?_⟩⟩⟩
  · obtain hdark | hmuted | hscan := hblack
    · exact panelPixel_of_disabled hdark col row
    · exact panelPixel_of_muted hmuted col row
    · exact panelPixel_of_no_scan hscan col row
  · intro p q
    have hq : q = { r := scaleComponent k p.r, g := scaleComponent k p.g, b := scaleComponent k p.b } :=
      panelPixel_of_scan hheld henabled hmuted hscan col row
    rw [hq]
    exact ⟨scaleComponent_toNat hk _, scaleComponent_toNat hk _, scaleComponent_toNat hk _,
      scaleComponent_toNat_le hk _, scaleComponent_toNat_le hk _, scaleComponent_toNat_le hk _⟩
  · simp [panelLinkRows_eq]
  · intro i row hrow
    rw [panelLinkRows_eq, List.getElem?_map, Option.map_eq_some_iff] at hrow
    obtain ⟨n, hn, rfl⟩ := hrow
    obtain ⟨hi, rfl⟩ := List.getElem?_eq_some_iff.1 hn
    rw [List.getElem_range', Nat.one_mul]
    exact ⟨panelRow_length s _, fun col q => panelRow_getElem⟩

end Sys2Proof.Machine
end

section
/-! Frame starts at the wall feed: the mute request, the swap or repeat of the banks and the scan (R147, R148, R153). -/

namespace Sys2Proof.Machine

/-! ### The scan of the frame before (R153) -/

theorem scanPending_iff {w : WallFeed} :
    scanPending w = true ↔ w.scan ≠ none ∨ w.scanOwed = true ∨ w.waiting ≠ [] := by
  simp [scanPending, Option.isSome_iff_ne_none, or_assoc]

section
variable {s : State} {e : FrameEvent} {es : List FrameEvent} (h : s.transit.wallFrames = e :: es)
include h

theorem wallFrameStart_of_pending (hpending : scanPending s.wall = true) : wallFrameStart s = { s with
    wall := { s.wall with waiting := s.wall.waiting ++ [e] }
    transit := { s.transit with wallFrames := es } } := by
  simp only [wallFrameStart, h, if_pos hpending]
  rfl

theorem wallFrameStart_of_ended (hscan : s.wall.scan = none) (howed : s.wall.scanOwed = false)
    (hwaiting : s.wall.waiting = []) :
    wallFrameStart s = wallFrame e { s with transit := { s.transit with wallFrames := es } } := by
  have hended : ¬ scanPending s.wall = true := by simp [scanPending_iff, hscan, howed, hwaiting]
  simp only [wallFrameStart, h, if_neg hended]

end

/-! ### The wall feed after a frame start -/

theorem banksDecided_of_swap {w : WallFeed} (hfrozen : w.frozen = false) (hload : w.load = .complete) :
    banksDecided w = emptyLoad { w with live := !w.live, liveLuma := w.luma } := if_pos ⟨hfrozen, hload⟩

theorem banksDecided_of_stay {w : WallFeed} (h : w.frozen = true ∨ w.load ≠ .complete) : banksDecided w = w :=
  if_neg fun ⟨hfrozen, hload⟩ => h.elim (by simp [hfrozen]) (· hload)

/-- The bank decision leaves every field of the wall feed that is not of a bank or of the load. -/
theorem banksDecided_frame (w : WallFeed) : banksDecided w = { w with
    live := (banksDecided w).live, liveLuma := (banksDecided w).liveLuma, load := (banksDecided w).load
    luma := (banksDecided w).luma, satR := (banksDecided w).satR, satG := (banksDecided w).satG
    satB := (banksDecided w).satB, pointerCol := (banksDecided w).pointerCol
    pointerRow := (banksDecided w).pointerRow } := by
  unfold banksDecided
  split <;> rfl

/-- The wall feed after the frame start `e`. -/
def wallAfter (e : FrameEvent) (w : WallFeed) : WallFeed :=
  beginScan (banksDecided (settleMute e (frameTaken e w)))

theorem wallFrame_wall (e : FrameEvent) (s : State) : (wallFrame e s).wall = wallAfter e s.wall := by
  rw [wallFrame_eq]
  rfl

/-- Which fields a frame start may change. -/
theorem wallAfter_frame (e : FrameEvent) (w : WallFeed) : wallAfter e w = { w with
    frame := e.frame, taken := e.serial, k := scaleFor e.serial w.scales, scales := laterScales e.serial w.scales
    live := (wallAfter e w).live, liveLuma := (wallAfter e w).liveLuma, load := (wallAfter e w).load
    luma := (wallAfter e w).luma, satR := (wallAfter e w).satR, satG := (wallAfter e w).satG
    satB := (wallAfter e w).satB, pointerCol := (wallAfter e w).pointerCol
    pointerRow := (wallAfter e w).pointerRow
    muted := (wallAfter e w).muted, muteRequest := (wallAfter e w).muteRequest
    scan := (wallAfter e w).scan, scanOwed := (wallAfter e w).scanOwed } := by
  rw [wallAfter, beginScan_eq, settleMute_frame, banksDecided_frame]
  rfl

theorem wallAfter_scan (e : FrameEvent) (w : WallFeed) :
    (wallAfter e w).scan = (if (scaleFor e.serial w.scales).isSome then some e.frame else w.scan) ∧
    (wallAfter e w).scanOwed = (scaleFor e.serial w.scales).isNone := by
  rw [wallAfter, beginScan_eq, settleMute_frame, banksDecided_frame]
  exact ⟨rfl, rfl⟩

theorem wallAfter_mute (e : FrameEvent) (w : WallFeed) :
    (wallAfter e w).muted = (settleMute e (frameTaken e w)).muted ∧
    (wallAfter e w).muteRequest = (settleMute e (frameTaken e w)).muteRequest := by
  rw [wallAfter, beginScan_eq, banksDecided_frame]
  exact ⟨rfl, rfl⟩

theorem settled_frozen (e : FrameEvent) (w : WallFeed) : (settleMute e (frameTaken e w)).frozen = w.frozen := by
  rw [settleMute_frame]
  rfl

theorem settled_load (e : FrameEvent) (w : WallFeed) : (settleMute e (frameTaken e w)).load = w.load := by
  rw [settleMute_frame]
  rfl

/-- Outside a freeze a COMPLETE load becomes LIVE, and the LOAD state is emptied (R148). -/
theorem wallAfter_of_swap {w : WallFeed} (e : FrameEvent) (hfrozen : w.frozen = false) (hload : w.load = .complete) :
    let w' := wallAfter e w
    w'.live = !w.live ∧ w'.liveLuma = w.luma ∧ w'.load = .empty ∧ w'.luma = 0 ∧ w'.satR = false ∧ w'.satG = false ∧
    w'.satB = false ∧ w'.pointerCol = 0 ∧ w'.pointerRow = 0 := by
  rw [← settled_frozen e] at hfrozen
  rw [← settled_load e] at hload
  rw [wallAfter, beginScan_eq, banksDecided_of_swap hfrozen hload, settleMute_frame]
  exact ⟨rfl, rfl, rfl, rfl, rfl, rfl, rfl, rfl, rfl⟩

/-- A freeze, or a load that is not COMPLETE, leaves the banks and the load as they are (R148). -/
theorem wallAfter_of_stay {w : WallFeed} (e : FrameEvent) (h : w.frozen = true ∨ w.load ≠ .complete) :
    let w' := wallAfter e w
    w'.live = w.live ∧ w'.liveLuma = w.liveLuma ∧ w'.load = w.load ∧ w'.luma = w.luma ∧ w'.satR = w.satR ∧
    w'.satG = w.satG ∧ w'.satB = w.satB ∧ w'.pointerCol = w.pointerCol ∧ w'.pointerRow = w.pointerRow := by
  rw [← settled_frozen e, ← settled_load e] at h
  rw [wallAfter, beginScan_eq, banksDecided_of_stay h, settleMute_frame]
  exact ⟨rfl, rfl, rfl, rfl, rfl, rfl, rfl, rfl, rfl⟩

theorem counterOf_repeated_wallFrame (e : FrameEvent) (s : State) : counterOf (wallFrame e s) .repeated =
    saturatingAdd (counterOf s .repeated) (repeatsCounted s.wall) := by
  rw [wallFrame_eq, counterOf_countN_self]
  rfl

theorem repeatsCounted_of_swap {w : WallFeed} (hload : w.load = .complete) : repeatsCounted w = 0 :=
  if_neg fun h => h.2 hload

theorem repeatsCounted_of_stay {w : WallFeed} (h : w.frozen = true ∨ w.load ≠ .complete) :
    repeatsCounted w = (!w.frozen).toNat := by
  unfold repeatsCounted
  cases hfrozen : w.frozen
  · simpa using h.resolve_left (by simp [hfrozen])
  · simp

/-- Settles O45: a frame start that waits, and one that is taken, by what it makes of the wall feed. -/
theorem wallFrameStartSwapsOrRepeats : Obligations.WallFrameStartSwapsOrRepeats := by
  intro s e es h
  refine ⟨fun hpending => congrArg Host.Outcome.next (wallFrameStart_of_pending h (scanPending_iff.2 hpending)),
    fun hscan howed hwaiting => ?_⟩
  let taken : State := { s with transit := { s.transit with wallFrames := es } }
  refine ⟨wallFrame e taken, congrArg Host.Outcome.next (wallFrameStart_of_ended h hscan howed hwaiting), ?_⟩
  obtain ⟨hafterScan, hafterOwed⟩ := wallAfter_scan e s.wall
  obtain ⟨hmuted, hrequest⟩ := wallAfter_mute e s.wall
  have hwall : (wallFrame e taken).wall = wallAfter e s.wall := wallFrame_wall e taken
  have hrepeats : counterOf (wallFrame e taken) .repeated =
    saturatingAdd (counterOf s .repeated) (repeatsCounted s.wall) := counterOf_repeated_wallFrame e taken
  refine ⟨by rw [wallFrame_eq]; rfl, fun x hx => by rw [wallFrame_eq]; exact counterOf_countN_ne hx _ _, ?_⟩
  rw [hwall, hrepeats]
  refine ⟨wallAfter_frame e s.wall, fun r hr => ?_, fun hnone => ?_, fun hfrozen hload => ?_, fun hstay => ?_,
    fun k hk => ?_, fun hnone => ?_⟩
  · rw [hmuted, hrequest]
    refine ⟨fun hsettled => ?_, fun hlabel hadopted => ?_⟩
    · rw [settleMute_of_settled (w := frameTaken e s.wall) hr hsettled]
      exact ⟨rfl, rfl⟩
    · rw [settleMute_of_held (w := frameTaken e s.wall) hr hlabel hadopted]
      exact ⟨rfl, hr⟩
  · rw [hmuted, hrequest, settleMute_of_none (w := frameTaken e s.wall) hnone]
    exact ⟨rfl, hnone⟩
  · have hcount := saturatingAdd_zero (counterOf s .repeated)
    rw [← repeatsCounted_of_swap hload] at hcount
    simpa only [and_assoc] using And.intro (wallAfter_of_swap e hfrozen hload) hcount
  · have hcount := saturatingAdd_toNat_not (counterOf s .repeated) s.wall.frozen
    rw [← repeatsCounted_of_stay hstay] at hcount
    simpa only [and_assoc] using And.intro (wallAfter_of_stay e hstay) hcount
  · rw [hafterScan, hafterOwed, hk]
    exact ⟨rfl, rfl⟩
  · rw [hafterScan, hafterOwed, hnone]
    exact ⟨hscan, rfl⟩

end Sys2Proof.Machine
end

section
/-! Scales, scan ends and the run notice at the wall feed (R153, R154, R171), and the five wall actions (R150 to R152,
R156). -/

namespace Sys2Proof.Machine

/-! ### Scales that arrive (R153, R171) -/

section
variable {s : State} {m : ScaleMessage} {ms : List ScaleMessage} (h : s.transit.wallScales = m :: ms)
include h

theorem scaleArrivalWall_of_current (hserial : m.serial = s.wall.taken) (howed : s.wall.scanOwed = false) :
    scaleArrivalWall s = { s with
      wall := { s.wall with k := some m.k }
      transit := { s.transit with wallScales := ms } } := by
  simp [scaleArrivalWall, h, hserial, howed, setWall]

theorem scaleArrivalWall_of_owed (hserial : m.serial = s.wall.taken) (howed : s.wall.scanOwed = true) :
    scaleArrivalWall s = { s with
      wall := { s.wall with k := some m.k, scan := some s.wall.frame, scanOwed := false }
      transit := { s.transit with wallScales := ms } } := by
  simp [scaleArrivalWall, h, hserial, howed, setWall, beginScan]

theorem scaleArrivalWall_of_later (hserial : s.wall.taken < m.serial) : scaleArrivalWall s = { s with
    wall := { s.wall with scales := s.wall.scales ++ [m] }
    transit := { s.transit with wallScales := ms } } := by
  simp [scaleArrivalWall, h, hserial, hserial.ne', setWall]

theorem scaleArrivalWall_of_earlier (hserial : m.serial < s.wall.taken) :
    scaleArrivalWall s = { s with transit := { s.transit with wallScales := ms } } := by
  simp [scaleArrivalWall, h, hserial.ne, hserial.not_gt]

end

/-! ### Scan ends (R153, R154) -/

/-- The wall feed when the scan has ended and the run notice that waits is taken. -/
def scanEnded (w : WallFeed) : WallFeed :=
  { w with scan := none, enabled := w.enabled || w.noticeWaits, noticeWaits := false }

theorem scanEnd_of_idle {s : State} {f : FrameNo} (h : s.wall.scan = some f) (hwaiting : s.wall.waiting = []) :
    scanEnd s = { s with wall := scanEnded s.wall } := by
  simp [scanEnd, h, hwaiting, setWall, scanEnded]

theorem scanEnd_of_waiting {s : State} {f : FrameNo} {e : FrameEvent} {es : List FrameEvent}
    (h : s.wall.scan = some f) (hwaiting : s.wall.waiting = e :: es) :
    scanEnd s = wallFrame e { s with wall := { scanEnded s.wall with waiting := es } } := by
  simp only [scanEnd, h, hwaiting]
  rfl

theorem settleMute_waiting (e : FrameEvent) (w : WallFeed) (es : List FrameEvent) :
    settleMute e { w with waiting := es } = { settleMute e w with waiting := es } := by
  cases h : w.muteRequest with
  | none => simp only [settleMute, h]
  | some r =>
    simp only [settleMute, h]
    split
    · rfl
    · rw [h]

theorem banksDecided_waiting (w : WallFeed) (es : List FrameEvent) :
    banksDecided { w with waiting := es } = { banksDecided w with waiting := es } := by
  unfold banksDecided
  split <;> rfl

theorem wallAfter_waiting (e : FrameEvent) (w : WallFeed) (es : List FrameEvent) :
    wallAfter e { w with waiting := es } = { wallAfter e w with waiting := es } := by
  have hsettled := settleMute_waiting e (frameTaken e w) es
  have hdecided := banksDecided_waiting (settleMute e (frameTaken e w)) es
  rw [← hsettled] at hdecided
  have htaken : frameTaken e { w with waiting := es } = { frameTaken e w with waiting := es } := rfl
  rw [wallAfter, wallAfter, beginScan_eq, beginScan_eq, htaken, hdecided]

/-- A frame start neither reads nor changes the frame starts that wait behind it. -/
theorem wallFrame_waiting (e : FrameEvent) (s : State) (w : WallFeed) (es : List FrameEvent) :
    let t := wallFrame e { s with wall := w }
    wallFrame e { s with wall := { w with waiting := es } } = { t with wall := { t.wall with waiting := es } } := by
  have hafter := wallAfter_waiting e w es
  rw [wallAfter, wallAfter] at hafter
  simp only [wallFrame_eq, hafter]
  rfl

/-! ### The run notice (R154) -/

section
variable {s : State} {n : Notice} (h : s.transit.runWall = some n)
include h

theorem runNoticeWall_of_idle (hscan : s.wall.scan = none) : runNoticeWall s = { s with
    wall := { s.wall with enabled := true }
    transit := { s.transit with runWall := none } } := by
  simp [runNoticeWall, h, hscan, setWall]

theorem runNoticeWall_of_scan (hscan : s.wall.scan ≠ none) : runNoticeWall s = { s with
    wall := { s.wall with noticeWaits := true }
    transit := { s.transit with runWall := none } } := by
  simp [runNoticeWall, h, Option.isSome_iff_ne_none, hscan, setWall]

end

/-! ### Wall actions (R150 to R152, R156) -/

theorem nextWallAction_of_kind {s : State} {a : WallAction} {as : List WallAction} (h : s.transit.wallActions = a :: as)
    {kind : CueAction → Bool} (hkind : kind a.action = true) :
    nextWallAction kind s = takeWallAction a { s with transit := { s.transit with wallActions := as } } := by
  simp only [nextWallAction, h, if_pos hkind]

theorem takeWallAction_of_safe {s : State} (a : WallAction) (h : s.station.state = .safe) : takeWallAction a s = s :=
  if_pos h

/-- Outside SAFE the action decides. -/
theorem takeWallAction_of_not_safe {s : State} (a : WallAction) (h : s.station.state ≠ .safe) :
    takeWallAction a s = match a.action with
      | .wallFreeze => setWall (freezeWall s.wall) s
      | .wallRun => setWall (unfreezeWall s.wall) s
      | .wallMute => setWall (requestMute true a.label s.wall) s
      | .wallUnmute => setWall (requestMute false a.label s.wall) s
      | .wallProfile p => takeProfile p s
      | .fade _ _ | .lookHome => s :=
  if_neg h

theorem takeProfile_of_number {b : Byte} {q : Fin 4} (h : b.toNat = q.val) (s : State) :
    takeProfile b s = { s with wall := { s.wall with profile := q } } := by
  have hbyte : profileOfByte b = some q := by simp [profileOfByte, h]
  simp only [takeProfile, hbyte]
  rfl

theorem takeProfile_of_argument {b : Byte} (h : 4 ≤ b.toNat) (s : State) : takeProfile b s = count .argErr s := by
  have hbyte : profileOfByte b = none := by simp [profileOfByte, Nat.not_lt.2 h]
  simp only [takeProfile, hbyte]

theorem lookProfile_of_cons {s : State} {p : Byte} {ps : List Byte} (h : s.transit.lookProfiles = p :: ps) :
    let s' := { s with transit := { s.transit with lookProfiles := ps } }
    lookProfile s = if s.station.state = .safe then s' else takeProfile p s' := by
  simp only [lookProfile, h]

/-- Settles O46: scales, scan ends and run notices by the scan, actions by their kind, SAFE by the discard. -/
theorem scansAndWallActions : Obligations.ScansAndWallActions := by
  refine ⟨⟨fun s m ms h hserial howed => congrArg Host.Outcome.next (scaleArrivalWall_of_owed h hserial howed),
      fun s m ms h => ?_, fun s f hscan hwaiting => congrArg Host.Outcome.next (scanEnd_of_idle hscan hwaiting),
      fun s f e es hscan howed hwaiting => ?_, fun s n h => ?_⟩,
    ⟨?_, fun s p ps q h hstate hq => ?_, fun s p ps h hstate hargument => ?_⟩,
    fun s c hsafe => ⟨fun a as h hc => ?_, fun p ps h => ?_⟩⟩
  · exact ⟨fun hserial => congrArg Host.Outcome.next (scaleArrivalWall_of_later h hserial),
      fun hserial howed => congrArg Host.Outcome.next (scaleArrivalWall_of_current h hserial howed),
      fun hserial => congrArg Host.Outcome.next (scaleArrivalWall_of_earlier h hserial)⟩
  · refine ⟨wallFrame e { s with wall := { scanEnded s.wall with waiting := [] } },
      congrArg Host.Outcome.next (wallFrameStart_of_ended rfl rfl howed rfl), congrArg Host.Outcome.next ?_⟩
    rw [scanEnd_of_waiting hscan hwaiting]
    exact wallFrame_waiting e s { scanEnded s.wall with waiting := [] } es
  · exact ⟨fun hscan => congrArg Host.Outcome.next (runNoticeWall_of_idle h hscan),
      fun hscan => congrArg Host.Outcome.next (runNoticeWall_of_scan h hscan)⟩
  · rintro s ⟨action, label, ident⟩ as h hstate taken
    refine ⟨?_, ?_, ?_, ?_, ?_, ?_⟩
    · rintro rfl hfrozen
      refine congrArg Host.Outcome.next ((nextWallAction_of_kind h rfl).trans ((if_neg hstate).trans ?_))
      exact congrArg (setWall · taken) (if_neg (by simp [hfrozen]))
    · rintro rfl hfrozen
      refine congrArg Host.Outcome.next ((nextWallAction_of_kind h rfl).trans ((if_neg hstate).trans ?_))
      exact congrArg (setWall · taken) (if_pos hfrozen)
    · rintro rfl
      exact congrArg Host.Outcome.next ((nextWallAction_of_kind h rfl).trans (if_neg hstate))
    · rintro rfl
      exact congrArg Host.Outcome.next ((nextWallAction_of_kind h rfl).trans (if_neg hstate))
    · rintro rfl
      exact congrArg Host.Outcome.next ((nextWallAction_of_kind h rfl).trans (if_neg hstate))
    · rintro p rfl
      have htaken : nextWallAction isProfileAction s = takeProfile p taken :=
        (nextWallAction_of_kind h rfl).trans (if_neg hstate)
      exact ⟨fun q hq => congrArg Host.Outcome.next (htaken.trans (takeProfile_of_number hq taken)),
        fun hargument => congrArg Host.Outcome.next (htaken.trans (takeProfile_of_argument hargument taken))⟩
  · refine congrArg Host.Outcome.next ((lookProfile_of_cons h).trans ((if_neg hstate).trans ?_))
    exact takeProfile_of_number hq _
  · refine congrArg Host.Outcome.next ((lookProfile_of_cons h).trans ((if_neg hstate).trans ?_))
    exact takeProfile_of_argument hargument _
  · obtain ⟨ha, rfl⟩ | ⟨ha, rfl⟩ | ⟨ha, rfl⟩ | ⟨ha, rfl⟩ | ⟨p, ha, rfl⟩ := hc
    all_goals
      refine congrArg Host.Outcome.next ((nextWallAction_of_kind h ?_).trans (takeWallAction_of_safe a hsafe))
      rw [ha]
      rfl
  · exact congrArg Host.Outcome.next ((lookProfile_of_cons h).trans (if_pos hsafe))

end Sys2Proof.Machine
end

section
/-! The peer table's announcements: how an entry takes an arriving one and keeps two in target order (R161, R162), and
DEMAND with the fields of its payload (R162, R194). -/

namespace Sys2Proof.Machine

/-! ### Two announcements in target order (R161) -/

/-- Of two different frames, one that is not before the other has the other before it (R12). -/
theorem isBefore_of_not_isBefore {a b : FrameNo} (hne : a ≠ b) (h : isBefore a b = false) : isBefore b a = true := by
  have hback := frameDistance_symm b a
  have hzero : frameDistance b a ≠ 0 := fun heq => hne (frameDistance_eq_zero_iff.1 heq).symm
  rw [← Bool.not_eq_true, isBefore_iff] at h
  rw [isBefore_iff]
  omega

/-- A frame that is neither another nor before it is after it (R12). -/
theorem isAfter_of_not_isBefore {a g : FrameNo} (hne : a ≠ g) (h : isBefore a g = false) : isAfter a g = true := by
  have hzero : frameDistance g a ≠ 0 := fun heq => hne (frameDistance_eq_zero_iff.1 heq).symm
  rw [← Bool.not_eq_true, isBefore_iff] at h
  rw [isAfter_iff]
  omega

theorem inTargetOrder_of_before {a b : Announcement} (h : isBefore a.target b.target = true) :
    inTargetOrder a b = (a, b) :=
  if_pos h

theorem inTargetOrder_of_not_before {a b : Announcement} (h : isBefore a.target b.target = false) :
    inTargetOrder a b = (b, a) :=
  if_neg (by simp [h])

/-- Two announcements stand at distinct targets, the earlier one first (R161). -/
def TargetsOrdered (a b : Announcement) : Prop := a.target ≠ b.target ∧ isBefore a.target b.target = true

theorem inTargetOrder_ordered {a b : Announcement} (hne : a.target ≠ b.target) :
    TargetsOrdered (inTargetOrder a b).1 (inTargetOrder a b).2 := by
  cases h : isBefore a.target b.target with
  | true =>
    rw [inTargetOrder_of_before h]
    exact ⟨hne, h⟩
  | false =>
    rw [inTargetOrder_of_not_before h]
    exact ⟨hne.symm, isBefore_of_not_isBefore hne h⟩

/-! ### An arriving announcement (R162) -/

section
variable {x a b : Announcement}

theorem mergeAnnouncement_of_first (second : Option Announcement) (h : a.target = x.target) :
    mergeAnnouncement x a second = (x, second) := by
  cases second <;> exact if_pos h

theorem mergeAnnouncement_of_one (h : a.target ≠ x.target) :
    mergeAnnouncement x a none = ((inTargetOrder a x).1, some (inTargetOrder a x).2) :=
  if_neg h

theorem mergeAnnouncement_of_second (h : a.target ≠ x.target) (hb : b.target = x.target) :
    mergeAnnouncement x a (some b) = (a, some x) :=
  (if_neg h).trans (if_pos hb)

/-- Of three announcements the first held is dropped when it is before the arriving one. -/
theorem mergeAnnouncement_of_later (h : a.target ≠ x.target) (hb : b.target ≠ x.target)
    (hbefore : isBefore a.target x.target = true) :
    mergeAnnouncement x a (some b) = ((inTargetOrder b x).1, some (inTargetOrder b x).2) :=
  (if_neg h).trans ((if_neg hb).trans (if_pos hbefore))

/-- Otherwise the arriving one is not stored. -/
theorem mergeAnnouncement_of_earliest (h : a.target ≠ x.target) (hb : b.target ≠ x.target)
    (hbefore : isBefore a.target x.target = false) : mergeAnnouncement x a (some b) = (a, some b) :=
  (if_neg h).trans ((if_neg hb).trans (if_neg (by simp [hbefore])))

end

/-- An entry's announcements, when it holds two, are in target order (R161). -/
def EntryOrdered (e : PeerEntry) : Prop := ∀ b : Announcement, e.second = some b → TargetsOrdered e.first b

theorem mergeAnnouncement_ordered (x : Announcement) {e : PeerEntry} (he : EntryOrdered e) :
    ∀ b ∈ (mergeAnnouncement x e.first e.second).2, TargetsOrdered (mergeAnnouncement x e.first e.second).1 b := by
  by_cases hfirst : e.first.target = x.target
  · rw [mergeAnnouncement_of_first _ hfirst]
    intro b hb
    rw [TargetsOrdered, ← hfirst]
    exact he b hb
  · cases hsecond : e.second with
    | none =>
      rw [mergeAnnouncement_of_one hfirst]
      rintro b ⟨⟩
      exact inTargetOrder_ordered hfirst
    | some old =>
      have hold := he old hsecond
      by_cases hreplaced : old.target = x.target
      · rw [mergeAnnouncement_of_second hfirst hreplaced]
        rintro b ⟨⟩
        rw [TargetsOrdered, ← hreplaced]
        exact hold
      · cases hbefore : isBefore e.first.target x.target with
        | true =>
          rw [mergeAnnouncement_of_later hfirst hreplaced hbefore]
          rintro b ⟨⟩
          exact inTargetOrder_ordered hreplaced
        | false =>
          rw [mergeAnnouncement_of_earliest hfirst hreplaced hbefore]
          rintro b ⟨⟩
          exact hold

theorem entryAfter_ordered (group : Byte) (x : Announcement) (frame : FrameNo) {old : Option PeerEntry}
    (hold : ∀ e ∈ old, EntryOrdered e) : EntryOrdered (entryAfter group x frame old) := by
  cases old with
  | none => exact nofun
  | some e => exact mergeAnnouncement_ordered x (hold e rfl)

theorem entryAfter_stamps (group : Byte) (x : Announcement) (frame : FrameNo) (old : Option PeerEntry) :
    (entryAfter group x frame old).group = group ∧ (entryAfter group x frame old).lastArrival = frame := by
  cases old <;> exact ⟨rfl, rfl⟩

/-- What a present entry holds after an arriving announcement, in the cases of R162. -/
theorem mergeAnnouncement_cases (x a : Announcement) (second : Option Announcement) :
    let m := mergeAnnouncement x a second
    (a.target = x.target → m.1 = x ∧ m.2 = second) ∧
      (a.target ≠ x.target → second = none →
        (isBefore a.target x.target = true → m.1 = a ∧ m.2 = some x) ∧
        (isBefore a.target x.target = false → m.1 = x ∧ m.2 = some a)) ∧
      ∀ b : Announcement, a.target ≠ x.target → second = some b →
        (b.target = x.target → m.1 = a ∧ m.2 = some x) ∧
        (b.target ≠ x.target → isBefore a.target x.target = false → m.1 = a ∧ m.2 = some b) ∧
        (b.target ≠ x.target → isBefore a.target x.target = true →
          (isBefore b.target x.target = true → m.1 = b ∧ m.2 = some x) ∧
          (isBefore b.target x.target = false → m.1 = x ∧ m.2 = some b)) := by
  intro m
  refine ⟨fun hfirst => ?_, ?_, ?_⟩
  · simp [m, mergeAnnouncement_of_first _ hfirst]
  · rintro hfirst rfl
    refine ⟨fun hbefore => ?_, fun hbefore => ?_⟩
    · simp [m, mergeAnnouncement_of_one hfirst, inTargetOrder_of_before hbefore]
    · simp [m, mergeAnnouncement_of_one hfirst, inTargetOrder_of_not_before hbefore]
  · rintro b hfirst rfl
    refine ⟨fun hsecond => ?_, fun hsecond hbefore => ?_, fun hsecond hbefore => ⟨fun hlater => ?_, fun hlater => ?_⟩⟩
    · simp [m, mergeAnnouncement_of_second hfirst hsecond]
    · simp [m, mergeAnnouncement_of_earliest hfirst hsecond hbefore]
    · simp [m, mergeAnnouncement_of_later hfirst hsecond hbefore, inTargetOrder_of_before hlater]
    · simp [m, mergeAnnouncement_of_later hfirst hsecond hbefore, inTargetOrder_of_not_before hlater]

/-! ### DEMAND (R162, R194) -/

/-- An announcement stored changes the peer table and the counters alone. -/
theorem storeAnnouncement_eq (source : StationNo) (group : Byte) (x : Announcement) (u : State) :
    storeAnnouncement source group x u = { u with
      budget := { u.budget with peers := (storeAnnouncement source group x u).budget.peers }
      counters := (storeAnnouncement source group x u).counters } := by
  unfold storeAnnouncement countIf
  split <;> rfl

/-- A field as wide as its bytes loses nothing. -/
theorem toNat_fieldAt (bytes : List Byte) (off : Nat) {len w : Nat} (hw : 256 ^ len = 2 ^ w) :
    (BitVec.ofNat w (fieldAt bytes off len)).toNat = ofBytes ((bytes.drop off).take len) := by
  rw [BitVec.toNat_ofNat, Nat.mod_eq_of_lt (hw ▸ fieldAt_lt bytes off len)]
  rfl

theorem demandFields_holdsFields (m : Message) :
    HoldsFields m.body [(0, 1, (demandFields m).group.toNat), (1, 3, (demandFields m).target.toNat),
      (4, 2, (demandFields m).x.toNat), (6, 2, (demandFields m).s.toNat)] := by
  intro f hf
  simp only [List.mem_cons, List.not_mem_nil, or_false] at hf
  obtain rfl | rfl | rfl | rfl := hf
  · exact ofBytes_take_one m.body 0
  · exact (toNat_fieldAt m.body 1 (by norm_num)).symm
  · exact (toNat_fieldAt m.body 4 (by norm_num)).symm
  · exact (toNat_fieldAt m.body 6 (by norm_num)).symm

theorem demandFields_clamp_iff (m : Message) :
    (demandFields m).clamp = true ↔ ofBytes ((m.body.drop 8).take 1) % 2 = 1 := by
  rw [ofBytes_take_one]
  exact getLsbD_zero_iff (byteAt m.body 8)

/-- A routed DEMAND is its announcement stored in the entry of its source (R24, R162). -/
theorem exec_demand_of_routed {m : Message} {s : State} (h : Routed .demand m s) :
    exec (.demand m) s = .next (storeAnnouncement m.source (demandFields m).group
      { target := (demandFields m).target, x := (demandFields m).x, s := (demandFields m).s,
        clamp := (demandFields m).clamp } (lineToGap s)) :=
  congrArg Host.Outcome.next (receive_routed h (takeDemand m))

/-- Settles O47: a routed DEMAND is an announcement stored, and what its entry holds is the cases of R162. -/
theorem demandStored : Obligations.DemandStored := by
  refine ⟨fun m s x hrouted hx => ?_, fun m _ => ⟨demandFields_holdsFields m, demandFields_clamp_iff m⟩⟩
  have hexec := exec_demand_of_routed hrouted
  rw [← hx] at hexec
  have hpeers := congrArg Budget.peers (storeAnnouncement_budget m.source (demandFields m).group x (lineToGap s))
  obtain ⟨hgroup, harrival⟩ := entryAfter_stamps (demandFields m).group x s.budget.frame
    s.budget.peers[m.source.toFin]
  obtain ⟨hlate, hcounters⟩ := counterOf_storeAnnouncement m.source (demandFields m).group x (lineToGap s)
  refine ⟨_, _, hexec, ?_, rfl, fun n hn => ?_, hgroup, harrival, storeAnnouncement_eq _ _ _ _, hcounters,
    fun hnone => ?_, fun old hold => ?_, fun hnone => ?_, fun r hr => ?_⟩
  · rw [hpeers]
    exact setAt_getElem_self _ _ _
  · rw [hpeers]
    exact setAt_getElem_ne _ _ hn
  · rw [hnone]
    exact ⟨rfl, rfl⟩
  · rw [hold]
    exact mergeAnnouncement_cases x old.first old.second
  · rw [hlate, if_neg (by simp [isDemandLate_iff, hnone])]
    rfl
  · rw [hlate]
    simp only [isDemandLate_iff, lineToGap_budget, hr, Option.mem_some_iff, exists_eq_left']
    rfl

end Sys2Proof.Machine
end

section
/-! The budget close: the announcement an entry gives (R167), the factor aimed for and its slew (R168, R169), and the
record (R170). -/

namespace Sys2Proof.Machine

/-! ### The factor (R168, R169) -/

section
variable {c kMin x y : Nat}

theorem closeFactor_of_full (h : x + y ≤ c) : closeFactor c kMin x y = (32768, { noFlags with full := true }) :=
  if_pos h

theorem closeFactor_of_over (h : c < x + y) (hover : c ≤ x) :
    closeFactor c kMin x y = (kMin, { noFlags with overLimit := true }) :=
  (if_neg h.not_ge).trans (if_pos hover)

theorem closeFactor_of_between (h : c < x + y) (hbetween : x < c) : closeFactor c kMin x y =
    (max ((c - x) * 32768 / y) kMin, { noFlags with floored := decide ((c - x) * 32768 / y < kMin) }) :=
  (if_neg h.not_ge).trans (if_neg hbetween.not_ge)

/-- In the third row the quotient is below 1.0, since the scalable demand exceeds what the fixed demand leaves. -/
theorem quotient_le (h : c < x + y) : (c - x) * 32768 / y ≤ 32768 :=
  Nat.div_le_of_le_mul (Nat.mul_le_mul_right _ (by omega))

theorem closeFactor_range (c x y : Nat) (hmin : kMin ≤ 32768) :
    kMin ≤ (closeFactor c kMin x y).1 ∧ (closeFactor c kMin x y).1 ≤ 32768 := by
  by_cases hfull : x + y ≤ c
  · rw [closeFactor_of_full hfull]
    exact ⟨hmin, le_rfl⟩
  · have hexceeds := Nat.lt_of_not_le hfull
    by_cases hover : c ≤ x
    · rw [closeFactor_of_over hexceeds hover]
      exact ⟨le_rfl, hmin⟩
    · rw [closeFactor_of_between hexceeds (Nat.lt_of_not_le hover)]
      exact ⟨le_max_right _ _, max_le (quotient_le hexceeds) hmin⟩

/-- A factor that neither row 2 nor the floor holds keeps the group's draw within C (R168). -/
theorem draw_within_limit {k : Nat} (hk : k ≤ (closeFactor c kMin x y).1)
    (hover : (closeFactor c kMin x y).2.overLimit = false) (hfloor : (closeFactor c kMin x y).2.floored = false) :
    x * 32768 + y * k ≤ c * 32768 := by
  by_cases hfull : x + y ≤ c
  · rw [closeFactor_of_full hfull] at hk
    calc x * 32768 + y * k ≤ x * 32768 + y * 32768 := by gcongr
      _ = (x + y) * 32768 := by ring
      _ ≤ c * 32768 := by gcongr
  · have hexceeds := Nat.lt_of_not_le hfull
    by_cases hfixed : c ≤ x
    · rw [closeFactor_of_over hexceeds hfixed] at hover
      cases hover
    · have hbetween := Nat.lt_of_not_le hfixed
      rw [closeFactor_of_between hexceeds hbetween] at hk hfloor
      have hquotient : k ≤ (c - x) * 32768 / y := by
        rwa [max_eq_left (Nat.le_of_not_lt (of_decide_eq_false hfloor))] at hk
      have hdraw : y * k ≤ (c - x) * 32768 := (Nat.mul_le_mul_left y hquotient).trans (Nat.mul_div_le _ y)
      calc x * 32768 + y * k ≤ x * 32768 + (c - x) * 32768 := Nat.add_le_add_left hdraw _
        _ = c * 32768 := by rw [← Nat.add_mul, Nat.add_sub_cancel' hbetween.le]

end

/-- A fall is taken at once (R169). -/
theorem slewFactor_of_fall {kTarget base : Nat} (riseStep : Nat) (h : kTarget ≤ base) :
    slewFactor kTarget base riseStep = kTarget :=
  min_eq_left (h.trans (Nat.le_add_right base riseStep))

/-- The factor stays at or above k_min when the base and the target do (R169). -/
theorem le_slewFactor {kMin kTarget base : Nat} (riseStep : Nat) (htarget : kMin ≤ kTarget) (hbase : kMin ≤ base) :
    kMin ≤ slewFactor kTarget base riseStep :=
  le_min htarget (hbase.trans (Nat.le_add_right base riseStep))

/-! ### The announcement taken (R167) -/

/-- The present entries of the own supply group are those the stations' places hold, in station order. -/
theorem groupEntries_eq (s : State) : groupEntries s =
    ((List.finRange 32).filterMap fun n => s.budget.peers[n]).filter fun e => decide (e.group = s.image.group) := by
  have hlist : s.budget.peers.toList = (List.finRange 32).map fun n => s.budget.peers[n] := by
    refine List.ext_getElem (by simp) fun i _ _ => ?_
    simp
  rw [groupEntries, hlist, List.filterMap_map]
  rfl

/-- The announcements a present entry holds (R161). -/
def heldBy (e : PeerEntry) : List Announcement := e.first :: e.second.toList

theorem forall_heldBy_one {e : PeerEntry} {p : Announcement → Prop} (hsecond : e.second = none) (hfirst : p e.first) :
    ∀ a ∈ heldBy e, p a := by
  simpa [heldBy, hsecond] using hfirst

theorem forall_heldBy_two {e : PeerEntry} {b : Announcement} {p : Announcement → Prop} (hsecond : e.second = some b)
    (hfirst : p e.first) (hb : p b) : ∀ a ∈ heldBy e, p a := by
  simpa [heldBy, hsecond] using ⟨hfirst, hb⟩

/-- An entry's announcement at the close for G by the cases of R167: the one for G; with none for G, one before G, the
second held when that is before G; with none before G either, the first held. -/
inductive Gives (g : FrameNo) (e : PeerEntry) : SelectCase × Announcement → Prop
  | exact {a : Announcement} : a ∈ heldBy e → a.target = g → Gives g e (.exact, a)
  | stale {a : Announcement} : (∀ b ∈ heldBy e, b.target ≠ g) → a ∈ heldBy e → isBefore a.target g = true →
      (∀ b, e.second = some b → isBefore b.target g = true → a = b) → Gives g e (.stale, a)
  | ahead : (∀ b ∈ heldBy e, b.target ≠ g) → (∀ b ∈ heldBy e, isBefore b.target g = false) →
      Gives g e (.ahead, e.first)

theorem selectAnnouncement_gives (g : FrameNo) (e : PeerEntry) : Gives g e (selectAnnouncement g e) := by
  have hfirst : e.first ∈ heldBy e := List.mem_cons_self
  unfold selectAnnouncement
  split
  next hsecond =>
    split
    next hexact => exact .exact hfirst hexact
    next hnot =>
      have hnone := forall_heldBy_one (p := fun a => a.target ≠ g) hsecond hnot
      split
      next hbefore => exact .stale hnone hfirst hbefore (by simp [hsecond])
      next hbefore => exact .ahead hnone (forall_heldBy_one hsecond (Bool.eq_false_iff.2 hbefore))
  next b hsecond =>
    have hb : b ∈ heldBy e := by simp [heldBy, hsecond]
    split
    next hexact => exact .exact hfirst hexact
    next hnot =>
      split
      next hexact => exact .exact hb hexact
      next hnot' =>
        have hnone := forall_heldBy_two (p := fun a => a.target ≠ g) hsecond hnot hnot'
        split
        next hbefore =>
          exact .stale hnone hb hbefore fun a ha _ => Option.some.inj (hsecond.symm.trans ha)
        next hlater =>
          split
          next hbefore =>
            refine .stale hnone hfirst hbefore fun a ha hstale => ?_
            cases hsecond.symm.trans ha
            exact absurd hstale hlater
          next hbefore =>
            exact .ahead hnone
              (forall_heldBy_two hsecond (Bool.eq_false_iff.2 hbefore) (Bool.eq_false_iff.2 hlater))

/-- Settles O48: the record by its definition, the factor row by row, and the announcement case by case. -/
theorem budgetClose : Obligations.BudgetClose := by
  refine ⟨fun s g => ⟨rfl, rfl, rfl, rfl, rfl, rfl, rfl, ?_, rfl, rfl⟩, fun c kMin x y base rise hmin hbase => ?_,
    fun g e _ => ?_⟩
  · exact congrArg (List.map (selectAnnouncement g)) (groupEntries_eq s)
  · obtain ⟨hlow, hhigh⟩ := closeFactor_range c x y hmin
    refine ⟨fun hfull => ?_, fun hexceeds hover => ?_, fun hexceeds hbetween => ?_, le_slewFactor rise hlow hbase,
      min_le_left _ _, hhigh, min_le_right _ _, slewFactor_of_fall rise, draw_within_limit (min_le_left _ _)⟩
    · rw [closeFactor_of_full hfull]
      exact ⟨rfl, rfl, rfl, rfl⟩
    · rw [closeFactor_of_over hexceeds hover]
      exact ⟨rfl, rfl, rfl, rfl⟩
    · rw [closeFactor_of_between hexceeds hbetween]
      exact ⟨rfl, rfl, rfl, decide_eq_true_iff⟩
  · intro held t
    have hgives : Gives g e t := selectAnnouncement_gives g e
    clear_value t
    cases hgives with
    | exact hmem htarget => exact ⟨hmem, ⟨fun _ => ⟨_, hmem, htarget⟩, fun _ => rfl⟩, fun _ => htarget, nofun, nofun⟩
    | stale hnone hmem hbefore hlatest =>
      exact ⟨hmem, ⟨nofun, fun ⟨a, ha, htarget⟩ => absurd htarget (hnone a ha)⟩, nofun,
        fun _ => ⟨hbefore, hlatest⟩, nofun⟩
    | ahead hnone hlater =>
      exact ⟨List.mem_cons_self, ⟨nofun, fun ⟨a, ha, htarget⟩ => absurd htarget (hnone a ha)⟩, nofun, nofun,
        fun _ => ⟨rfl, fun a ha => isAfter_of_not_isBefore (hnone a ha) (hlater a ha)⟩⟩

end Sys2Proof.Machine
end

section
/-! The scale in force and the last closed record stay in range (R169, R171), and every peer table entry in target order
(R161): what a command can do to the budget unit, and that each of it keeps both. -/

namespace Sys2Proof.Machine

/-! ### What a command can do to the budget unit -/

/-- `t` is `s` after changes of the image and the budget unit, each by one of its operations: an announcement stored
(R162), the scale in force settled (R171), the budget closed (R164, R170), the joined mark and the OVER indication set
(R172, R174, R175), and a restart or a good image (R159, R181). What else changes is free. -/
inductive BudgetMoves : State → State → Prop
  | marked {s t : State} (joined overLimit : Bool) : t.image = s.image →
      t.budget = { s.budget with joined := joined, overIndication := overLimit } → BudgetMoves s t
  | restarted {s t : State} : t.image.kMin ≤ 32768 → t.budget = budgetAtRestart t.image.kMin → BudgetMoves s t
  | announced (source : StationNo) (group : Byte) (x : Announcement) (s : State) :
      BudgetMoves s (storeAnnouncement source group x s)
  | settled (e : FrameEvent) (s : State) : BudgetMoves s (settleScale e s)
  | closed (s : State) : BudgetMoves s (closeBudget s)
  | trans {s t u : State} : BudgetMoves s t → BudgetMoves t u → BudgetMoves s u

theorem BudgetMoves.of_eq {s t : State} (himage : t.image = s.image) (hbudget : t.budget = s.budget) :
    BudgetMoves s t :=
  .marked s.budget.joined s.budget.overIndication himage hbudget

theorem BudgetMoves.refl (s : State) : BudgetMoves s s := .of_eq rfl rfl

/-- A restart takes every figure at its default (R159, R180). -/
theorem BudgetMoves.of_restart {s t : State} (himage : t.image = defaultImage)
    (hbudget : t.budget = budgetAtRestart defaultImage.kMin) : BudgetMoves s t :=
  .restarted (by rw [himage]; decide) (by rw [hbudget, himage])

theorem generateAndClose_budgetMoves (s : State) : BudgetMoves s (generateAndClose s) := by
  have hannounced := BudgetMoves.announced s.station.number s.image.group (ownAnnouncement s (s.budget.frame + 2)) s
  have hplaced : BudgetMoves _ (generateDemand s) :=
    hannounced.trans (.of_eq (by simp [generateDemand]) (by simp [generateDemand]))
  exact hplaced.trans (.closed _)

theorem budgetFrameStart_budgetMoves (s : State) : BudgetMoves s (budgetFrameStart s) := by
  cases h : s.transit.budgetFrames with
  | nil =>
    rw [budgetFrameStart, h]
    exact .refl s
  | cons e es =>
    have htaken : BudgetMoves s { s with transit := { s.transit with budgetFrames := es } } := .of_eq rfl rfl
    have hsettled : BudgetMoves s (budgetSettled e es s) := htaken.trans (.settled e _)
    rw [budgetFrameStart_of_cons h]
    split
    · exact hsettled.trans (generateAndClose_budgetMoves _)
    · exact hsettled

theorem joinNotice_budgetMoves (s : State) : BudgetMoves s (joinNotice s) := by
  have hjoined : BudgetMoves s (joinNoticed s) := .marked true s.budget.overIndication rfl rfl
  cases h : s.transit.joinNotice with
  | none =>
    rw [joinNotice, h]
    exact .refl s
  | some n =>
    rw [joinNotice_of_notice h]
    split
    · exact hjoined.trans (generateAndClose_budgetMoves _)
    · exact hjoined

theorem demand_budgetMoves (m : Message) (s : State) :
    BudgetMoves s (receive (kindCode .demand) m (takeDemand m) s) := by
  obtain h | h | ⟨c, h⟩ | h := receive_cases (kindCode .demand) m (takeDemand m) s
  · rw [h]
    exact .refl s
  · rw [h]
    exact .of_eq rfl rfl
  · rw [h]
    exact .of_eq rfl rfl
  · have hgap : BudgetMoves s (lineToGap s) := .of_eq rfl rfl
    rw [h]
    exact hgap.trans (.announced _ _ _ _)

/-! ### Restart, LOADING and SAFE (R175, R180, R181) -/

theorem enterSafe_budgetMoves (cause : SafeCause) (failed : Option Nat) (s : State) :
    BudgetMoves s (enterSafe cause failed s) :=
  .marked s.budget.joined false rfl rfl

theorem strapChange_budgetMoves (strap : Fin 5) (s : State) : BudgetMoves s (strapChange strap s) := by
  obtain h | h := strapChange_cases strap s
  · rw [h]
    exact enterSafe_budgetMoves _ _ s
  · rw [h]
    exact .refl s

theorem resetPinAssertion_budgetMoves (s : State) : BudgetMoves s (resetPinAssertion s) := by
  unfold resetPinAssertion
  dsimp only
  split
  · exact .of_restart rfl rfl
  · exact .of_eq rfl rfl

theorem resetPinDeassertion_budgetMoves (straps : Straps) (s : State) :
    BudgetMoves s (resetPinDeassertion straps s) := by
  unfold resetPinDeassertion
  dsimp only
  split
  · split
    · exact .of_restart rfl rfl
    · exact .of_eq rfl rfl
  · exact .refl s

theorem arrayQuiet_budgetMoves (straps : Straps) (s : State) : BudgetMoves s (arrayQuiet straps s) := by
  unfold arrayQuiet
  split
  · split
    · unfold restartByMessage
      dsimp only
      split <;> exact .of_restart rfl rfl
    · exact .of_eq rfl rfl
  · exact .refl s

/-- An image is in force only when its store has passed the checks, k_min among them (R181, R182). -/
theorem loadingEnd_budgetMoves (now : Nanos) (s : State) : BudgetMoves s (loadingEnd now s) := by
  have hfailed (cause : SafeCause) (failed : Option Nat) : BudgetMoves s (failImage cause failed s) :=
    .of_restart rfl rfl
  unfold loadingEnd
  split
  · split
    · exact hfailed _ _
    · split
      · exact hfailed _ _
      next hpassed => exact .restarted (checkedStore_of_passed hpassed).kMin rfl
  · exact .refl s

/-! ### Commands -/

/-- What a command does to the image and the budget unit: the commands of the unit and those of supply, RESET, LOADING
and SAFE one by one, and the rest, by their frames, leave both. -/
theorem exec_budgetMoves {c : Instr} {s t : State} (h : exec c s = .next t) : BudgetMoves s t := by
  cases c
  case powerOn | powerLoss => cases h; exact .of_restart rfl rfl
  case resetPinAssertion => cases h; exact resetPinAssertion_budgetMoves s
  case resetPinDeassertion straps => cases h; exact resetPinDeassertion_budgetMoves straps s
  case arrayQuiet straps => cases h; exact arrayQuiet_budgetMoves straps s
  case loadingEnd now => cases h; exact loadingEnd_budgetMoves now s
  case strapChange strap => cases h; exact strapChange_budgetMoves strap s
  case demand m => cases h; exact demand_budgetMoves m s
  case budgetFrameStart => cases h; exact budgetFrameStart_budgetMoves s
  case joinNotice => cases h; exact joinNotice_budgetMoves s
  all_goals
    cases h
    refine .of_eq ?_ ?_
    · simp [apply_ite State.image]
    · simp [apply_ite State.budget]

/-! ### The scale in force and the last closed record (R169, R171) -/

/-- k lies from k_min to k_target, and k_target to 1.0. -/
def RecordInRange (kMin : Nat) (r : BudgetRecord) : Prop := kMin ≤ r.k ∧ r.k ≤ r.kTarget ∧ r.kTarget ≤ 32768

theorem closeRecord_inRange {kMin : Nat} {u : State} (himage : u.image.kMin = kMin) (hmin : kMin ≤ 32768)
    (hbase : kMin ≤ u.budget.scale.k) (g : FrameNo) : RecordInRange kMin (closeRecord u g) := by
  subst himage
  obtain ⟨hlow, hhigh⟩ := closeFactor_range (c := u.image.limitC) (closeRecord u g).x (closeRecord u g).s hmin
  exact ⟨le_slewFactor _ hlow hbase, min_le_left _ _, hhigh⟩

/-- The scale in force is the held one or that of the last closed record (R171). -/
theorem settledScale_inRange {kMin : Nat} {b : Budget} (f : FrameNo) (hlow : kMin ≤ b.scale.k)
    (hhigh : b.scale.k ≤ 32768) (hlast : ∀ r ∈ b.last, RecordInRange kMin r) :
    kMin ≤ (settledScale f b).k ∧ (settledScale f b).k ≤ 32768 := by
  cases h : b.last with
  | none =>
    rw [settledScale_of_none h]
    exact ⟨hlow, hhigh⟩
  | some r =>
    by_cases hdue : r.target = f
    · obtain ⟨hmin, htarget, hone⟩ := hlast r h
      rw [settledScale_of_due h hdue]
      exact ⟨hmin, htarget.trans hone⟩
    · rw [settledScale_of_not_due h hdue]
      exact ⟨hlow, hhigh⟩

/-- The figures the range speaks of stand as they were. -/
theorem ScaleInRange.of_eq {s t : State} (hs : ScaleInRange s) (himage : t.image = s.image)
    (hscale : t.budget.scale = s.budget.scale) (hlast : t.budget.last = s.budget.last) : ScaleInRange t := by
  rw [ScaleInRange, himage, hscale, hlast]
  exact hs

theorem BudgetMoves.scaleInRange {s t : State} (h : BudgetMoves s t) (hs : ScaleInRange s) : ScaleInRange t := by
  induction h with
  | marked joined overLimit himage hbudget => exact hs.of_eq himage (by rw [hbudget]) (by rw [hbudget])
  | restarted hmin hbudget =>
    rw [ScaleInRange, hbudget]
    exact ⟨hmin, le_rfl, hmin, nofun⟩
  | announced source group x s =>
    exact hs.of_eq (by simp) (by rw [storeAnnouncement_budget]) (by rw [storeAnnouncement_budget])
  | settled e s =>
    obtain ⟨hmin, hlow, hhigh, hlast⟩ := hs
    obtain ⟨hlow', hhigh'⟩ := settledScale_inRange e.frame hlow hhigh hlast
    exact ⟨hmin, hlow', hhigh', hlast⟩
  | closed s =>
    obtain ⟨hmin, hlow, hhigh, -⟩ := hs
    have himage : (closeBudget s).image = s.image := by simp
    have hscale : (closeBudget s).budget.scale = s.budget.scale := by rw [closeBudget_budget]
    have hrecord : RecordInRange s.image.kMin (closeRecord (closeBudget s) (s.budget.frame + 1)) :=
      closeRecord_inRange (by rw [himage]) hmin (by rw [hscale]; exact hlow) _
    rw [ScaleInRange, himage, hscale, closeBudget_last]
    refine ⟨hmin, hlow, hhigh, fun r hr => ?_⟩
    rw [← Option.mem_some_iff.1 hr]
    exact hrecord
  | trans _ _ ih ih' => exact ih' (ih hs)

/-! ### The peer table (R161) -/

theorem peersOrdered_iff {s : State} :
    PeersOrdered s ↔ ∀ n : Fin 32, ∀ e ∈ s.budget.peers[n], EntryOrdered e :=
  ⟨fun h n e he b hb => h n e b he hb, fun h n e b he hb => h n e he b hb⟩

/-- Entries that stand as they were or are gone. -/
theorem PeersOrdered.of_kept {s t : State} (hs : PeersOrdered s)
    (h : ∀ (n : Fin 32) (e : PeerEntry), t.budget.peers[n] = some e → s.budget.peers[n] = some e) : PeersOrdered t :=
  fun n e b he => hs n e b (h n e he)

theorem PeersOrdered.of_eq {s t : State} (hs : PeersOrdered s) (h : t.budget.peers = s.budget.peers) :
    PeersOrdered t :=
  hs.of_kept fun _ _ he => h ▸ he

theorem BudgetMoves.peersOrdered {s t : State} (h : BudgetMoves s t) (hs : PeersOrdered s) : PeersOrdered t := by
  induction h with
  | marked joined overLimit _ hbudget => exact hs.of_eq (by rw [hbudget])
  | restarted _ hbudget =>
    intro n e b he
    rw [hbudget, budgetAtRestart, fill_getElem] at he
    cases he
  | announced source group x s =>
    rw [peersOrdered_iff] at hs ⊢
    intro n e he
    rw [storeAnnouncement_budget, setAt_getElem] at he
    split at he
    · cases he
      exact entryAfter_ordered group x s.budget.frame (hs source.toFin)
    · exact hs n e he
  | settled e s => exact hs.of_eq rfl
  | closed s =>
    refine hs.of_kept fun n e he => ?_
    rw [closeBudget_budget] at he
    simp only [Fin.getElem_fin, Vector.getElem_ofFn] at he
    split at he
    · cases he
    · exact he
  | trans _ _ ih ih' => exact ih' (ih hs)

/-- Settles O5: a command moves the budget unit by its operations, and each keeps the range and the order. -/
theorem stepKeepsBudgetConsistent : Obligations.StepKeepsBudgetConsistent := by
  refine ⟨fun s t hs h => ?_, fun s t hs h => ?_⟩
  · exact step_induction h hs fun _ rest hexec =>
      (exec_budgetMoves hexec).scaleInRange (s := { s with pending := rest }) hs
  · exact step_induction h hs fun _ rest hexec =>
      (exec_budgetMoves hexec).peersOrdered (s := { s with pending := rest }) hs

end Sys2Proof.Machine
end

section
/-! The setup port (R187, R188): target and address bytes, the end of a write, and reads. -/

namespace Sys2Proof.Machine

/-! ### The end of a write (R187) -/

theorem rowLocked_eq_false_iff {row : BitVec 7} {m : Memory} :
    rowLocked row m = false ↔ row = 127 ∨ memRead m (8182 + row.toNat / 16) = 0 := by
  change _ ↔ row = 127 ∨ memRead m (protectAddress (row.toNat / 16)) = 0
  simp only [rowLocked, Bool.and_eq_false_iff, decide_eq_false_iff_not, not_not]

theorem rowLocked_of_protected {row : BitVec 7} {m : Memory} (hrow : row ≠ 127)
    (hprotect : memRead m (8182 + row.toNat / 16) ≠ 0) : rowLocked row m = true :=
  (Bool.not_eq_false _).mp (rowLocked_eq_false_iff.not.mpr (not_or.mpr ⟨hrow, hprotect⟩))

/-- A write has taken no data byte. -/
def NoDataTaken (p : SetupPort) : Prop :=
  p.transaction = .addressHigh ∨ (∃ high, p.transaction = .addressLow high) ∨
    (p.transaction = .data ∧ p.writeCount = 0)

theorem NoDataTaken.inWrite {p : SetupPort} (h : NoDataTaken p) : inWrite p.transaction = true := by
  obtain h | ⟨high, h⟩ | ⟨h, -⟩ := h <;> rw [h] <;> rfl

theorem endWrite_of_noDataTaken {p : SetupPort} (m : Memory) (h : NoDataTaken p) :
    endWrite m p = { p with transaction := .none } := by
  obtain h | ⟨high, h⟩ | ⟨h, hcount⟩ := h
  · simp [endWrite, h]
  · simp [endWrite, h]
  · cases hrow : p.rowBuffer <;> simp [endWrite, h, hcount, hrow]

section
variable {p : SetupPort} {r : RowBuffer} {m : Memory}

theorem endWrite_of_data (hdata : p.transaction = .data) (hrow : p.rowBuffer = some r) (hcount : 0 < p.writeCount)
    (hbusy : p.busy = false) :
    endWrite m p = { p with transaction := .none, busy := !rowLocked r.row m } := by
  simp [endWrite, hdata, hrow, hcount, hbusy]

theorem endWrite_of_unlocked (hdata : p.transaction = .data) (hrow : p.rowBuffer = some r)
    (hcount : 0 < p.writeCount) (hbusy : p.busy = false)
    (hopen : r.row = 127 ∨ memRead m (8182 + r.row.toNat / 16) = 0) :
    endWrite m p = { p with transaction := .none, busy := true } := by
  rw [endWrite_of_data hdata hrow hcount hbusy, rowLocked_eq_false_iff.mpr hopen]
  rfl

theorem endWrite_of_locked (hdata : p.transaction = .data) (hrow : p.rowBuffer = some r)
    (hcount : 0 < p.writeCount) (hbusy : p.busy = false) (hne : r.row ≠ 127)
    (hprotect : memRead m (8182 + r.row.toNat / 16) ≠ 0) :
    endWrite m p = { p with transaction := .none } := by
  rw [endWrite_of_data hdata hrow hcount hbusy, rowLocked_of_protected hne hprotect, Bool.not_true, ← hbusy]

end

theorem setupWriteEnd_of_write {s : State} (hactive : setupActive s = true)
    (hwrite : inWrite s.setup.transaction = true) :
    setupWriteEnd s = setSetup (endWrite s.configStore s.setup) s :=
  if_pos ⟨hactive, hwrite⟩

/-! ### Target addresses and repeated starts (R187) -/

theorem endTransaction_of_write {p : SetupPort} (m : Memory) (h : inWrite p.transaction = true) :
    endTransaction m p = endWrite m p :=
  if_pos h

theorem endTransaction_of_read {p : SetupPort} (m : Memory) (h : p.transaction = .read) :
    endTransaction m p = { p with transaction := .none } := by
  simp [endTransaction, inWrite, h]

theorem endTransaction_of_none {p : SetupPort} (m : Memory) (h : p.transaction = .none) :
    endTransaction m p = p := by
  rw [endTransaction, if_neg (by simp [h, inWrite]), ← h]

theorem endTransaction_transaction (m : Memory) (p : SetupPort) : (endTransaction m p).transaction = .none := by
  unfold endTransaction
  split <;> rfl

theorem setupActive_eq_false {s : State} (h : s.station.state ≠ .setup) : setupActive s = false := by
  simp [setupActive, h]

theorem setupTargetAddress_of_inactive (b : Byte) {s : State} (h : setupActive s = false) :
    setupTargetAddress b s = setSetup { s.setup with ack := some false } s :=
  if_pos h

theorem setupTargetAddress_of_active (b : Byte) {s : State} (h : setupActive s = true) :
    setupTargetAddress b s =
      let p := endTransaction s.configStore s.setup
      if b.toNat / 2 = targetAddress s.station.number ∧ p.busy = false then
        setSetup { p with
          ack := some true
          writeCount := 0
          transaction := if b.getLsbD 0 then .read else .addressHigh } s
      else setSetup { p with ack := some false } s :=
  if_neg (by simp [h])

/-- A repeated start is the end of the transaction before it, followed by a start. -/
theorem setupTargetAddress_repeated (b : Byte) {s : State} (h : setupActive s = true) :
    setupTargetAddress b s = setupTargetAddress b (setSetup (endTransaction s.configStore s.setup) s) := by
  have hended := endTransaction_of_none s.configStore (endTransaction_transaction s.configStore s.setup)
  rw [setupTargetAddress_of_active b h,
    setupTargetAddress_of_active (s := setSetup (endTransaction s.configStore s.setup) s) b h]
  simp only [setSetup_configStore, setSetup_setup, setSetup_station, hended]
  rfl

section
variable {b : Byte} {s : State}

theorem setupTargetAddress_of_busy (hactive : setupActive s = true) (hnone : s.setup.transaction = .none)
    (hbusy : s.setup.busy = true) : setupTargetAddress b s = setSetup { s.setup with ack := some false } s := by
  simp [setupTargetAddress_of_active b hactive, endTransaction_of_none _ hnone, hbusy]

theorem setupTargetAddress_of_other (hactive : setupActive s = true) (hnone : s.setup.transaction = .none)
    (hother : b.toNat / 2 ≠ 90 + s.station.number.toNat % 4) :
    setupTargetAddress b s = setSetup { s.setup with ack := some false } s := by
  simp [setupTargetAddress_of_active b hactive, endTransaction_of_none _ hnone, targetAddress, hother]

theorem setupTargetAddress_of_own (hactive : setupActive s = true) (hnone : s.setup.transaction = .none)
    (hbusy : s.setup.busy = false) (hown : b.toNat / 2 = 90 + s.station.number.toNat % 4) :
    setupTargetAddress b s = setSetup { s.setup with
      ack := some true
      writeCount := 0
      transaction := if b.toNat % 2 = 1 then .read else .addressHigh } s := by
  have hread : b[0] = decide (b.toNat % 2 = 1) := by simp [BitVec.getElem_eq_testBit_toNat]
  simp [setupTargetAddress_of_active b hactive, endTransaction_of_none _ hnone, hbusy, hown, targetAddress, hread]

end

/-! ### Address bytes and reads (R187, R188) -/

theorem setupAddressByte_of_high (b : Byte) {s : State} (hactive : setupActive s = true)
    (h : s.setup.transaction = .addressHigh) :
    setupAddressByte b s = setSetup { s.setup with transaction := .addressLow b, ack := some true } s := by
  simp only [setupAddressByte, hactive, h]

theorem setupAddressByte_of_low (b : Byte) {high : Byte} {s : State} (hactive : setupActive s = true)
    (h : s.setup.transaction = .addressLow high) :
    setupAddressByte b s = setSetup { s.setup with
      pointer := BitVec.ofNat 13 ((256 * high.toNat + b.toNat) % 8192)
      transaction := .data
      ack := some true } s := by
  have hpointer (x : Nat) : BitVec.ofNat 13 (x % 8192) = BitVec.ofNat 13 x :=
    BitVec.eq_of_toNat_eq (by simp)
  simp only [setupAddressByte, hactive, h, hpointer]

theorem setupReadByte_of_read {s : State} (hactive : setupActive s = true) (h : s.setup.transaction = .read) :
    setupReadByte s = setSetup { s.setup with
      dataOut := some (memRead s.configStore s.setup.pointer.toNat)
      pointer := s.setup.pointer + 1 } s := by
  simp only [setupReadByte, hactive, h]

theorem setupReadEnd_of_read {s : State} (hactive : setupActive s = true) (h : s.setup.transaction = .read) :
    setupReadEnd s = setSetup { s.setup with transaction := .none } s := by
  simp only [setupReadEnd, hactive, h]

theorem pointer_succ_toNat (pointer : BitVec 13) :
    (pointer + 1).toNat = if pointer.toNat = 8191 then 0 else pointer.toNat + 1 := by
  split <;> bv_omega

/-! ### Writes and reads (R187, R188) -/

/-- R187: after a write with no data byte, a read, or a write to a locked row, a repeated start is a start alone. -/
theorem setupTargetAddress_of_ended {s : State} (b : Byte) (hactive : setupActive s = true)
    (hended : endTransaction s.configStore s.setup = { s.setup with transaction := .none }) :
    exec (.setupTargetAddress b) s =
      exec (.setupTargetAddress b) { s with setup := { s.setup with transaction := .none } } := by
  have h := setupTargetAddress_repeated b hactive
  rw [hended] at h
  exact congrArg Host.Outcome.next h

/-- R187: a write to an unlocked row followed by a repeated start: the programming begins, and the address finds the
port busy. -/
theorem setupTargetAddress_of_programming {s : State} (b : Byte) (hactive : setupActive s = true)
    (hended : endTransaction s.configStore s.setup = { s.setup with transaction := .none, busy := true }) :
    setupTargetAddress b s =
      setSetup { s.setup with transaction := .none, busy := true, ack := some false } s := by
  rw [setupTargetAddress_repeated b hactive, hended]
  exact setupTargetAddress_of_busy hactive rfl rfl

/-- Settles O59: each event by the rule of its transaction, a repeated start as an end and a start. -/
theorem setupWritesAndReads : Obligations.SetupWritesAndReads := by
  refine ⟨⟨fun s b hstate => ?_, fun s b hactive hnone => ⟨fun hbusy => ?_, fun hbusy hown => ?_⟩,
    fun s b high hactive => ⟨fun h => ?_, fun h => ?_⟩,
    fun s r hactive hdata hrow hcount hbusy => ?_⟩, fun s hactive hread => ⟨?_, ?_⟩,
    fun s b hactive hnone hother => ?_, fun s hactive hempty => ?_,
    fun s b r hactive hdata hrow hcount hbusy => ?_, fun s b hactive hread => ?_⟩
  · exact congrArg Host.Outcome.next (setupTargetAddress_of_inactive b (setupActive_eq_false hstate))
  · exact congrArg Host.Outcome.next (setupTargetAddress_of_busy hactive hnone hbusy)
  · exact congrArg Host.Outcome.next (setupTargetAddress_of_own hactive hnone hbusy hown)
  · exact congrArg Host.Outcome.next (setupAddressByte_of_high b hactive h)
  · exact congrArg Host.Outcome.next (setupAddressByte_of_low b hactive h)
  · have hend : exec .setupWriteEnd s = .next (setSetup (endWrite s.configStore s.setup) s) :=
      congrArg Host.Outcome.next (setupWriteEnd_of_write hactive (by rw [hdata]; rfl))
    rw [hend]
    refine ⟨fun hopen => ?_, fun hne hprotect => ?_⟩
    · rw [endWrite_of_unlocked hdata hrow hcount hbusy hopen]
      rfl
    · rw [endWrite_of_locked hdata hrow hcount hbusy hne hprotect]
      rfl
  · refine ⟨_, congrArg Host.Outcome.next (setupReadByte_of_read hactive hread), rfl, ?_⟩
    exact pointer_succ_toNat s.setup.pointer
  · exact congrArg Host.Outcome.next (setupReadEnd_of_read hactive hread)
  · exact congrArg Host.Outcome.next (setupTargetAddress_of_other hactive hnone hother)
  · have hwrite : inWrite s.setup.transaction = true := NoDataTaken.inWrite hempty
    have hended := endWrite_of_noDataTaken s.configStore hempty
    refine ⟨?_, fun b => setupTargetAddress_of_ended b hactive ((endTransaction_of_write _ hwrite).trans hended)⟩
    exact congrArg Host.Outcome.next ((setupWriteEnd_of_write hactive hwrite).trans (by rw [hended]; rfl))
  · have hwrite := endTransaction_of_write s.configStore (p := s.setup) (by rw [hdata]; rfl)
    refine ⟨fun hopen => ?_, fun hne hprotect => ?_⟩
    · exact congrArg Host.Outcome.next (setupTargetAddress_of_programming b hactive
        (hwrite.trans (endWrite_of_unlocked hdata hrow hcount hbusy hopen)))
    · exact setupTargetAddress_of_ended b hactive
        (hwrite.trans (endWrite_of_locked hdata hrow hcount hbusy hne hprotect))
  · exact setupTargetAddress_of_ended b hactive (endTransaction_of_read _ hread)

end Sys2Proof.Machine
end

section
/-! The setup port's row buffer and the programming of a row (R181, R187). -/

namespace Sys2Proof.Machine

/-! ### The row buffer (R181, R187) -/

theorem nextInRow_toNat (pointer : BitVec 13) :
    (nextInRow pointer).toNat = 64 * (pointer.toNat / 64) + (pointer.toNat % 64 + 1) % 64 := by
  have := pointer.isLt
  rw [nextInRow, BitVec.toNat_ofNat, Nat.mod_eq_of_lt (by omega)]

theorem rowOf_toNat (pointer : BitVec 13) : (rowOf pointer).toNat = pointer.toNat / 64 := by
  have := pointer.isLt
  rw [rowOf, BitVec.toNat_ofNat, Nat.mod_eq_of_lt (by omega)]

theorem loadRow_getElem (row : BitVec 7) (m : Memory) (i : Fin 64) :
    (loadRow row m).bytes[i] = memRead m (64 * row.toNat + i.val) :=
  Vector.getElem_ofFn i.isLt

theorem bufferForData_of_first {p : SetupPort} (m : Memory) (h : p.writeCount = 0) :
    bufferForData m p = loadRow (rowOf p.pointer) m := by
  simp only [bufferForData, h]

theorem bufferForData_of_later {p : SetupPort} {q : RowBuffer} (m : Memory) (h : p.writeCount ≠ 0)
    (hrow : p.rowBuffer = some q) : bufferForData m p = q := by
  obtain ⟨n, hn⟩ := Nat.exists_eq_succ_of_ne_zero h
  simp only [bufferForData, hn, hrow]

/-- The row buffer once a data byte is in its place. -/
def bufferAfter (m : Memory) (p : SetupPort) (b : Byte) : RowBuffer :=
  { bufferForData m p with bytes := setAt (bufferForData m p).bytes (placeOf p.pointer) b }

theorem setupDataByte_of_data (b : Byte) {s : State} (hactive : setupActive s = true)
    (h : s.setup.transaction = .data) :
    setupDataByte b s = setSetup { s.setup with
      rowBuffer := some (bufferAfter s.configStore s.setup b)
      pointer := nextInRow s.setup.pointer
      writeCount := min 64 (s.setup.writeCount + 1)
      ack := some true } s := by
  simp only [setupDataByte, hactive, h, bufferAfter]

theorem bufferAfter_getElem_place (m : Memory) (p : SetupPort) (b : Byte) :
    (bufferAfter m p b).bytes[placeOf p.pointer] = b :=
  setAt_getElem_self _ _ _

theorem bufferAfter_getElem_ne (m : Memory) (p : SetupPort) (b : Byte) {i : Fin 64} (h : i ≠ placeOf p.pointer) :
    (bufferAfter m p b).bytes[i] = (bufferForData m p).bytes[i] :=
  setAt_getElem_ne _ _ h

/-! ### The programming of a row (R187) -/

theorem rowProgrammingEnd_of_busy {s : State} {r : RowBuffer} (hactive : setupActive s = true)
    (hbusy : s.setup.busy = true) (hrow : s.setup.rowBuffer = some r) :
    rowProgrammingEnd s = { s with
      configStore := memWriteBytes s.configStore (64 * r.row.toNat) r.bytes.toList
      setup := { s.setup with busy := false } } := by
  simp only [rowProgrammingEnd, hactive, hbusy, hrow]

theorem memRead_rowWritten {m : Memory} (hwf : memWf m = true) (base : Nat) (bytes : Vector Byte 64) (i : Fin 64) :
    memRead (memWriteBytes m base bytes.toList) (base + i.val) = bytes[i] := by
  rw [memRead_writeBytes _ _ _ _ hwf, if_pos (by simp), Nat.add_sub_cancel_left]
  simp

theorem memRead_outside_row {m : Memory} (hwf : memWf m = true) {base a : Nat} (bytes : Vector Byte 64)
    (h : a < base ∨ base + 64 ≤ a) : memRead (memWriteBytes m base bytes.toList) a = memRead m a := by
  rw [memRead_writeBytes _ _ _ _ hwf, if_neg (by rw [Vector.length_toList]; omega)]

/-- Settles O60: the row buffer takes the byte in its place, and the programming writes the row from it. -/
theorem setupDataAndProgramming : Obligations.SetupDataAndProgramming := by
  refine ⟨fun s b hactive hdata => ?_, fun s r hactive hbusy hrow hwf => ?_⟩
  · have hnext := nextInRow_toNat s.setup.pointer
    refine ⟨_, _, congrArg Host.Outcome.next (setupDataByte_of_data b hactive hdata), rfl,
      show (nextInRow _).toNat / 64 = _ by omega, show (nextInRow _).toNat % 64 = _ by omega, rfl, rfl, rfl,
      bufferAfter_getElem_place _ _ b, fun hfirst => ⟨?_, fun i hi => ?_⟩, fun q hlater hq => ⟨?_, fun i hi => ?_⟩⟩
    · rw [bufferAfter, bufferForData_of_first _ hfirst]
      exact rowOf_toNat s.setup.pointer
    · rw [bufferAfter_getElem_ne _ _ b hi, bufferForData_of_first _ hfirst, loadRow_getElem, rowOf_toNat]
    · rw [bufferAfter, bufferForData_of_later _ hlater hq]
    · rw [bufferAfter_getElem_ne _ _ b hi, bufferForData_of_later _ hlater hq]
  · exact ⟨_, congrArg Host.Outcome.next (rowProgrammingEnd_of_busy hactive hbusy hrow), rfl,
      memRead_rowWritten hwf _ r.bytes, fun a => memRead_outside_row hwf r.bytes⟩

end Sys2Proof.Machine
end

section
/-! The machine as a whole: a step runs the command at the front of the queue (log 3), and every command completes
and leaves the queue alone (log 2, log 17). -/

namespace Sys2Proof.Machine

/-! ### A step -/

theorem step_of_empty {s : State} (h : s.pending = []) : step s = .next s := by
  unfold step
  rw [h]

theorem step_of_front (c : Instr) (rest : List Instr) (s : State) :
    step { s with pending := c :: rest } = exec c { s with pending := rest } := rfl

/-- Settles O1: the two cases of the queue. -/
theorem stepRunsFrontCommand : Obligations.StepRunsFrontCommand :=
  ⟨step_of_front, fun _ => step_of_empty⟩

/-! ### The queue of waiting commands -/

theorem exec_completes (c : Instr) (s : State) : ∃ t, exec c s = .next t := by
  cases c <;> exact ⟨_, rfl⟩

/-- A command that takes effect only where its case holds (log 6) leaves the queue alone when its effect does. -/
theorem ite_pending {s t : State} {p : Prop} [Decidable p] (h : t.pending = s.pending) :
    (if p then t else s).pending = s.pending := by
  split
  · exact h
  · rfl

/-- No command touches the queue: those of message kinds by what their owners keep, those that name one case of an
event by what the event keeps, and the rest by their frames. -/
theorem exec_keeps_pending {c : Instr} {s t : State} (h : exec c s = .next t) : t.pending = s.pending := by
  cases c
  case time m => cases h; exact receive_pending _ _ _ s fun x => (takeTime_keeps m x).1
  case preset m => cases h; exact receive_pending _ _ _ s fun x => (takePreset_keeps m x).1
  case commit m => cases h; exact receive_pending _ _ _ s fun x => (takeCommit_keeps m x).1
  case cond m => cases h; exact receive_pending _ _ _ s fun x => (takeCond_keeps m x).1
  case demand m => cases h; exact receive_pending _ _ _ s fun x => (takeDemand_keeps m x).1
  case restart m => cases h; exact receive_pending _ _ _ s fun x => (takeRestart_keeps m x).1
  case reportReceived => cases h; exact receive_pending _ _ _ s fun _ => rfl
  case checkValueMismatch | unknownKind =>
    cases h
    split
    · rfl
    · exact receive_pending _ _ _ s fun _ => rfl
  case take m =>
    cases h
    split
    · rfl
    · exact receive_pending _ _ _ s fun x => (takeCue_keeps m x).1
  case cancel m => cases h; exact ite_pending (receive_pending _ _ _ s fun x => (takeCue_keeps m x).1)
  case protectOn m | protectOff m | protectCodeError m =>
    cases h
    exact ite_pending (receive_pending _ _ _ s fun x => (takeProtect_keeps m x).1)
  case mapErase m | mapProgram m | mapCodeError m =>
    cases h
    exact ite_pending (receive_pending _ _ _ s fun x => (takeMap_keeps m x).1)
  case queryUnknownRecord m =>
    cases h
    exact ite_pending (receive_pending _ _ _ s fun x => (takeQuery_keeps m x).1)
  case queryStatus m | queryBudget m | queryPeer m | queryCues m | queryLook m | queryDirectory m | queryCounters m |
      queryChannel m | queryWall m => cases h; exact (queryFor_keeps _ m s).1
  case messageDiscard => cases h; exact ite_pending (attemptLost_keeps s).1
  case dwellExpiry => cases h; exact ite_pending (lookFrameStart_keeps s).1
  case fadeCompletion => cases h; exact ite_pending (fadeFrameStart_keeps s).1
  case seekFramesEnd | joinFramesEnd => cases h; exact ite_pending (controllerFrameStart_keeps s).1
  case wallFreeze | wallRun | wallMute | wallUnmute => cases h; exact (nextWallAction_keeps _ s).1
  all_goals
    cases h
    simp

/-- Settles O2: every command answers a next state, by its arm, and its frame holds the queue. -/
theorem everyCommandCompletes : Obligations.EveryCommandCompletes := fun c s =>
  have ⟨t, h⟩ := exec_completes c s
  ⟨t, h, exec_keeps_pending h⟩

end Sys2Proof.Machine
end
